-- ==== Sys2Proof/Word.lean ====
section
/-! DEFINITION. The words of the MG-316: bytes on the wire, and station ticks. Quantities the manual adds and compares
(levels, openings, flows, ticks) are natural numbers, as section 2.1 of 00_scope.md calls for exact integer arithmetic. -/

namespace Sys2Proof

/-- One byte of a frame, a table image or a flash slot (chapter 12). -/
abbrev Byte := BitVec 8

/-- A station tick, 100 ms (00_scope.md 2.1). Unbounded here; sent as its low 32 bits (R171). -/
abbrev Tick := Nat

/-- A timer: stopped, or running to an expiry tick (00_scope.md 2.2). -/
abbrev Timer := Option Tick

/-- Whether a timer is running and its expiry tick has been reached. -/
abbrev timerDue (t : Timer) (now : Tick) : Bool :=
  match t with
  | some e => decide (e ≤ now)
  | none => false

/-- The distance of two openings. -/
abbrev gap (a b : Nat) : Nat := (a - b) + (b - a)

end Sys2Proof
end

