-- ==== Sys2Proof/Syntax.lean ====
section
/-! DEFINITION. The commands of the MG-316: the frames that arrive on its four ports, and one constructor of `Instr` for
each row of spec/opcode_table.json. A station-bus or reach-link frame is given by the fields of its envelope (R171) as they
were received, right or wrong; the two rows for frames that fail a check carry the bytes as received. -/

namespace Sys2Proof

/-- The two station-bus ports (chapter 10). -/
inductive BusPort
  | L
  | F
  deriving DecidableEq, Repr

/-- The two reach ports (chapter 7). -/
inductive ReachSide
  | U
  | D
  deriving DecidableEq, Repr

/-- A station-bus frame by the fields of the envelope of R171, with the payload bytes that were received. -/
structure BusFrame where
  destination : Byte
  source : Byte
  kind : Byte
  length : Byte
  payload : List Byte
  check : BitVec 16
  deriving DecidableEq, Repr

/-- A reach-link frame by the fields of the envelope of R171, with the payload bytes that were received. -/
structure ReachFrame where
  sender : Byte
  kind : Byte
  sequence : Byte
  length : Byte
  payload : List Byte
  check : BitVec 16
  deriving DecidableEq, Repr

/-- The commands, one constructor for each row of spec/opcode_table.json. -/
inductive Instr
  /-- POWER_ON (R122); the MODE pins, MODE1 first. -/
  | powerOn (modePins : BitVec 2)
  /-- FLASH_READ_COMPLETION (R169). -/
  | flashReadCompletion
  /-- START_WAIT_EXPIRY (R125). -/
  | startWaitExpiry
  /-- SAMPLE_RECEIVED (R45): a SAMPLE frame received on Port F. -/
  | sampleReceived (f : BusFrame)
  /-- REPORT_RECEIVED (R23): a REPORT frame received on Port F. -/
  | reportReceived (f : BusFrame)
  /-- ORDER_RECEIVED (R92): an ORDER frame received on Port L. -/
  | orderReceived (f : BusFrame)
  /-- KEEPALIVE_RECEIVED (R98): a KEEPALIVE frame received on Port L. -/
  | keepaliveReceived (f : BusFrame)
  /-- DRIVE_FRAME_RECEIVED (R99): a DRIVE frame received on Port L. -/
  | driveFrameReceived (f : BusFrame)
  /-- FRAME_FORWARD (R152): a frame received on a port that the part does not take. -/
  | frameForward (p : BusPort) (f : BusFrame)
  /-- MANAGE_UNKNOWN_REQUEST (R156): a MANAGE frame received on Port L with a request the part does not know. -/
  | manageUnknownRequest (f : BusFrame)
  /-- READ_STATUS (R166). -/
  | readStatus
  /-- READ_GATE (R166); gate number. -/
  | readGate (gate : Byte)
  /-- READ_CHANNEL (R44); channel number. -/
  | readChannel (channel : Byte)
  /-- READ_CONDITIONS (R146); starting record number. -/
  | readConditions (start : Byte)
  /-- READ_PORTS (R147). -/
  | readPorts
  /-- READ_TABLE (R167); table id and offset. -/
  | readTable (table : Byte) (offset : BitVec 16)
  /-- ACK_CONDITION (R145); condition kind and subject as coded in R171. -/
  | ackCondition (kind : Byte) (subject : Byte)
  /-- LOAD_BEGIN (R160); table id and image length. -/
  | loadBegin (table : Byte) (length : BitVec 16)
  /-- LOAD_SEGMENT (R161); offset and data. -/
  | loadSegment (offset : BitVec 16) (data : List Byte)
  /-- LOAD_END (R162); the CRC of the whole image. -/
  | loadEnd (crc : BitVec 16)
  /-- LOAD_ABORT (R163). -/
  | loadAbort
  /-- LOAD_IDLE_EXPIRY (R163). -/
  | loadIdleExpiry
  /-- SAVE (R168). -/
  | save
  /-- FLASH_WRITE_COMPLETION (R168); the slot's bytes as read back, where they differ from those written. -/
  | flashWriteCompletion (readBack : Option (List Byte))
  /-- ENTER (R127). -/
  | enter
  /-- RESUME (R133). -/
  | resume
  /-- FREEZE (R132). -/
  | freeze
  /-- CONFIGURE (R134). -/
  | configure
  /-- RESTORE_FORECAST (R113). -/
  | restoreForecast
  /-- CLEAR_GATE (R28); gate number. -/
  | clearGate (gate : Byte)
  /-- RESTART (R135). -/
  | restart
  /-- RELEASE_RECEIVED (R107): a RELEASE frame on Port U. -/
  | releaseReceived (f : ReachFrame)
  /-- ACCEPT_RECEIVED (R115): an ACCEPT frame on Port D. -/
  | acceptReceived (f : ReachFrame)
  /-- LINKCHECK_RECEIVED (R105): a LINKCHECK frame on a reach port. -/
  | linkcheckReceived (p : ReachSide) (f : ReachFrame)
  /-- TRANSMIT_COMPLETION (R155). -/
  | transmitCompletion (p : BusPort)
  /-- REACH_TRANSMIT_COMPLETION (R106). -/
  | reachTransmitCompletion (p : ReachSide)
  /-- SEEN_WATCH_EXPIRY (R8). -/
  | seenWatchExpiry (g : Fin 16)
  /-- RECOVERING_EXPIRY (R9). -/
  | recoveringExpiry (g : Fin 16)
  /-- TCY_WAIT_EXPIRY (R10). -/
  | tcyWaitExpiry (g : Fin 16)
  /-- UNLOCKING_EXPIRY (R13). -/
  | unlockingExpiry (g : Fin 16)
  /-- LOCK_ALLOWED_EXPIRY (R14). -/
  | lockAllowedExpiry (g : Fin 16)
  /-- LOCKING_EXPIRY (R16). -/
  | lockingExpiry (g : Fin 16)
  /-- SPILL_RUN_EXPIRY (R20). -/
  | spillRunExpiry (g : Fin 16)
  /-- REVERSAL_DWELL_EXPIRY (R20). -/
  | reversalDwellExpiry (g : Fin 16)
  /-- MOVE_WATCH_EXPIRY (R22). -/
  | moveWatchExpiry (g : Fin 16)
  /-- SILENCE_WATCH_EXPIRY (R25). -/
  | silenceWatchExpiry (g : Fin 16)
  /-- LAG_WATCH_EXPIRY (R26). -/
  | lagWatchExpiry (g : Fin 16)
  /-- SPACING_EXPIRY (R37); power group. -/
  | spacingExpiry (k : Fin 4)
  /-- GOVERNING_ROUND (R69). -/
  | governingRound
  /-- REFRESH_TIMER_EXPIRY (R118). -/
  | refreshTimerExpiry
  /-- ORDER_HOLD_EXPIRY (R95). -/
  | orderHoldExpiry (g : Fin 16)
  /-- ORDER_TIMER_EXPIRY (R129). -/
  | orderTimerExpiry
  /-- STALE_WATCH_EXPIRY (R46); channel. -/
  | staleWatchExpiry (c : Fin 8)
  /-- REACH_SILENCE_EXPIRY (R105). -/
  | reachSilenceExpiry (p : ReachSide)
  /-- LINK_PERIOD_EXPIRY (R106). -/
  | linkPeriodExpiry (p : ReachSide)
  /-- FORECAST_DUE_EXPIRY (R110). -/
  | forecastDueExpiry
  /-- RECEIVE_ERROR_DISCARD (R148): the bytes of a frame as received on a station-bus port. -/
  | receiveErrorDiscard (p : BusPort) (raw : List Byte)
  /-- REACH_RECEIVE_ERROR (R104): the bytes of a frame as received on a reach port. -/
  | reachReceiveError (p : ReachSide) (raw : List Byte)
  deriving DecidableEq, Repr

end Sys2Proof
end

