-- ==== Sys2Proof/Decode.lean ====
section
/-! DEFINITION. The words of the opcode table. No row of spec/opcode_table.json gives bits: every "fields" list is empty and
no row is fixed, since a command of the MG-316 is an event on a port, a timer or a pin, not a word. -/

namespace Sys2Proof

/-- The command spelled by a word of the table's bits: none, for the table gives no row bits. -/
def decodeTableWord (_nbits _w : Nat) : Option Instr := none

end Sys2Proof
end

