-- ==== Sys2Proof/Config.lean ====
section
/-! DEFINITION. The free values of the model: what the manual leaves open is an opaque constant with no body, applied to the
number of values drawn so far, so that every draw is a fresh value and no proof can rest on one. -/

namespace Sys2Proof.Config

/-- Which of the events due at one tick the part takes first, by draw. R70, R101, R8 and others: "Either may be taken
first". DESIGN CHOICE, log entry 1. -/
opaque tieBreak : Nat → Nat

/-- The request code in the REPLY to a MANAGE frame whose payload is empty, by draw. R156 has it answered
UNKNOWN_REQUEST and R171 gives the REPLY a request code, but there is none to return. DESIGN CHOICE, log entry 10. -/
opaque missingRequestCode : Nat → Byte

/-- A byte of the table entry that READ_GATE or READ_CHANNEL returns while its table is not VALID, by draw and offset.
R171 asks for the entry "as loaded" and states no value when none is loaded. DESIGN CHOICE, log entry 11. -/
opaque unloadedEntryByte : Nat → Nat → Byte

/-- Whether a grant is still on its way to its gate when the arbiter's event ends, by draw, station tick and gate number. R12, R34
and R39 let a grant cross a withdrawal, a fault or a freeze of its gate. DESIGN CHOICE, log entry 34. -/
opaque grantCrosses : Nat → Tick → Nat → Bool

end Sys2Proof.Config
end

