-- ==== Sys2Proof/Machine/Bytes.lean ====
section
/-! DEFINITION. Byte order and the check: multi-byte fields most significant byte first (chapter 12), the CRC-16 of R170,
and the building and reading of frame envelopes (R171). -/

namespace Sys2Proof.Machine

/-- A number as `w` bytes, most significant first (chapter 12). -/
def beBytes : (w : Nat) → (n : Nat) → List Byte
  | 0, _ => []
  | w + 1, n => beBytes w (n / 256) ++ [BitVec.ofNat 8 n]

/-- The number that a run of bytes carries, most significant first (chapter 12). -/
def beNat (b : List Byte) : Nat :=
  b.foldl (fun a x => a * 256 + x.toNat) 0

/-- The field of width `w` at offset `off` of a run of bytes. -/
def beAt (b : List Byte) (off w : Nat) : Nat :=
  beNat ((b.drop off).take w)

/-- A signed field, two's complement, of four bytes. -/
def signedAt (b : List Byte) (off : Nat) : Int :=
  (BitVec.ofNat 32 (beAt b off 4)).toInt

/-- One bit of the CRC register of R170: generator polynomial 0x1021, most significant bit first. -/
def crcBit (r : BitVec 16) : BitVec 16 :=
  if r.msb then (r <<< 1) ^^^ 0x1021#16 else r <<< 1

/-- One byte through the CRC register, no reflection (R170). -/
def crcByte (r : BitVec 16) (b : Byte) : BitVec 16 :=
  crcBit (crcBit (crcBit (crcBit (crcBit (crcBit (crcBit (crcBit (r ^^^ (b.setWidth 16 <<< 8)))))))))

/-- The CRC-16 of R170: start value 0xFFFF, no final inversion. -/
def crc16 (b : List Byte) : BitVec 16 :=
  b.foldl crcByte 0xFFFF#16

/-- A CRC as its two bytes, most significant first (R170). -/
def crcBytes (c : BitVec 16) : List Byte :=
  beBytes 2 c.toNat

/-- What the CRC of a station-bus frame covers: destination through the last payload byte (R170). -/
def busCovered (f : BusFrame) : List Byte :=
  [f.destination, f.source, f.kind, f.length] ++ f.payload

/-- The bytes of a station-bus frame on the wire (R171). -/
def busWire (f : BusFrame) : List Byte :=
  busCovered f ++ crcBytes f.check

/-- A station-bus frame made by the part, with its length and check (R170, R171). -/
def makeBusFrame (destination source kind : Byte) (payload : List Byte) : BusFrame :=
  let length : Byte := BitVec.ofNat 8 payload.length
  { destination := destination, source := source, kind := kind, length := length, payload := payload
    check := crc16 ([destination, source, kind, length] ++ payload) }

/-- The envelope of a run of bytes received on a station-bus port; none where it is too short to hold one. -/
def readBusWire (raw : List Byte) : Option BusFrame :=
  match raw with
  | d :: s :: k :: l :: rest =>
    if rest.length < 2 then none
    else
      let n := rest.length - 2
      some { destination := d, source := s, kind := k, length := l, payload := rest.take n
             check := BitVec.ofNat 16 (beNat (rest.drop n)) }
  | _ => none

/-- What the CRC of a reach-link frame covers: sender station number through the last payload byte (R170). -/
def reachCovered (f : ReachFrame) : List Byte :=
  [f.sender, f.kind, f.sequence, f.length] ++ f.payload

/-- The bytes of a reach-link frame on the wire (R171). -/
def reachWire (f : ReachFrame) : List Byte :=
  reachCovered f ++ crcBytes f.check

/-- A reach-link frame made by the part, with its length and check (R106, R171). -/
def makeReachFrame (sender kind sequence : Byte) (payload : List Byte) : ReachFrame :=
  let length : Byte := BitVec.ofNat 8 payload.length
  { sender := sender, kind := kind, sequence := sequence, length := length, payload := payload
    check := crc16 ([sender, kind, sequence, length] ++ payload) }

/-- The envelope of a run of bytes received on a reach port; none where it is too short to hold one. -/
def readReachWire (raw : List Byte) : Option ReachFrame :=
  match raw with
  | s :: k :: q :: l :: rest =>
    if rest.length < 2 then none
    else
      let n := rest.length - 2
      some { sender := s, kind := k, sequence := q, length := l, payload := rest.take n
             check := BitVec.ofNat 16 (beNat (rest.drop n)) }
  | _ => none

end Sys2Proof.Machine
end

