-- ==== Sys2Proof/Machine/Operands.lean ====
section
/-! DEFINITION. The operand forms of the commands: the kinds and payload fields of frames, the receive checks of R104 and R148,
and the requests that a MANAGE payload spells (R171). -/

namespace Sys2Proof.Machine

/-! ## Codes of R171 -/

abbrev kindSample : Byte := 1#8
abbrev kindReport : Byte := 2#8
abbrev kindOrder : Byte := 3#8
abbrev kindAnswer : Byte := 4#8
abbrev kindDrive : Byte := 5#8
abbrev kindKeepalive : Byte := 6#8
abbrev kindManage : Byte := 7#8
abbrev kindReply : Byte := 8#8
abbrev kindNotice : Byte := 9#8

abbrev reachRelease : Byte := 1#8
abbrev reachAccept : Byte := 2#8
abbrev reachLinkcheck : Byte := 3#8

/-- The bus address of the part (00_scope.md 4). -/
abbrev partAddress : Byte := 254#8

/-- The broadcast address (00_scope.md 4). -/
abbrev broadcast : Byte := 255#8

/-- The bus address of the control computer (00_scope.md 4). -/
abbrev controlAddress : Byte := 0#8

/-- Results of a management request, with the codes of R171. -/
inductive Result
  | done
  | refusedMode
  | refusedBusy
  | refusedLevel
  | refusedTables
  | badTable
  | badSegment
  | checkFailed
  | invalidContent
  | unknownRequest
  deriving DecidableEq, Repr

/-- The code of a result (R171). -/
def Result.code : Result → Nat
  | .done => 0
  | .refusedMode => 1
  | .refusedBusy => 2
  | .refusedLevel => 3
  | .refusedTables => 4
  | .badTable => 5
  | .badSegment => 6
  | .checkFailed => 7
  | .invalidContent => 8
  | .unknownRequest => 9

/-- Results of an order, with the codes of R171. -/
inductive OrderResult
  | accepted
  | clamped
  | refusedMode
  | refusedGate
  deriving DecidableEq, Repr

/-- The code of an order's result (R171). -/
def OrderResult.code : OrderResult → Nat
  | .accepted => 0
  | .clamped => 1
  | .refusedMode => 2
  | .refusedGate => 3

/-- Drive commands (R6). -/
inductive DriveCommand
  | unlock
  | move
  | runRaise
  | runLower
  | stop
  | lock
  deriving DecidableEq, Repr

/-- The code of a drive command (R171). -/
def DriveCommand.code : DriveCommand → Nat
  | .unlock => 1
  | .move => 2
  | .runRaise => 3
  | .runLower => 4
  | .stop => 5
  | .lock => 6

/-! ## Receive checks -/

/-- The payload length of the kinds that R148 holds to theirs. -/
def fixedPayload (kind : Byte) : Option Nat :=
  if kind = kindSample then some 6
  else if kind = kindReport then some 5
  else if kind = kindOrder then some 6
  else if kind = kindKeepalive then some 0
  else none

/-- Whether a frame to the part is one the part takes at that port (R150, R151). -/
def takenAt (p : BusPort) (kind : Byte) : Bool :=
  match p with
  | .L => kind == kindKeepalive || kind == kindManage
  | .F => false

/-- Whether a frame received on a station-bus port passes every check of R148. -/
def busFrameValid (p : BusPort) (f : BusFrame) : Bool :=
  f.check == crc16 (busCovered f) &&
  decide (f.length.toNat ≤ 240) && f.length.toNat == f.payload.length &&
  (match fixedPayload f.kind with
   | some n => f.payload.length == n
   | none => true) &&
  !(f.destination == partAddress && !takenAt p f.kind)

/-- The payload length of the reach-link kinds (R171). -/
def reachPayload (kind : Byte) : Option Nat :=
  if kind = reachRelease then some 4
  else if kind = reachAccept then some 4
  else if kind = reachLinkcheck then some 0
  else none

/-- Whether a frame received on a present reach port passes every check of R104. -/
def reachFrameValid (p : ReachSide) (neighbour : Nat) (f : ReachFrame) : Bool :=
  f.check == crc16 (reachCovered f) && f.length.toNat == f.payload.length &&
  reachPayload f.kind == some f.payload.length &&
  !(f.kind == reachRelease && p == .D) && !(f.kind == reachAccept && p == .U) &&
  f.sender.toNat == neighbour

/-! ## Payload fields (R171) -/

/-- Sample qualities as a frame gives them (R171). -/
inductive SampleQuality
  | good
  | questionable
  | bad
  deriving DecidableEq, Repr

/-- A SAMPLE's fields with its source address (R45, R171). -/
structure Sample where
  source : Nat
  point : Nat
  value : Int
  quality : SampleQuality
  deriving DecidableEq, Repr

/-- The fields of a SAMPLE frame (R171). -/
def readSample (f : BusFrame) : Sample :=
  { source := f.source.toNat, point := beAt f.payload 0 1, value := signedAt f.payload 1
    quality :=
      if beAt f.payload 5 1 = 0 then .good else if beAt f.payload 5 1 = 1 then .questionable else .bad }

/-- A REPORT's fields (R23, R171); the brake field is read as RELEASED where it is not 0. -/
structure Report where
  position : Nat
  released : Bool
  running : Bool
  fault : Bool
  deriving DecidableEq, Repr

/-- The fields of a REPORT frame (R171). -/
def readReport (f : BusFrame) : Report :=
  { position := beAt f.payload 0 2, released := beAt f.payload 2 1 != 0, running := beAt f.payload 3 1 != 0
    fault := beAt f.payload 4 1 != 0 }

/-- An ORDER's fields (R92, R171). -/
structure Order where
  opening : Nat
  hold : Nat
  lockAfter : Bool
  tag : Byte
  deriving DecidableEq, Repr

/-- The fields of an ORDER frame (R171). -/
def readOrder (f : BusFrame) : Order :=
  { opening := beAt f.payload 0 2, hold := beAt f.payload 2 2, lockAfter := beAt f.payload 4 1 != 0
    tag := BitVec.ofNat 8 (beAt f.payload 5 1) }

/-! ## Management requests (R171) -/

/-- The management requests with their arguments (R171). -/
inductive Request
  | readStatus
  | readGate (gate : Byte)
  | readChannel (channel : Byte)
  | readConditions (start : Byte)
  | readPorts
  | readTable (table : Byte) (offset : BitVec 16)
  | ackCondition (kind subject : Byte)
  | loadBegin (table : Byte) (length : BitVec 16)
  | loadSegment (offset : BitVec 16) (data : List Byte)
  | loadEnd (crc : BitVec 16)
  | loadAbort
  | save
  | enter
  | resume
  | freeze
  | configure
  | restoreForecast
  | clearGate (gate : Byte)
  | restart
  deriving DecidableEq, Repr

/-- The request code (R171). -/
def Request.code : Request → Byte
  | .readStatus => 1
  | .readGate _ => 2
  | .readChannel _ => 3
  | .readConditions _ => 4
  | .readPorts => 5
  | .readTable _ _ => 6
  | .ackCondition _ _ => 7
  | .loadBegin _ _ => 8
  | .loadSegment _ _ => 9
  | .loadEnd _ => 10
  | .loadAbort => 11
  | .save => 12
  | .enter => 13
  | .resume => 14
  | .freeze => 15
  | .configure => 16
  | .restoreForecast => 17
  | .clearGate _ => 18
  | .restart => 19

/-- A two-byte argument. -/
def wordOf (hi lo : Byte) : BitVec 16 := hi ++ lo

/-- Whether a LOAD_SEGMENT carries as many data bytes as it takes (R171). -/
def segmentLengthOk (data : List Byte) : Bool :=
  decide (1 ≤ data.length ∧ data.length ≤ 200)

/-- The request of a code with its argument bytes; none where the code is unknown or the arguments do not number what the
request takes (R156, R171). -/
def parseArguments (code : Nat) (a : List Byte) : Option Request :=
  match code, a with
  | 1, [] => some .readStatus
  | 2, [g] => some (.readGate g)
  | 3, [c] => some (.readChannel c)
  | 4, [n] => some (.readConditions n)
  | 5, [] => some .readPorts
  | 6, [t, h, l] => some (.readTable t (wordOf h l))
  | 7, [k, u] => some (.ackCondition k u)
  | 8, [t, h, l] => some (.loadBegin t (wordOf h l))
  | 9, h :: l :: d => if segmentLengthOk d then some (.loadSegment (wordOf h l) d) else none
  | 10, [h, l] => some (.loadEnd (wordOf h l))
  | 11, [] => some .loadAbort
  | 12, [] => some .save
  | 13, [] => some .enter
  | 14, [] => some .resume
  | 15, [] => some .freeze
  | 16, [] => some .configure
  | 17, [] => some .restoreForecast
  | 18, [g] => some (.clearGate g)
  | 19, [] => some .restart
  | _, _ => none

/-- The request a MANAGE payload spells, if the part knows it (R156, R171). -/
def parseRequest : List Byte → Option Request
  | [] => none
  | code :: a => parseArguments code.toNat a

/-- The MANAGE payload that spells a request (R171). -/
def Request.payload : Request → List Byte
  | .readGate g => [2, g]
  | .readChannel c => [3, c]
  | .readConditions n => [4, n]
  | .readTable t o => [6, t] ++ beBytes 2 o.toNat
  | .ackCondition k u => [7, k, u]
  | .loadBegin t n => [8, t] ++ beBytes 2 n.toNat
  | .loadSegment o d => [9] ++ beBytes 2 o.toNat ++ d
  | .loadEnd c => [10] ++ beBytes 2 c.toNat
  | .clearGate g => [18, g]
  | r => [r.code]

end Sys2Proof.Machine
end

