-- ==== Sys2Proof/Machine/State.lean ====
section
/-! DEFINITION. The state of the MG-316 as plain data: the records of its ten blocks as the chapters give them, the flash,
and the queue of commands that wait. Blocks that act on one another inside an event are held together (`Yard`: gates, groups
and Port F; `Desk`: conditions and Port L), so that what an event leaves alone can be seen from its shape. -/

namespace Sys2Proof.Machine

/-! ## Tables and subjects -/

/-- The eighteen tables of R157, by name. -/
inductive TableId
  | station
  | gates
  | groups
  | channels
  | conditions
  | curve (k : Fin 8)
  | ramp
  | flood
  | accept
  | reach
  | fill
  deriving DecidableEq, Repr

/-- The seventeen condition kinds of R136, each with its subject. -/
inductive Cond
  | headHigh
  | controlSilent
  | levelLost
  | gateRunaway (g : Fin 16)
  | gateFault (g : Fin 16)
  | gateUnseen (g : Fin 16)
  | gateLag (g : Fin 16)
  | headLow
  | channelStale (c : Fin 8)
  | linkLost (p : ReachSide)
  | noticeGap
  | forecastQueueFull
  | loadFailed (t : TableId)
  | portErrorsBus (p : BusPort)
  | portErrorsReach (p : ReachSide)
  | bypassBlocked (g : Fin 16)
  | rampHeld
  | noticeLost
  deriving DecidableEq, Repr

/-- The STATION table (R157, R172). -/
structure Station where
  stationNumber : Nat := 0
  upstream : Nat := 0
  downstream : Nat := 0
  roundInterval : Nat := 0
  floodEntry : Nat := 0
  floodExit : Nat := 0
  minimumLevel : Nat := 0
  orderTimeout : Nat := 0
  seenTimeout : Nat := 0
  reportTimeout : Nat := 0
  linkPeriod : Nat := 0
  linkTimeout : Nat := 0
  noticeThreshold : Nat := 0
  noticeRefresh : Nat := 0
  defaultAcceptance : Nat := 0
  tailwaterDefault : Nat := 0
  noticeMask : Nat := 0
  portErrorThreshold : Nat := 0
  deriving DecidableEq, Repr

/-- Gate kinds (R1). -/
inductive GateKind
  | wicket
  | spill
  deriving DecidableEq, Repr

/-- The loaded part of a gate record (R1, R172). -/
structure GateCfg where
  inService : Bool := false
  kind : GateKind := .wicket
  driveAddress : Nat := 0
  group : Fin 4 := 0
  curve : Fin 8 := 0
  minOpening : Nat := 0
  maxOpening : Nat := 0
  slew : Nat := 0
  band : Nat := 0
  moveTimeout : Nat := 0
  tUL : Nat := 0
  tFM : Nat := 0
  tST : Nat := 0
  tLK : Nat := 0
  tCY : Nat := 0
  tID : Nat := 0
  travelTime : Nat := 0
  reversalDwell : Nat := 0
  lagTolerance : Nat := 0
  lagTime : Nat := 0
  runawayTolerance : Nat := 0
  deriving DecidableEq, Repr

/-- Kinds of power supply (R30). -/
inductive GroupKind
  | hydraulic
  | electric
  deriving DecidableEq, Repr

/-- The loaded part of a group record (R30). -/
structure GroupCfg where
  kind : GroupKind := .hydraulic
  capacity : Nat := 0
  spacing : Nat := 0
  deriving DecidableEq, Repr

/-- Channel roles, in the code order of R172. -/
inductive Role
  | unused
  | headwater
  | tailwater
  deriving DecidableEq, Repr

/-- The loaded part of a channel record (R43). -/
structure ChannelCfg where
  role : Role := .unused
  source : Nat := 0
  point : Nat := 0
  validMin : Nat := 0
  validMax : Nat := 0
  staleLimit : Nat := 0
  deriving DecidableEq, Repr

/-- A rating curve (R55): scale shift, head breakpoints, and the entry grid by rows of opening. -/
structure Curve where
  shift : Nat
  heads : List Nat
  rows : List (List Nat)
  deriving DecidableEq, Repr

/-- A band of the RAMP table (R80). -/
structure RampBand where
  upper : Nat
  rise : Nat
  fall : Nat
  deriving DecidableEq, Repr

/-- The RAMP table (R80, R81). -/
structure Ramp where
  floodRise : Nat
  bands : List RampBand
  deriving DecidableEq, Repr

/-- A row of the FLOOD table (R77). -/
structure FloodRow where
  threshold : Nat
  opening : Nat
  deriving DecidableEq, Repr

/-- A row of the ACCEPT table (R116). -/
structure AcceptRow where
  threshold : Nat
  acceptance : Nat
  deriving DecidableEq, Repr

/-- A band of the REACH table (R108). -/
structure ReachBand where
  upper : Nat
  delay : Nat
  deriving DecidableEq, Repr

/-- The REACH table (R108, R111). -/
structure Reach where
  lateral : Nat
  initial : Nat
  bands : List ReachBand
  deriving DecidableEq, Repr

/-- A table's state with, while it is VALID, its contents (R158). -/
inductive TableSlot (α : Type)
  | absent
  | loading
  | valid (contents : α)
  | invalid
  deriving DecidableEq, Repr

/-- A shadow's state with, while it is READY, its image (R158). -/
inductive Shadow (α : Type)
  | none
  | loading
  | ready (image : α)
  deriving DecidableEq, Repr

/-- An operating table: the active copy and the shadow (R157, R158). -/
structure OpTable (α : Type) where
  active : TableSlot α := .absent
  shadow : Shadow α := .none
  deriving DecidableEq, Repr

/-- The eighteen tables (R157). -/
structure Tables where
  station : TableSlot Station := .absent
  gates : TableSlot (List GateCfg) := .absent
  groups : TableSlot (List GroupCfg) := .absent
  channels : TableSlot (List ChannelCfg) := .absent
  conditions : TableSlot (List Nat) := .absent
  curves : Vector (TableSlot Curve) 8 := Vector.replicate 8 .absent
  ramp : OpTable Ramp := {}
  flood : OpTable (List FloodRow) := {}
  accept : OpTable (List AcceptRow) := {}
  reach : OpTable Reach := {}
  fill : OpTable (List (Fin 16)) := {}
  deriving DecidableEq, Repr

/-- The contents of one table, as an image that passed its checks gives them (R157). -/
inductive TableData
  | station (t : Station)
  | gates (t : List GateCfg)
  | groups (t : List GroupCfg)
  | channels (t : List ChannelCfg)
  | conditions (t : List Nat)
  | curve (k : Fin 8) (t : Curve)
  | ramp (t : Ramp)
  | flood (t : List FloodRow)
  | accept (t : List AcceptRow)
  | reach (t : Reach)
  | fill (t : List (Fin 16))
  deriving DecidableEq, Repr

/-! ## Mode Controller (R121) -/

/-- Station modes (R121). -/
inductive Mode
  | starting
  | config
  | govern
  | fallback
  | frozen
  deriving DecidableEq, Repr

/-- Start sources (R121, R122). -/
inductive StartSource
  | flashAuto
  | flashHold
  | bus
  deriving DecidableEq, Repr

/-- Start phases (R121). -/
inductive StartPhase
  | bootRead
  | startWait
  deriving DecidableEq, Repr

/-- Why an entry check fails (R164). -/
inductive Reason
  | table (t : TableId)
  | sharedAddress (a b : Fin 16)
  | fillGate (g : Fin 16)
  deriving DecidableEq, Repr

/-- What the Mode Controller holds (R121), with the reason of a failed start check (R164, R166). -/
structure Mdc where
  mode : Mode := .starting
  source : StartSource := .flashAuto
  phase : Option StartPhase := none
  startWait : Timer := none
  orderTimer : Timer := none
  controlPresent : Bool := false
  restartPending : Bool := false
  startReason : Option Reason := none
  deriving DecidableEq, Repr

/-! ## Gate Sequencer (R3, R94, R97) -/

/-- Gate states (R3). -/
inductive GateState
  | unseen
  | recovering
  | locked
  | waitGrant
  | unlocking
  | free
  | moving
  | reversing
  | locking
  | faulted
  deriving DecidableEq, Repr

/-- Priorities of a motion (R3, R87). -/
inductive Priority
  | urgent
  | normal
  deriving DecidableEq, Repr

/-- Brake reports (R3). -/
inductive Brake
  | engaged
  | released
  deriving DecidableEq, Repr

/-- Origins of a standing target (R97). -/
inductive Origin
  | order
  | position
  deriving DecidableEq, Repr

/-- A filled order slot (R94). The remaining hold is held as the tick at which it ends and whether that end has been taken
(R95); log entry 17. -/
structure OrderSlot where
  opening : Nat
  holdEnd : Tick
  visible : Bool
  lockAfter : Bool
  tag : Byte
  deriving DecidableEq, Repr

/-- The standing target of a gate (R97). -/
structure Standing where
  opening : Option Nat := none
  lockAfter : Bool := true
  origin : Origin := .position
  deriving DecidableEq, Repr

/-- The dynamic part of a gate record (R3), its order slot (R94) and standing target (R97). The last three fields are the
state that R13, R21 and R26 imply; log entry 16. -/
structure Gate where
  state : GateState := .unseen
  commanded : Option Nat := none
  target : Option Nat := none
  lockAfter : Bool := true
  priority : Priority := .normal
  pending : Bool := false
  moveSetpoint : Option Nat := none
  position : Option Nat := none
  brake : Option Brake := none
  running : Option Bool := none
  fault : Option Bool := none
  lastReport : Option Tick := none
  positionAtLock : Option Nat := none
  lastUnlock : Option Tick := none
  unlockCompletion : Option Tick := none
  lastMoveEnd : Option Tick := none
  lagStart : Option Tick := none
  trimCount : Nat := 0
  earlyLock : Bool := false
  stateTimer : Timer := none
  moveWatch : Timer := none
  slot : Option OrderSlot := none
  standing : Standing := {}
  reportSinceGrant : Bool := false
  raising : Bool := false
  lagReported : Bool := false
  deriving DecidableEq, Repr

/-! ## Group Arbiter (R31) -/

/-- An entry of a waiting queue (R31). -/
structure QueueEntry where
  gate : Fin 16
  priority : Priority
  deriving DecidableEq, Repr

/-- The dynamic part of a group record (R31); the queue is head first. -/
structure Group where
  slots : Nat := 0
  lastGrant : Option Tick := none
  spacingTimer : Timer := none
  queue : List QueueEntry := []
  deriving DecidableEq, Repr

/-! ## Bus Port Unit (R147) -/

/-- An entry of the drive queue (R153). -/
structure DriveEntry where
  gate : Fin 16
  frame : BusFrame
  deriving DecidableEq, Repr

/-- The frame that Port F is sending. -/
inductive SendingF
  | drive (e : DriveEntry)
  | general (f : BusFrame)
  deriving DecidableEq, Repr

/-- The frame that Port L is sending. -/
inductive SendingL
  | own (f : BusFrame)
  | general (f : BusFrame)
  deriving DecidableEq, Repr

/-- Port F (R147); queues are oldest first. -/
structure PortF where
  errors : Nat := 0
  dropped : Nat := 0
  general : List BusFrame := []
  drive : List DriveEntry := []
  sending : Option SendingF := none
  deriving DecidableEq, Repr

/-- Port L (R147); queues are oldest first. -/
structure PortL where
  errors : Nat := 0
  dropped : Nat := 0
  general : List BusFrame := []
  own : List BusFrame := []
  savePlace : Bool := false
  sending : Option SendingL := none
  deriving DecidableEq, Repr

/-! ## Condition Unit (R138, R142) -/

/-- A condition record (R138). -/
structure CondRecord where
  active : Bool := false
  latched : Bool := false
  firstSet : Option Tick := none
  deriving DecidableEq, Repr

/-- An entry of the notice queue (R142). -/
structure NoticeEntry where
  cond : Cond
  level : Nat
  deriving DecidableEq, Repr

/-! ## Level Unit (R44) -/

/-- Channel qualities (R44). -/
inductive Quality
  | none
  | good
  | questionable
  | bad
  | stale
  deriving DecidableEq, Repr

/-- The dynamic part of a channel record (R44). -/
structure Channel where
  value : Option Nat := .none
  quality : Quality := .none
  lastGood : Option Tick := .none
  staleWatch : Timer := .none
  deriving DecidableEq, Repr

/-- Sources of the tailwater (R49). -/
inductive TailSource
  | derived
  | held
  | default
  deriving DecidableEq, Repr

/-- Flood regimes (R51). -/
inductive Regime
  | normal
  | flood
  deriving DecidableEq, Repr

/-- What the Level Unit holds (R44); headwater is none while invalid. -/
structure Lvu where
  channels : Vector Channel 8 := Vector.replicate 8 {}
  headwater : Option Nat := none
  lastHeadwater : Option Nat := none
  tailwater : Nat := 0
  tailSource : TailSource := .default
  lastTailwater : Option Nat := none
  head : Nat := 0
  lastHead : Option Nat := none
  regime : Regime := .normal
  deriving DecidableEq, Repr

/-! ## Release Governor (R68) -/

/-- Results of a round (R88). -/
inductive RoundResult
  | none
  | applied
  | scaled
  | held
  deriving DecidableEq, Repr

/-- What the Release Governor holds (R68). -/
structure Rgv where
  roundTimer : Timer := none
  planned : Nat := 0
  lastResult : RoundResult := .none
  deriving DecidableEq, Repr

/-! ## Cascade Unit and Reach Link Unit (R103, R120) -/

/-- An entry of the forecast queue (R109). -/
structure ForecastEntry where
  outflow : Nat
  due : Tick
  deriving DecidableEq, Repr

/-- Sources of the effective upstream outflow (R111). -/
inductive UpstreamSource
  | initial
  | notice
  deriving DecidableEq, Repr

/-- Forecast states (R112). -/
inductive ForecastState
  | tracking
  | degraded
  deriving DecidableEq, Repr

/-- What the Cascade Unit holds (R120); the forecast queue is head first. -/
structure Csu where
  lastSequence : Option Nat := none
  queue : List ForecastEntry := []
  upstream : Nat := 0
  upstreamSource : UpstreamSource := .initial
  forecast : ForecastState := .tracking
  received : Option Nat := none
  ownAcceptance : Option Nat := none
  lastSent : Option Nat := none
  outSequence : Nat := 0
  lastNotified : Option Nat := none
  lastRelease : Option Tick := none
  refreshTimer : Timer := none
  deriving DecidableEq, Repr

/-- Link states (R103). -/
inductive LinkState
  | waiting
  | up
  | lost
  deriving DecidableEq, Repr

/-- A reach port (R103): the pending frames by kind, each with the value to carry. -/
structure ReachPort where
  link : LinkState := .waiting
  lastValid : Option Tick := none
  silence : Timer := none
  period : Timer := none
  errors : Nat := 0
  pendingRelease : Option Nat := none
  pendingAccept : Option Nat := none
  pendingLinkcheck : Bool := false
  sending : Option ReachFrame := none
  deriving DecidableEq, Repr

/-! ## Table Store (R158, R160, R168, R169) -/

/-- An open load context (R160); bytes received is the length of the bytes. -/
structure LoadContext where
  table : TableId
  length : Nat
  bytes : List Byte
  idle : Tick
  deriving DecidableEq, Repr

/-- A SAVE in flight (R168): the table being written, those still to write, and how many have been written. -/
structure SaveProgress where
  current : TableId
  rest : List TableId
  written : Nat
  deriving DecidableEq, Repr

/-- The outcome of one slot of the boot read (R169). -/
inductive BootOutcome
  | absent
  | invalid
  | valid (d : TableData)
  deriving DecidableEq, Repr

/-- A boot read in progress (R169): the slot being read, and the outcomes held so far, first slot first. -/
structure BootRead where
  slot : Fin 18
  outcomes : List BootOutcome
  deriving DecidableEq, Repr

/-- The contents of a flash slot (R172): bytes from its start, or a torn image (R168). -/
inductive FlashSlot
  | holds (bytes : List Byte)
  | torn
  deriving DecidableEq, Repr

/-! ## The whole -/

/-- The Gate Sequencer's records, the Group Arbiter's records and Port F. `inFlight` holds, oldest first, the gates that have been
granted a slot and that the grant has not reached yet: state that R34 and R39 imply (log entry 34). -/
structure Yard where
  gates : Vector Gate 16 := Vector.replicate 16 {}
  groups : Vector Group 4 := Vector.replicate 4 {}
  inFlight : List (Fin 16) := []
  portF : PortF := {}
  deriving DecidableEq, Repr

/-- The Condition Unit's records and notice queue, and Port L. -/
structure Desk where
  records : Vector CondRecord 120 := Vector.replicate 120 {}
  notices : List NoticeEntry := []
  portL : PortL := {}
  deriving DecidableEq, Repr

/-- The state of the MG-316. `draws` and `pending` are the model's own fields: the number of free values drawn so far, and
the commands that wait, first in, first out. -/
structure State where
  now : Tick := 0
  mdc : Mdc := {}
  yard : Yard := {}
  lvu : Lvu := {}
  rgv : Rgv := {}
  csu : Csu := {}
  portU : ReachPort := {}
  portD : ReachPort := {}
  desk : Desk := {}
  tables : Tables := {}
  stationValidSince : Option Tick := none
  load : Option LoadContext := none
  saving : Option SaveProgress := none
  boot : Option BootRead := none
  flash : Vector FlashSlot 18 := Vector.replicate 18 (.holds [])
  draws : Nat := 0
  pending : List Instr := []
  deriving DecidableEq, Repr

/-- Reasons a step can stop with a fault: none. The manual gives every event an effect on the state (INVENTORY.md, Faults). -/
inductive Fault : Type
  deriving DecidableEq, Repr

/-- Reasons a step can be refused. -/
inductive Refusal
  /-- Raised by an arm of the dispatch for a command that has no meaning in the model. Safe: it stops. No arm raises it. -/
  | notModelled (mnemonic : String)
  deriving DecidableEq, Repr

/-- The machine right after reset: every field at the reset value of its chapter. The start source is sampled from the MODE
pins, which are outside the part; they are taken as 00, FLASH_AUTO (DESIGN CHOICE, log entry 4), so the boot read is at its
first slot. The flash is taken as erased (DESIGN CHOICE, log entry 5). -/
def State.reset : State :=
  { mdc := { phase := some .bootRead }
    boot := some { slot := 0, outcomes := [] } }

end Sys2Proof.Machine
end

