-- ==== Sys2Proof/Machine/Tables.lean ====
section
/-! DEFINITION. The tables: their ids and classes (R157), allowed lengths and layouts (R172), content checks (R1, R30, R43, R56,
R137, R159), and the flash slot (R172). Contents are held as records; `image` writes them back as the bytes they came from
(log entry 25). -/

namespace Sys2Proof.Machine

/-! ## Ids and classes -/

/-- The tables in ascending order of id (R157). -/
def allTables : List TableId :=
  [.station, .gates, .groups, .channels, .conditions, .curve 0, .curve 1, .curve 2, .curve 3, .curve 4, .curve 5, .curve 6,
   .curve 7, .ramp, .flood, .accept, .reach, .fill]

/-- The table id of R157. -/
def TableId.code : TableId → Nat
  | .station => 1
  | .gates => 2
  | .groups => 3
  | .channels => 4
  | .conditions => 5
  | .curve k => 16 + k.val
  | .ramp => 32
  | .flood => 33
  | .accept => 34
  | .reach => 35
  | .fill => 36

/-- The table a table id names, if any (R157). -/
def TableId.ofCode (n : Nat) : Option TableId :=
  allTables.find? (fun t => t.code == n)

/-- The place of a table among the eighteen, in ascending order of id: its flash slot and its LOAD_FAILED record. -/
def TableId.index : TableId → Fin 18
  | .station => 0
  | .gates => 1
  | .groups => 2
  | .channels => 3
  | .conditions => 4
  | .curve k => ⟨5 + k.val, by omega⟩
  | .ramp => 13
  | .flood => 14
  | .accept => 15
  | .reach => 16
  | .fill => 17

/-- The table at a place among the eighteen. -/
def TableId.ofIndex (i : Fin 18) : TableId :=
  allTables.getD i.val .station

/-- Whether a table is structural (R157). -/
def TableId.structural : TableId → Bool
  | .ramp | .flood | .accept | .reach | .fill => false
  | _ => true

/-- Whether an image length is one a count of the table gives (R172). -/
def allowedLength (t : TableId) (n : Nat) : Bool :=
  match t with
  | .station => n == 44
  | .gates => n == 576
  | .groups => n == 16
  | .channels => n == 104
  | .conditions => n == 13
  | .curve _ => decide (54 ≤ n ∧ n ≤ 210 ∧ (n - 2) % 26 = 0)
  | .ramp => decide (17 ≤ n ∧ n ≤ 101 ∧ (n - 5) % 12 = 0)
  | .flood => decide (1 ≤ n ∧ n ≤ 49 ∧ (n - 1) % 6 = 0)
  | .accept => decide (9 ≤ n ∧ n ≤ 65 ∧ (n - 1) % 8 = 0)
  | .reach => decide (15 ≤ n ∧ n ≤ 57 ∧ (n - 9) % 6 = 0)
  | .fill => decide (2 ≤ n ∧ n ≤ 17)

/-! ## Small checks -/

/-- Whether numbers rise strictly. -/
def strictlyAscending : List Nat → Bool
  | [] => true
  | [_] => true
  | a :: b :: r => decide (a < b) && strictlyAscending (b :: r)

/-- Whether numbers never fall. -/
def nonDecreasing : List Nat → Bool
  | [] => true
  | [_] => true
  | a :: b :: r => decide (a ≤ b) && nonDecreasing (b :: r)

/-- Whether no value stands twice. -/
def noRepeats {α : Type} [DecidableEq α] : List α → Bool
  | [] => true
  | a :: r => !(r.contains a) && noRepeats r

/-- All the values of a list of results, if every one is there. -/
def allSome {α : Type} : List (Option α) → Option (List α)
  | [] => some []
  | none :: _ => none
  | some a :: r =>
    match allSome r with
    | some l => some (a :: l)
    | none => none

/-- The largest flow of 00_scope.md 2.1. -/
def maxFlow : Nat := 134215680

/-- The largest level of 00_scope.md 2.1. -/
def maxLevel : Nat := 1000000

/-- The largest rate limit of 00_scope.md 2.1. -/
def maxRate : Nat := 1000000

/-- The entries of a run of bytes, `k` entries of width `w` from offset `off` (R172). -/
def entriesAt (b : List Byte) (off w k : Nat) : List (List Byte) :=
  (List.range k).map (fun i => (b.drop (off + w * i)).take w)

/-! ## STATION -/

/-- The fields of a STATION image (R172). -/
def readStation (b : List Byte) : Station :=
  { stationNumber := beAt b 0 1, upstream := beAt b 1 1, downstream := beAt b 2 1, roundInterval := beAt b 3 2
    floodEntry := beAt b 5 4, floodExit := beAt b 9 4, minimumLevel := beAt b 13 4, orderTimeout := beAt b 17 2
    seenTimeout := beAt b 19 2, reportTimeout := beAt b 21 2, linkPeriod := beAt b 23 2, linkTimeout := beAt b 25 2
    noticeThreshold := beAt b 27 4, noticeRefresh := beAt b 31 2, defaultAcceptance := beAt b 33 4
    tailwaterDefault := beAt b 37 4, noticeMask := beAt b 41 1, portErrorThreshold := beAt b 42 2 }

/-- The limits of the STATION table (R159); two-byte fields not listed there take any value 0 to 65,535. -/
def stationOk (t : Station) : Bool :=
  decide (1 ≤ t.stationNumber ∧ t.stationNumber ≤ 63) &&
  decide (t.upstream ≤ 63 ∧ t.upstream ≠ t.stationNumber) &&
  decide (t.downstream ≤ 63 ∧ t.downstream ≠ t.stationNumber) &&
  decide (10 ≤ t.roundInterval ∧ t.roundInterval ≤ 6000) &&
  decide (t.floodExit < t.floodEntry ∧ t.floodEntry ≤ maxLevel ∧ t.minimumLevel ≤ maxLevel) &&
  decide (1 ≤ t.linkPeriod ∧ t.linkPeriod ≤ 65535 ∧ 1 ≤ t.linkTimeout ∧ t.linkTimeout ≤ 65535) &&
  decide (t.noticeThreshold ≤ maxFlow ∧ t.defaultAcceptance ≤ maxRate ∧ t.tailwaterDefault ≤ maxLevel) &&
  decide (t.noticeMask ≤ 3 ∧ 1 ≤ t.portErrorThreshold ∧ t.portErrorThreshold ≤ 65535) &&
  decide (t.orderTimeout ≤ 65535 ∧ t.seenTimeout ≤ 65535 ∧ t.reportTimeout ≤ 65535 ∧ t.noticeRefresh ≤ 65535)

/-- The STATION image (R172). -/
def stationImage (t : Station) : List Byte :=
  beBytes 1 t.stationNumber ++ beBytes 1 t.upstream ++ beBytes 1 t.downstream ++ beBytes 2 t.roundInterval ++
  beBytes 4 t.floodEntry ++ beBytes 4 t.floodExit ++ beBytes 4 t.minimumLevel ++ beBytes 2 t.orderTimeout ++
  beBytes 2 t.seenTimeout ++ beBytes 2 t.reportTimeout ++ beBytes 2 t.linkPeriod ++ beBytes 2 t.linkTimeout ++
  beBytes 4 t.noticeThreshold ++ beBytes 2 t.noticeRefresh ++ beBytes 4 t.defaultAcceptance ++
  beBytes 4 t.tailwaterDefault ++ beBytes 1 t.noticeMask ++ beBytes 2 t.portErrorThreshold

/-! ## GATES -/

/-- One entry of a GATES image; none where a coded field lies outside its codes (R172). -/
def readGateCfg (b : List Byte) : Option GateCfg :=
  if beAt b 0 1 ≤ 1 ∧ beAt b 1 1 ≤ 1 then
    if h : beAt b 3 1 < 4 ∧ beAt b 4 1 < 8 then
      some
        { inService := beAt b 0 1 == 1, kind := if beAt b 1 1 = 0 then .wicket else .spill
          driveAddress := beAt b 2 1, group := ⟨beAt b 3 1, h.1⟩, curve := ⟨beAt b 4 1, h.2⟩
          minOpening := beAt b 5 2, maxOpening := beAt b 7 2, slew := beAt b 9 2, band := beAt b 11 1
          moveTimeout := beAt b 12 2, tUL := beAt b 14 2, tFM := beAt b 16 2, tST := beAt b 18 2, tLK := beAt b 20 2
          tCY := beAt b 22 2, tID := beAt b 24 2, travelTime := beAt b 26 2, reversalDwell := beAt b 28 2
          lagTolerance := beAt b 30 2, lagTime := beAt b 32 2, runawayTolerance := beAt b 34 2 }
    else none
  else none

/-- The ranges of a gate entry (R1); travel time is ranged for SPILL only. -/
def gateCfgOk (g : GateCfg) : Bool :=
  decide (1 ≤ g.driveAddress ∧ g.driveAddress ≤ 250) &&
  decide (g.minOpening ≤ g.maxOpening ∧ g.maxOpening ≤ 1000) &&
  decide (1 ≤ g.slew ∧ g.slew ≤ 1000) && decide (1 ≤ g.band ∧ g.band ≤ 50) &&
  decide (1 ≤ g.moveTimeout ∧ g.moveTimeout ≤ 65535) &&
  decide (g.tUL ≤ 65535 ∧ g.tFM ≤ 65535 ∧ g.tST ≤ 65535 ∧ g.tLK ≤ 65535 ∧ g.tCY ≤ 65535 ∧ g.tID ≤ 65535) &&
  (match g.kind with
   | .wicket => decide (g.travelTime ≤ 65535)
   | .spill => decide (1 ≤ g.travelTime ∧ g.travelTime ≤ 6000)) &&
  decide (g.reversalDwell ≤ 65535 ∧ g.lagTolerance ≤ 1000 ∧ g.lagTime ≤ 65535 ∧ g.runawayTolerance ≤ 1000)

/-- One entry of the GATES image (R172). -/
def gateCfgImage (g : GateCfg) : List Byte :=
  beBytes 1 g.inService.toNat ++ beBytes 1 (match g.kind with | .wicket => 0 | .spill => 1) ++
  beBytes 1 g.driveAddress ++ beBytes 1 g.group.val ++ beBytes 1 g.curve.val ++ beBytes 2 g.minOpening ++
  beBytes 2 g.maxOpening ++ beBytes 2 g.slew ++ beBytes 1 g.band ++ beBytes 2 g.moveTimeout ++ beBytes 2 g.tUL ++
  beBytes 2 g.tFM ++ beBytes 2 g.tST ++ beBytes 2 g.tLK ++ beBytes 2 g.tCY ++ beBytes 2 g.tID ++
  beBytes 2 g.travelTime ++ beBytes 2 g.reversalDwell ++ beBytes 2 g.lagTolerance ++ beBytes 2 g.lagTime ++
  beBytes 2 g.runawayTolerance

/-! ## GROUPS -/

/-- One entry of a GROUPS image; none where the kind lies outside its codes (R172). -/
def readGroupCfg (b : List Byte) : Option GroupCfg :=
  if beAt b 0 1 ≤ 1 then
    some { kind := if beAt b 0 1 = 0 then .hydraulic else .electric, capacity := beAt b 1 1, spacing := beAt b 2 2 }
  else none

/-- The ranges of a group entry (R30). -/
def groupCfgOk (g : GroupCfg) : Bool :=
  decide (1 ≤ g.capacity ∧ g.capacity ≤ 4) && decide (g.spacing ≤ 65535)

/-- One entry of the GROUPS image (R172). -/
def groupCfgImage (g : GroupCfg) : List Byte :=
  beBytes 1 (match g.kind with | .hydraulic => 0 | .electric => 1) ++ beBytes 1 g.capacity ++ beBytes 2 g.spacing

/-! ## CHANNELS -/

/-- One entry of a CHANNELS image; none where the role lies outside its codes (R172). -/
def readChannelCfg (b : List Byte) : Option ChannelCfg :=
  if beAt b 0 1 ≤ 2 then
    some
      { role := if beAt b 0 1 = 0 then .unused else if beAt b 0 1 = 1 then .headwater else .tailwater
        source := beAt b 1 1, point := beAt b 2 1, validMin := beAt b 3 4, validMax := beAt b 7 4
        staleLimit := beAt b 11 2 }
  else none

/-- The limits of a channel entry; an UNUSED channel's fields are not checked (R43). -/
def channelCfgOk (c : ChannelCfg) : Bool :=
  match c.role with
  | .unused => true
  | _ =>
    decide (1 ≤ c.source ∧ c.source ≤ 250 ∧ c.point ≤ 255) &&
    decide (c.validMin ≤ c.validMax ∧ c.validMax ≤ maxLevel) && decide (1 ≤ c.staleLimit ∧ c.staleLimit ≤ 65535)

/-- The limits of the whole CHANNELS table (R43): at most four channels of a role, no gauge point mapped twice. -/
def channelsOk (l : List ChannelCfg) : Bool :=
  l.all channelCfgOk &&
  decide ((l.filter (fun c => c.role == .headwater)).length ≤ 4) &&
  decide ((l.filter (fun c => c.role == .tailwater)).length ≤ 4) &&
  noRepeats ((l.filter (fun c => c.role != .unused)).map (fun c => (c.source, c.point)))

/-- One entry of the CHANNELS image (R172). -/
def channelCfgImage (c : ChannelCfg) : List Byte :=
  beBytes 1 (match c.role with | .unused => 0 | .headwater => 1 | .tailwater => 2) ++ beBytes 1 c.source ++
  beBytes 1 c.point ++ beBytes 4 c.validMin ++ beBytes 4 c.validMax ++ beBytes 2 c.staleLimit

/-! ## CURVE 0 to CURVE 7 -/

/-- The curve an image of `n` breakpoints holds (R172). -/
def readCurve (n : Nat) (b : List Byte) : Curve :=
  { shift := beAt b 1 1
    heads := (List.range n).map (fun j => beAt b (2 + 4 * j) 4)
    rows := (List.range 11).map (fun i => (List.range n).map (fun j => beAt b (2 + 4 * n + 2 * (n * i + j)) 2)) }

/-- Whether no entry falls along the opening, from one row to the next (R56). -/
def rowsRise : List (List Nat) → Bool
  | [] => true
  | [_] => true
  | a :: b :: r => (a.zip b).all (fun p => decide (p.1 ≤ p.2)) && rowsRise (b :: r)

/-- The content check of a curve (R56). -/
def curveOk (c : Curve) : Bool :=
  decide (2 ≤ c.heads.length ∧ c.heads.length ≤ 8) && c.heads.all (fun h => decide (h ≤ 200000)) &&
  strictlyAscending c.heads && decide (c.shift ≤ 7) && rowsRise c.rows && c.rows.all nonDecreasing &&
  decide (c.rows.length = 11) &&
  c.rows.all (fun r => decide (r.length = c.heads.length) && r.all (fun e => decide (e ≤ 65535)))

/-- The CURVE image (R172). -/
def curveImage (c : Curve) : List Byte :=
  beBytes 1 c.heads.length ++ beBytes 1 c.shift ++ c.heads.flatMap (beBytes 4) ++ c.rows.flatMap (fun r => r.flatMap (beBytes 2))

/-! ## Operating tables -/

/-- One band of a RAMP image (R172). -/
def readRampBand (b : List Byte) : RampBand :=
  { upper := beAt b 0 4, rise := beAt b 4 4, fall := beAt b 8 4 }

/-- The limits of the RAMP table (R159). -/
def rampOk (t : Ramp) : Bool :=
  decide (1 ≤ t.bands.length ∧ t.bands.length ≤ 8) && strictlyAscending (t.bands.map (·.upper)) &&
  t.bands.all (fun b => decide (b.upper ≤ maxFlow ∧ b.rise ≤ maxRate ∧ b.fall ≤ maxRate)) && decide (t.floodRise ≤ maxRate)

/-- The RAMP image (R172). -/
def rampImage (t : Ramp) : List Byte :=
  beBytes 1 t.bands.length ++ beBytes 4 t.floodRise ++
  t.bands.flatMap (fun b => beBytes 4 b.upper ++ beBytes 4 b.rise ++ beBytes 4 b.fall)

/-- One row of a FLOOD image (R172). -/
def readFloodRow (b : List Byte) : FloodRow :=
  { threshold := beAt b 0 4, opening := beAt b 4 2 }

/-- The limits of the FLOOD table (R159). -/
def floodOk (t : List FloodRow) : Bool :=
  decide (t.length ≤ 8) && strictlyAscending (t.map (·.threshold)) &&
  t.all (fun r => decide (r.threshold ≤ maxLevel ∧ r.opening ≤ 1000))

/-- The FLOOD image (R172). -/
def floodImage (t : List FloodRow) : List Byte :=
  beBytes 1 t.length ++ t.flatMap (fun r => beBytes 4 r.threshold ++ beBytes 2 r.opening)

/-- One row of an ACCEPT image (R172). -/
def readAcceptRow (b : List Byte) : AcceptRow :=
  { threshold := beAt b 0 4, acceptance := beAt b 4 4 }

/-- The limits of the ACCEPT table (R159). -/
def acceptOk (t : List AcceptRow) : Bool :=
  decide (1 ≤ t.length ∧ t.length ≤ 8) && strictlyAscending (t.map (·.threshold)) &&
  t.all (fun r => decide (r.threshold ≤ maxLevel ∧ r.acceptance ≤ maxRate))

/-- The ACCEPT image (R172). -/
def acceptImage (t : List AcceptRow) : List Byte :=
  beBytes 1 t.length ++ t.flatMap (fun r => beBytes 4 r.threshold ++ beBytes 4 r.acceptance)

/-- One band of a REACH image (R172). -/
def readReachBand (b : List Byte) : ReachBand :=
  { upper := beAt b 0 4, delay := beAt b 4 2 }

/-- The limits of the REACH table (R159). -/
def reachOk (t : Reach) : Bool :=
  decide (1 ≤ t.bands.length ∧ t.bands.length ≤ 8) && strictlyAscending (t.bands.map (·.upper)) &&
  t.bands.all (fun b => decide (b.upper ≤ maxFlow ∧ b.delay ≤ 65535)) &&
  decide (t.lateral ≤ maxFlow ∧ t.initial ≤ maxFlow)

/-- The REACH image (R172). -/
def reachImage (t : Reach) : List Byte :=
  beBytes 1 t.bands.length ++ beBytes 4 t.lateral ++ beBytes 4 t.initial ++
  t.bands.flatMap (fun b => beBytes 4 b.upper ++ beBytes 2 b.delay)

/-- One gate number of a FILL image; none above 15 (R159). -/
def readFillGate (b : Byte) : Option (Fin 16) :=
  if h : b.toNat < 16 then some ⟨b.toNat, h⟩ else none

/-- The limits of the FILL table (R159). -/
def fillOk (t : List (Fin 16)) : Bool :=
  decide (1 ≤ t.length ∧ t.length ≤ 16) && noRepeats t

/-- The FILL image (R172). -/
def fillImage (t : List (Fin 16)) : List Byte :=
  beBytes 1 t.length ++ t.flatMap (fun g => beBytes 1 g.val)

/-! ## Any table -/

/-- The contents of an image that passes its content check: coded fields within their codes, the count in agreement with
the image length, and every limit kept (R159, R172). -/
def parseTable (t : TableId) (b : List Byte) : Option TableData :=
  if allowedLength t b.length then
    match t with
    | .station => if stationOk (readStation b) then some (.station (readStation b)) else none
    | .gates =>
      match allSome ((entriesAt b 0 36 16).map readGateCfg) with
      | some l => if l.all gateCfgOk then some (.gates l) else none
      | none => none
    | .groups =>
      match allSome ((entriesAt b 0 4 4).map readGroupCfg) with
      | some l => if l.all groupCfgOk then some (.groups l) else none
      | none => none
    | .channels =>
      match allSome ((entriesAt b 0 13 8).map readChannelCfg) with
      | some l => if channelsOk l then some (.channels l) else none
      | none => none
    | .conditions =>
      let l := b.map (·.toNat)
      if l.all (fun v => decide (v ≤ 2)) then some (.conditions l) else none
    | .curve k =>
      let n := (b.length - 2) / 26
      if beAt b 0 1 = n ∧ curveOk (readCurve n b) then some (.curve k (readCurve n b)) else none
    | .ramp =>
      let n := (b.length - 5) / 12
      let r : Ramp := { floodRise := beAt b 1 4, bands := (entriesAt b 5 12 n).map readRampBand }
      if beAt b 0 1 = n ∧ rampOk r then some (.ramp r) else none
    | .flood =>
      let n := (b.length - 1) / 6
      let r := (entriesAt b 1 6 n).map readFloodRow
      if beAt b 0 1 = n ∧ floodOk r then some (.flood r) else none
    | .accept =>
      let n := (b.length - 1) / 8
      let r := (entriesAt b 1 8 n).map readAcceptRow
      if beAt b 0 1 = n ∧ acceptOk r then some (.accept r) else none
    | .reach =>
      let n := (b.length - 9) / 6
      let r : Reach := { lateral := beAt b 1 4, initial := beAt b 5 4, bands := (entriesAt b 9 6 n).map readReachBand }
      if beAt b 0 1 = n ∧ reachOk r then some (.reach r) else none
    | .fill =>
      match allSome ((b.drop 1).map readFillGate) with
      | some l => if beAt b 0 1 = b.length - 1 ∧ fillOk l then some (.fill l) else none
      | none => none
  else none

/-- The image of a table's contents (R172). -/
def TableData.image : TableData → List Byte
  | .station t => stationImage t
  | .gates l => l.flatMap gateCfgImage
  | .groups l => l.flatMap groupCfgImage
  | .channels l => l.flatMap channelCfgImage
  | .conditions l => l.flatMap (beBytes 1)
  | .curve _ c => curveImage c
  | .ramp r => rampImage r
  | .flood r => floodImage r
  | .accept r => acceptImage r
  | .reach r => reachImage r
  | .fill l => fillImage l

/-- The contents of a VALID slot. -/
def TableSlot.get? {α : Type} : TableSlot α → Option α
  | .valid a => some a
  | _ => none

/-- Whether a table is VALID. -/
def TableSlot.isValid {α : Type} (t : TableSlot α) : Bool :=
  t.get?.isSome

/-- The code of a table state, in the order of R158 (R171). -/
def TableSlot.code {α : Type} : TableSlot α → Nat
  | .absent => 0
  | .loading => 1
  | .valid _ => 2
  | .invalid => 3

/-- The code of a shadow state, in the order of R158 (R171). -/
def Shadow.code {α : Type} : Shadow α → Nat
  | .none => 0
  | .loading => 1
  | .ready _ => 2

/-- The contents of a table that is VALID; an operating table's active copy (R157, R158). -/
def Tables.data? (t : Tables) : TableId → Option TableData
  | .station => t.station.get?.map .station
  | .gates => t.gates.get?.map .gates
  | .groups => t.groups.get?.map .groups
  | .channels => t.channels.get?.map .channels
  | .conditions => t.conditions.get?.map .conditions
  | .curve k => t.curves[k].get?.map (.curve k)
  | .ramp => t.ramp.active.get?.map .ramp
  | .flood => t.flood.active.get?.map .flood
  | .accept => t.accept.active.get?.map .accept
  | .reach => t.reach.active.get?.map .reach
  | .fill => t.fill.active.get?.map .fill

/-- The image of a table that is VALID (R167). -/
def Tables.image? (t : Tables) (id : TableId) : Option (List Byte) :=
  (t.data? id).map TableData.image

/-- The code of a table's state (R166). -/
def Tables.stateCode (t : Tables) : TableId → Nat
  | .station => t.station.code
  | .gates => t.gates.code
  | .groups => t.groups.code
  | .channels => t.channels.code
  | .conditions => t.conditions.code
  | .curve k => t.curves[k].code
  | .ramp => t.ramp.active.code
  | .flood => t.flood.active.code
  | .accept => t.accept.active.code
  | .reach => t.reach.active.code
  | .fill => t.fill.active.code

/-- The codes of the shadows, in ascending order of table id (R166). -/
def Tables.shadowCodes (t : Tables) : List Nat :=
  [t.ramp.shadow.code, t.flood.shadow.code, t.accept.shadow.code, t.reach.shadow.code, t.fill.shadow.code]

/-! ## What the blocks read of the tables -/

/-- The loaded part of a gate record; out of service while the GATES table is not VALID (R2). -/
def Tables.gateCfg (t : Tables) (i : Fin 16) : GateCfg :=
  match t.gates with
  | .valid l => l.getD i.val {}
  | _ => {}

/-- The loaded part of a group record (R30). -/
def Tables.groupCfg (t : Tables) (k : Fin 4) : GroupCfg :=
  match t.groups with
  | .valid l => l.getD k.val {}
  | _ => {}

/-- The loaded part of a channel record; UNUSED while the CHANNELS table is not VALID (R43). -/
def Tables.channelCfg (t : Tables) (c : Fin 8) : ChannelCfg :=
  match t.channels with
  | .valid l => l.getD c.val {}
  | _ => {}

/-- The STATION table, with zeros while it is not VALID: neighbours absent (R102), tailwater default 0 (R49), notice mask
level 0 (R141). -/
def Tables.stationOr (t : Tables) : Station :=
  match t.station with
  | .valid st => st
  | _ => {}

/-- Whether an in-service gate has a drive address (R91). -/
def Tables.governedGate (t : Tables) (address : Nat) : Option (Fin 16) :=
  ([0, 1, 2, 3, 4, 5, 6, 7, 8, 9, 10, 11, 12, 13, 14, 15] : List (Fin 16)).find?
    (fun i => (t.gateCfg i).inService && (t.gateCfg i).driveAddress == address)

/-! ## Flash slots -/

/-- The marker of a written slot (R172). -/
def slotMarker : Nat := 0xA55A

/-- The bytes of a slot that holds an image: marker, table id, image length, image and CRC (R172). -/
def slotBytes (t : TableId) (image : List Byte) : List Byte :=
  let covered := beBytes 2 slotMarker ++ beBytes 1 t.code ++ beBytes 2 image.length ++ image
  covered ++ crcBytes (crc16 covered)

/-- The first `n` bytes of a slot as read; a byte beyond those stored reads 0xFF (DESIGN CHOICE, log entry 5). -/
def slotRead (b : List Byte) (n : Nat) : List Byte :=
  b.take n ++ List.replicate (n - b.length) 0xFF#8

/-- Whether a slot's stored CRC agrees with the CRC over the slot as read (R172). -/
def slotCrcOk (b : List Byte) : Bool :=
  let n := beAt (slotRead b 5) 3 2
  let whole := slotRead b (n + 7)
  beAt whole (n + 5) 2 == (crc16 (whole.take (n + 5))).toNat

/-- The outcome of a slot at the boot read (R169). A torn slot holds an image that fails its CRC (R168). -/
def judgeSlot (t : TableId) : FlashSlot → BootOutcome
  | .torn => .invalid
  | .holds b =>
    let header := slotRead b 5
    if beAt header 0 2 ≠ slotMarker then .absent
    else if beAt header 2 1 ≠ t.code then .invalid
    else if !allowedLength t (beAt header 3 2) then .invalid
    else if !slotCrcOk b then .invalid
    else
      match parseTable t ((slotRead b (beAt header 3 2 + 5)).drop 5) with
      | some d => .valid d
      | none => .invalid

end Sys2Proof.Machine
end

