-- ==== Sys2Proof/Machine/Flags.lean ====
section
/-! DEFINITION. The flags of the part: the condition records of chapter 9 with their numbers, levels, raising, clearing and
acknowledging, the notice queue and its hand-off, and the own and general queues of Port L that the notices go out by. -/

namespace Sys2Proof.Machine

/-- The gates in ascending number: the order in which one event acts on several (log entry 12). -/
def allGates : List (Fin 16) := [0, 1, 2, 3, 4, 5, 6, 7, 8, 9, 10, 11, 12, 13, 14, 15]

/-- The channels in ascending number. -/
def allChannels : List (Fin 8) := [0, 1, 2, 3, 4, 5, 6, 7]

/-! ## Condition numbers and codes (R136, R171) -/

/-- The record number of a condition (R136). -/
def Cond.number : Cond → Fin 120
  | .headHigh => 0
  | .controlSilent => 1
  | .levelLost => 2
  | .gateRunaway g => ⟨3 + g.val, by omega⟩
  | .gateFault g => ⟨19 + g.val, by omega⟩
  | .gateUnseen g => ⟨35 + g.val, by omega⟩
  | .gateLag g => ⟨51 + g.val, by omega⟩
  | .headLow => 67
  | .channelStale c => ⟨68 + c.val, by omega⟩
  | .linkLost .U => 76
  | .linkLost .D => 77
  | .noticeGap => 78
  | .forecastQueueFull => 79
  | .loadFailed t => ⟨80 + t.index.val, by omega⟩
  | .portErrorsBus .L => 98
  | .portErrorsBus .F => 99
  | .portErrorsReach .U => 100
  | .portErrorsReach .D => 101
  | .bypassBlocked g => ⟨102 + g.val, by omega⟩
  | .rampHeld => 118
  | .noticeLost => 119

/-- The conditions in the order of R136, subjects ascending within a kind. -/
def allConds : List Cond :=
  List.flatten
    [[.headHigh, .controlSilent, .levelLost], allGates.map .gateRunaway, allGates.map .gateFault,
     allGates.map .gateUnseen, allGates.map .gateLag, [.headLow], allChannels.map .channelStale,
     [.linkLost .U, .linkLost .D, .noticeGap, .forecastQueueFull], allTables.map .loadFailed,
     [.portErrorsBus .L, .portErrorsBus .F, .portErrorsReach .U, .portErrorsReach .D],
     allGates.map .bypassBlocked, [.rampHeld, .noticeLost]]

/-- The code of a condition's kind: 0 to 16 in the order of R136 (R171). -/
def Cond.kindCode : Cond → Nat
  | .headHigh => 0
  | .controlSilent => 1
  | .levelLost => 2
  | .gateRunaway _ => 3
  | .gateFault _ => 4
  | .gateUnseen _ => 5
  | .gateLag _ => 6
  | .headLow => 7
  | .channelStale _ => 8
  | .linkLost _ => 9
  | .noticeGap => 10
  | .forecastQueueFull => 11
  | .loadFailed _ => 12
  | .portErrorsBus _ => 13
  | .portErrorsReach _ => 13
  | .bypassBlocked _ => 14
  | .rampHeld => 15
  | .noticeLost => 16

/-- The code of a condition's subject: gate, channel, table id, port L 0, F 1, U 2, D 3, or NONE 255 (R171). -/
def Cond.subjectCode : Cond → Nat
  | .gateRunaway g | .gateFault g | .gateUnseen g | .gateLag g | .bypassBlocked g => g.val
  | .channelStale c => c.val
  | .linkLost .U | .portErrorsReach .U => 2
  | .linkLost .D | .portErrorsReach .D => 3
  | .portErrorsBus .L => 0
  | .portErrorsBus .F => 1
  | .loadFailed t => t.code
  | _ => 255

/-- The condition that a kind code and a subject code name, if any (R145, R171). -/
def Cond.ofCodes (kind subject : Byte) : Option Cond :=
  allConds.find? (fun c => c.kindCode == kind.toNat && c.subjectCode == subject.toNat)

/-- The level of a class B kind while the CONDITIONS table is not VALID (R137). -/
def Cond.defaultLevel : Cond → Nat
  | .gateFault _ | .gateUnseen _ | .linkLost _ => 2
  | .portErrorsBus _ | .portErrorsReach _ | .rampHeld | .noticeLost => 0
  | _ => 1

/-- The level of a condition: 3 for class A, else that of the CONDITIONS table or the default (R137). The table holds the
class B kinds in the order of R136 from GATE_FAULT, whose kind code is 4. -/
def Tables.level (t : Tables) (c : Cond) : Nat :=
  if c.kindCode < 4 then 3
  else
    match t.conditions with
    | .valid l => l.getD (c.kindCode - 4) 0
    | _ => c.defaultLevel

/-- What a raise reads beside the records: the present tick, the levels and the notice mask level (R137, R141). -/
structure RaiseEnv where
  now : Tick
  tables : Tables

/-- The notice mask level in force (R141). -/
def RaiseEnv.mask (e : RaiseEnv) : Nat := e.tables.stationOr.noticeMask

/-! ## Port L -/

/-- A count of R147: it saturates at 65,535. -/
def countUp (n : Nat) : Nat := min (n + 1) 65535

/-- The number that the own queue of Port L counts as held: its frames, and the SAVE place while held (R154). -/
def PortL.ownTotal (p : PortL) : Nat := p.own.length + p.savePlace.toNat

/-- Whether the own queue of Port L is full (R154). -/
def PortL.ownFull (p : PortL) : Bool := decide (8 ≤ p.ownTotal)

/-- An idle transmitter of Port L takes the head of the own queue, else the head of the general queue (R155). -/
def PortL.start (p : PortL) : PortL :=
  match p.sending with
  | some _ => p
  | none =>
    match p.own with
    | f :: r => { p with own := r, sending := some (.own f) }
    | [] =>
      match p.general with
      | f :: r => { p with general := r, sending := some (.general f) }
      | [] => p

/-- A frame joins the tail of the own queue, and leaves at once if the transmitter is idle (R154, R155). -/
def PortL.pushOwn (p : PortL) (f : BusFrame) : PortL :=
  PortL.start { p with own := p.own ++ [f] }

/-! ## The notice queue (R141 to R144) -/

/-- The record of a condition. -/
def Desk.record (d : Desk) (c : Cond) : CondRecord := d.records[c.number]

/-- A condition's record replaced. -/
def Desk.setRecord (d : Desk) (c : Cond) (r : CondRecord) : Desk :=
  { d with records := d.records.set c.number r }

/-- An absent field of four bytes (R171). -/
abbrev absent4 : Nat := 4294967295

/-- The NOTICE frame of an entry, its fields fixed at the hand-off (R144, R171). -/
def noticeFrame (e : NoticeEntry) (r : CondRecord) : BusFrame :=
  makeBusFrame controlAddress partAddress kindNotice
    (beBytes 1 e.cond.kindCode ++ beBytes 1 e.cond.subjectCode ++ beBytes 1 e.level ++
     beBytes 1 (r.active.toNat + 2 * r.latched.toNat) ++ beBytes 4 (r.firstSet.getD absent4))

/-- Entries handed to the own queue from the head while it holds 5 frames or fewer (R144): the entries left, and Port L. -/
def handOff (records : Vector CondRecord 120) : List NoticeEntry → PortL → List NoticeEntry × PortL
  | [], p => ([], p)
  | e :: r, p =>
    if p.ownTotal ≤ 5 then handOff records r (p.pushOwn (noticeFrame e records[e.cond.number]))
    else (e :: r, p)

/-- The hand-off test (R144). -/
def Desk.handOff (d : Desk) : Desk :=
  let out := Machine.handOff d.records d.notices d.portL
  { d with notices := out.1, portL := out.2 }

/-- An idle transmitter of Port L begins; where a frame leaves the own queue the hand-off test follows (R155). -/
def Desk.kick (d : Desk) : Desk :=
  match d.portL.sending, d.portL.own with
  | none, _ :: _ => Desk.handOff { d with portL := d.portL.start }
  | none, [] => { d with portL := d.portL.start }
  | some _, _ => d

/-- A frame of the part joins the own queue of Port L (R154, R155). -/
def Desk.pushOwn (d : Desk) (f : BusFrame) : Desk :=
  Desk.kick { d with portL := { d.portL with own := d.portL.own ++ [f] } }

/-- A forwarded frame joins the general queue of Port L, or is dropped and counted where that holds 8 frames (R152). -/
def Desk.forward (d : Desk) (f : BusFrame) : Desk :=
  if 8 ≤ d.portL.general.length then { d with portL := { d.portL with dropped := countUp d.portL.dropped } }
  else Desk.kick { d with portL := { d.portL with general := d.portL.general ++ [f] } }

/-- A new entry stands after every entry of its level or higher and before every lower one (R142). -/
def insertNotice (e : NoticeEntry) : List NoticeEntry → List NoticeEntry
  | [] => [e]
  | x :: r => if e.level ≤ x.level then x :: insertNotice e r else e :: x :: r

/-- The active and latched states and first-set tick after a raise (R139). -/
def CondRecord.raised (r : CondRecord) (now : Tick) : CondRecord :=
  if r.latched then { r with active := true } else { active := true, latched := true, firstSet := some now }

/-- NOTICE_LOST is raised: its record alone, for it has no notice at any level (R141, R143). -/
def Desk.raiseNoticeLost (d : Desk) (now : Tick) : Desk :=
  d.setRecord .noticeLost ((d.record .noticeLost).raised now)

/-- A notice is placed in the queue, or judged against a full one (R142, R143). -/
def Desk.placeNotice (d : Desk) (now : Tick) (e : NoticeEntry) : Desk :=
  if d.notices.length < 16 then Desk.handOff { d with notices := insertNotice e d.notices }
  else
    match d.notices.getLast? with
    | none => d
    | some last =>
      if last.level < e.level then
        Desk.handOff (Desk.raiseNoticeLost { d with notices := insertNotice e d.notices.dropLast } now)
      else Desk.raiseNoticeLost d now

/-- A notice is offered by a raise that found its record not latched (R141). -/
def Desk.offer (d : Desk) (e : RaiseEnv) (c : Cond) : Desk :=
  let level := e.tables.level c
  if c = .noticeLost then d
  else if level = 3 ∨ e.mask ≤ level then d.placeNotice e.now { cond := c, level := level }
  else d

/-- A raise (R139). -/
def Desk.raise (d : Desk) (e : RaiseEnv) (c : Cond) : Desk :=
  let r := d.record c
  let d' := d.setRecord c (r.raised e.now)
  if r.latched then d' else d'.offer e c

/-- The owner clears the active state (R140). -/
def Desk.clear (d : Desk) (c : Cond) : Desk :=
  d.setRecord c { d.record c with active := false }

/-- The owner clears the active states of several records (R140). -/
def Desk.clearAll (d : Desk) (l : List Cond) : Desk :=
  l.foldl Desk.clear d

/-- An acknowledgement clears the latch and the first-set tick and takes the record's entry out of the queue (R145). -/
def Desk.acknowledge (d : Desk) (c : Cond) : Desk :=
  let d' := d.setRecord c { d.record c with latched := false, firstSet := none }
  { d' with notices := d'.notices.filter (fun e => decide (e.cond ≠ c)) }

/-! ## On the whole state -/

/-- What a raise reads of the state. -/
def State.raiseEnv (s : State) : RaiseEnv := { now := s.now, tables := s.tables }

/-- A block raises a condition (R139). -/
def State.raise (s : State) (c : Cond) : State :=
  { s with desk := s.desk.raise s.raiseEnv c }

/-- A block clears the active state of a condition (R140). -/
def State.clear (s : State) (c : Cond) : State :=
  { s with desk := s.desk.clear c }

/-- A block clears the active states of several conditions (R140). -/
def State.clearAll (s : State) (l : List Cond) : State :=
  { s with desk := s.desk.clearAll l }

/-- Whether a condition is active. -/
def State.active (s : State) (c : Cond) : Bool := (s.desk.record c).active

/-- Whether a condition is latched. -/
def State.latched (s : State) (c : Cond) : Bool := (s.desk.record c).latched

/-- A frame of the part is placed in the own queue of Port L (R154). -/
def State.pushOwn (s : State) (f : BusFrame) : State :=
  { s with desk := s.desk.pushOwn f }

end Sys2Proof.Machine
end

