-- ==== Sys2Proof/Machine/Ops.lean ====
section
/-! DEFINITION. The shared operations over gates, power groups and Port F: the drive queue (R153), the waiting queues, grants,
releases and early lock of the Group Arbiter (chapter 2), and the moves, tests and states of the Gate Sequencer (chapter 1). -/

namespace Sys2Proof.Machine

/-- Whether the station mode is GOVERN or FALLBACK. -/
def Mode.governing : Mode → Bool
  | .govern | .fallback => true
  | _ => false

/-- Whether lag and runaway supervision run and orders to drives are blocked: GOVERN, FALLBACK or FROZEN (R26, R27, R99). -/
def Mode.supervised : Mode → Bool
  | .govern | .fallback | .frozen => true
  | _ => false

/-- What the operations on gates and groups read beside them: the present tick, the tables, the station mode (R10, R29), and
the count of draws. -/
structure YardEnv where
  now : Tick
  tables : Tables
  mode : Mode
  draws : Nat

/-- The loaded part of a gate. -/
abbrev YardEnv.cfg (e : YardEnv) (i : Fin 16) : GateCfg := e.tables.gateCfg i

/-! ## Records -/

/-- The record of a gate. -/
def Yard.gate (y : Yard) (i : Fin 16) : Gate := y.gates[i]

/-- A gate's record replaced. -/
def Yard.setGate (y : Yard) (i : Fin 16) (g : Gate) : Yard := { y with gates := y.gates.set i g }

/-- The record of a group. -/
def Yard.group (y : Yard) (k : Fin 4) : Group := y.groups[k]

/-- A group's record replaced. -/
def Yard.setGroup (y : Yard) (k : Fin 4) (g : Group) : Yard := { y with groups := y.groups.set k g }

/-- The record of a gate. -/
def State.gate (s : State) (i : Fin 16) : Gate := s.yard.gate i

/-- A gate's record replaced. -/
def State.setGate (s : State) (i : Fin 16) (g : Gate) : State := { s with yard := s.yard.setGate i g }

/-- The record of a group. -/
def State.group (s : State) (k : Fin 4) : Group := s.yard.group k

/-- The loaded part of a gate. -/
abbrev State.cfg (s : State) (i : Fin 16) : GateCfg := s.tables.gateCfg i

/-- What the operations on gates and groups read of the state. -/
def State.yardEnv (s : State) : YardEnv :=
  { now := s.now, tables := s.tables, mode := s.mdc.mode, draws := s.draws }

/-! ## Port F (R152, R153, R155) -/

/-- An idle transmitter of Port F takes the head of the drive queue, else the head of the general queue (R155). -/
def PortF.start (p : PortF) : PortF :=
  match p.sending with
  | some _ => p
  | none =>
    match p.drive with
    | e :: r => { p with drive := r, sending := some (.drive e) }
    | [] =>
      match p.general with
      | f :: r => { p with general := r, sending := some (.general f) }
      | [] => p

/-- A drive frame replaces the waiting frame of its gate in place, or joins the tail (R153). -/
def placeDrive (e : DriveEntry) : List DriveEntry → List DriveEntry
  | [] => [e]
  | x :: r => if x.gate = e.gate then e :: r else x :: placeDrive e r

/-- The DRIVE frame of a command; the setpoint is 0 for every command but MOVE (R6, R171). -/
def driveFrame (address : Nat) (c : DriveCommand) (setpoint : Nat) : BusFrame :=
  makeBusFrame (BitVec.ofNat 8 address) partAddress kindDrive
    (beBytes 1 c.code ++ beBytes 2 (if c = .move then setpoint else 0))

/-- A DRIVE frame is issued for a gate (R6, R153). -/
def Yard.issue (e : YardEnv) (i : Fin 16) (c : DriveCommand) (setpoint : Nat) (y : Yard) : Yard :=
  { y with portF := PortF.start { y.portF with
      drive := placeDrive { gate := i, frame := driveFrame (e.cfg i).driveAddress c setpoint } y.portF.drive } }

/-- A forwarded frame joins the general queue of Port F, or is dropped and counted where that holds 8 frames (R152). -/
def PortF.forward (p : PortF) (f : BusFrame) : PortF :=
  if 8 ≤ p.general.length then { p with dropped := countUp p.dropped }
  else PortF.start { p with general := p.general ++ [f] }

/-! ## Openings and instants -/

/-- An opening clamped to a gate's bounds (R4). -/
def GateCfg.clamp (c : GateCfg) (p : Nat) : Nat := max c.minOpening (min p c.maxOpening)

/-- The pending test against a reference position (R5). -/
def pendingTest (c : GateCfg) (target reference : Option Nat) : Bool :=
  match target, reference with
  | some t, some r => decide (c.band < gap t r)
  | _, _ => false

/-- The length of a spill run over a distance: the ceiling of d × travel time / 10, at least 1 (R19). -/
def runLength (c : GateCfg) (d : Nat) : Nat := max 1 ((d * c.travelTime + 9) / 10)

/-- The lock-allowed instant (R14). -/
def lockAllowedInstant (c : GateCfg) (g : Gate) : Tick :=
  let u := g.unlockCompletion.getD 0
  let settled := match g.lastMoveEnd with
    | some m => max (u + c.tFM) (m + c.tST)
    | none => u + c.tFM
  if g.lockAfter || g.earlyLock then settled
  else
    let idle := match g.lastMoveEnd with
      | some m => max u m
      | none => u
    max settled (idle + c.tID)

/-- The state timer of a FREE gate that waits for its lock-allowed instant: at the instant, or at once (R14). -/
def Yard.armLock (e : YardEnv) (i : Fin 16) (y : Yard) : Yard :=
  let g := y.gate i
  y.setGate i { g with stateTimer := some (max e.now (lockAllowedInstant (e.cfg i) g)) }

/-! ## Group Arbiter (chapter 2) -/

/-- A gate takes an early-lock request: only FREE with no motion pending (R15). -/
def Yard.earlyLockRequest (e : YardEnv) (i : Fin 16) (y : Yard) : Yard :=
  let g := y.gate i
  if g.state = .free ∧ g.pending = false then Yard.armLock e i (y.setGate i { g with earlyLock := true }) else y

/-- Whether the early-lock condition of a group holds: its head URGENT and its slots full (R40); no request goes out while
the GROUPS table is not VALID (R30). -/
def earlyLockCondition (e : YardEnv) (k : Fin 4) (y : Yard) : Bool :=
  let g := y.group k
  match g.queue with
  | h :: _ => h.priority == .urgent && e.tables.groups.isValid && g.slots == (e.tables.groupCfg k).capacity
  | [] => false

/-- The early-lock test of a group: a request to every idle NORMAL gate of the group in FREE (R40). -/
def Yard.earlyLockTest (e : YardEnv) (k : Fin 4) (y : Yard) : Yard :=
  if earlyLockCondition e k y then
    allGates.foldl
      (fun y i => if (e.cfg i).group = k ∧ (y.gate i).priority = .normal then Yard.earlyLockRequest e i y else y) y
  else y

/-- The idle signal of a gate at rest in FREE: the early-lock condition is tested for it alone (R41). -/
def Yard.idleSignal (e : YardEnv) (i : Fin 16) (y : Yard) : Yard :=
  if earlyLockCondition e (e.cfg i).group y ∧ (y.gate i).priority = .normal then Yard.earlyLockRequest e i y else y

/-- Whether a group's head may be granted a slot, but for the head itself (R35). At the tick of the spacing expiry a check taken before
that expiry finds the spacing not yet passed (R37; log entry 43). -/
def grantAllowed (e : YardEnv) (k : Fin 4) (g : Group) : Bool :=
  e.tables.groups.isValid && decide (g.slots < (e.tables.groupCfg k).capacity) &&
  (match g.lastGrant with
   | none => true
   | some t => g.spacingTimer.isNone && decide ((e.tables.groupCfg k).spacing ≤ e.now - t))

/-- A gate takes a grant in WAIT_GRANT: UNLOCK, and UNLOCKING for tUL (R12). -/
def Yard.takeGrant (e : YardEnv) (i : Fin 16) (y : Yard) : Yard :=
  Yard.issue e i .unlock 0
    (y.setGate i { y.gate i with
      state := .unlocking, lastUnlock := some e.now, lastMoveEnd := none, earlyLock := false, trimCount := 0
      stateTimer := some (e.now + (e.cfg i).tUL), reportSinceGrant := false })

/-- The arbiter tells a gate that it has been granted (R36): the gate takes the grant at once, or the grant is in flight, free to cross
another event of the gate (R39; log entry 34). -/
def Yard.tellGranted (e : YardEnv) (i : Fin 16) (y : Yard) : Yard :=
  if Config.grantCrosses e.draws e.now i.val then { y with inFlight := y.inFlight ++ [i] } else Yard.takeGrant e i y

/-- A grant check, with the further checks that follow a grant (R35, R36); a grant that finds its gate out of WAIT_GRANT is
handed back at once (R39). At most `n` grants. -/
def Yard.grantChecks (e : YardEnv) (k : Fin 4) : Nat → Yard → Yard
  | 0, y => Yard.earlyLockTest e k y
  | n + 1, y =>
    let g := y.group k
    match g.queue with
    | [] => y
    | h :: rest =>
      if grantAllowed e k g then
        let spacing := (e.tables.groupCfg k).spacing
        let granted : Group :=
          { slots := g.slots + 1, lastGrant := some e.now
            spacingTimer := if 0 < spacing then some (e.now + spacing) else none, queue := rest }
        if (y.gate h.gate).state = .waitGrant then
          Yard.grantChecks e k n (Yard.tellGranted e h.gate (y.setGroup k granted))
        else Yard.grantChecks e k n (y.setGroup k { granted with slots := g.slots })
      else Yard.earlyLockTest e k y

/-- The grant check of a group (R35). -/
def Yard.grantCheck (e : YardEnv) (k : Fin 4) (y : Yard) : Yard :=
  Yard.grantChecks e k (y.group k).queue.length y

/-- The place of an URGENT entry: directly after the last URGENT entry, or at the head (R32). -/
def insertUrgent (x : QueueEntry) : List QueueEntry → List QueueEntry
  | [] => [x]
  | h :: r => if h.priority = .urgent then h :: insertUrgent x r else x :: h :: r

/-- A new entry's place by its priority (R32). -/
def enqueue (x : QueueEntry) (q : List QueueEntry) : List QueueEntry :=
  match x.priority with
  | .urgent => insertUrgent x q
  | .normal => q ++ [x]

/-- The gate at the head of a queue. -/
def headGate (q : List QueueEntry) : Option (Fin 16) := q.head?.map (·.gate)

/-- A gate's entry taken out; the others keep their order (R34). -/
def dequeue (i : Fin 16) (q : List QueueEntry) : List QueueEntry :=
  q.filter (fun x => decide (x.gate ≠ i))

/-- A gate joins its group's waiting queue, and a grant check runs (R32). -/
def Yard.join (e : YardEnv) (i : Fin 16) (y : Yard) : Yard :=
  let k := (e.cfg i).group
  let g := y.group k
  Yard.grantCheck e k
    (y.setGroup k { g with queue := enqueue { gate := i, priority := (y.gate i).priority } g.queue })

/-- A waiting gate's new priority is handed to the arbiter (R33). -/
def Yard.changePriority (e : YardEnv) (i : Fin 16) (y : Yard) : Yard :=
  let k := (e.cfg i).group
  let g := y.group k
  let p := (y.gate i).priority
  match g.queue.find? (fun x => x.gate == i) with
  | none => y
  | some x =>
    if x.priority = p then y
    else
      let q := enqueue { gate := i, priority := p } (dequeue i g.queue)
      let y' := y.setGroup k { g with queue := q }
      if headGate q = headGate g.queue then y' else Yard.grantCheck e k y'

/-- A gate's entry is removed; a grant check runs if it was the head (R34). -/
def Yard.removeEntry (e : YardEnv) (i : Fin 16) (y : Yard) : Yard :=
  let k := (e.cfg i).group
  let g := y.group k
  let y' := y.setGroup k { g with queue := dequeue i g.queue }
  if headGate g.queue = some i then Yard.grantCheck e k y' else y'

/-- A gate's slot is released, and a grant check runs (R38); a count of 0 stays 0. -/
def Yard.releaseSlot (e : YardEnv) (i : Fin 16) (y : Yard) : Yard :=
  let k := (e.cfg i).group
  let g := y.group k
  Yard.grantCheck e k (y.setGroup k { g with slots := g.slots - 1 })

/-- A grant in flight is no longer so. -/
def Yard.landGrant (i : Fin 16) (y : Yard) : Yard := { y with inFlight := y.inFlight.filter (fun j => decide (j ≠ i)) }

/-- A gate leaves WAIT_GRANT by a withdrawal, a fault or a freeze: its entry is removed (R34), or, where the grant was taken first, there
is no entry, and the slot is handed back with no UNLOCK when the grant reaches the gate, which is within this event (R39; log entry 34). -/
def Yard.leaveQueue (e : YardEnv) (i : Fin 16) (y : Yard) : Yard :=
  if i ∈ y.inFlight then Yard.releaseSlot e i (y.landGrant i) else Yard.removeEntry e i y

/-- A grant in flight reaches its gate: it is taken in WAIT_GRANT (R12), and handed back at once in any other state (R39). -/
def Yard.deliverGrant (e : YardEnv) (i : Fin 16) (y : Yard) : Yard :=
  if (y.gate i).state = .waitGrant then Yard.takeGrant e i (y.landGrant i) else Yard.releaseSlot e i (y.landGrant i)

/-! ## Moves (R17 to R22) -/

/-- A spill run starts toward an opening from the reported position (R19, R20). -/
def Yard.startRun (e : YardEnv) (i : Fin 16) (toward : Nat) (y : Yard) : Yard :=
  let g := y.gate i
  let p := g.position.getD 0
  let up := decide (p < toward)
  Yard.issue e i (if up then .runRaise else .runLower) 0
    (y.setGate i { g with
      state := .moving, raising := up, stateTimer := some (e.now + runLength (e.cfg i) (gap toward p)) })

/-- A move starts in FREE (R17, R19). -/
def Yard.startMove (e : YardEnv) (i : Fin 16) (y : Yard) : Yard :=
  let c := e.cfg i
  let g := y.gate i
  let t := g.target.getD 0
  let g' : Gate := { g with
    moveSetpoint := some t, pending := false, earlyLock := false, moveWatch := some (e.now + c.moveTimeout) }
  match c.kind with
  | .wicket => Yard.issue e i .move t (y.setGate i { g' with state := .moving, stateTimer := none })
  | .spill => Yard.startRun e i t (y.setGate i { g' with trimCount := 0 })

/-- A FREE gate with no motion pending waits for its lock-allowed instant and signals the arbiter (R14, R41). -/
def Yard.restFree (e : YardEnv) (i : Fin 16) (y : Yard) : Yard :=
  Yard.idleSignal e i (Yard.armLock e i y)

/-- The pending test of a FREE gate, against its reported position: a move, or the wait to lock (R5). -/
def Yard.testFree (e : YardEnv) (i : Fin 16) (y : Yard) : Yard :=
  let g := y.gate i
  if pendingTest (e.cfg i) g.target g.position then Yard.startMove e i (y.setGate i { g with pending := true })
  else Yard.restFree e i (y.setGate i { g with pending := false })

/-- A gate enters FREE (R13, R17, R20). -/
def Yard.enterFree (e : YardEnv) (i : Fin 16) (y : Yard) : Yard :=
  Yard.testFree e i (y.setGate i { y.gate i with state := .free })

/-- A gate comes to rest in FREE with no pending test: motion pending is no, and it waits to lock (R14). -/
def Yard.rest (e : YardEnv) (i : Fin 16) (y : Yard) : Yard :=
  Yard.restFree e i (y.setGate i { y.gate i with state := .free, pending := false })

/-- A move ends, and the gate enters FREE (R17, R20). In FROZEN a spill gate is not tested for a further run, wherever it came to rest:
it waits to lock (R29; log entry 44, the model's choice where R29 and the test of R20 and R5 part). -/
def Yard.endMove (e : YardEnv) (i : Fin 16) (y : Yard) : Yard :=
  let y' := y.setGate i { y.gate i with lastMoveEnd := some e.now, moveSetpoint := none, moveWatch := none }
  if e.mode = .frozen ∧ (e.cfg i).kind = .spill then Yard.rest e i y' else Yard.enterFree e i y'

/-- A spill run is stopped, and the hoist coasts for the reversal dwell (R20, R21). -/
def Yard.stopRun (e : YardEnv) (i : Fin 16) (y : Yard) : Yard :=
  Yard.issue e i .stop 0
    (y.setGate i { y.gate i with state := .reversing, stateTimer := some (e.now + (e.cfg i).reversalDwell) })

/-! ## LOCKED and WAIT_GRANT (R5, R10, R12) -/

/-- A LOCKED gate with motion pending is tested for WAIT_GRANT: it joins its queue in GOVERN and FALLBACK once its minimum
cycle has elapsed, and waits for that by its state timer (R10; log entry 14). -/
def Yard.testLocked (e : YardEnv) (i : Fin 16) (y : Yard) : Yard :=
  let g := y.gate i
  if g.state = .locked ∧ g.pending = true ∧ e.mode.governing = true then
    match g.lastUnlock with
    | some u =>
      if u + (e.cfg i).tCY ≤ e.now then
        Yard.join e i (y.setGate i { g with state := .waitGrant, stateTimer := none })
      else y.setGate i { g with stateTimer := some (u + (e.cfg i).tCY) }
    | none => Yard.join e i (y.setGate i { g with state := .waitGrant, stateTimer := none })
  else y

/-- The pending test of a LOCKED gate, against its position at lock (R5, R10). -/
def Yard.pendingLocked (e : YardEnv) (i : Fin 16) (y : Yard) : Yard :=
  let g := y.gate i
  if pendingTest (e.cfg i) g.target g.positionAtLock then Yard.testLocked e i (y.setGate i { g with pending := true })
  else y.setGate i { g with pending := false, stateTimer := none }

/-- The pending test of a gate in WAIT_GRANT: withdrawal, or its new priority to the arbiter (R12, R33). -/
def Yard.pendingWaiting (e : YardEnv) (i : Fin 16) (y : Yard) : Yard :=
  let g := y.gate i
  if pendingTest (e.cfg i) g.target g.positionAtLock then Yard.changePriority e i (y.setGate i { g with pending := true })
  else Yard.leaveQueue e i (y.setGate i { g with state := .locked, pending := false, stateTimer := none })

/-- A LOCKED gate is re-seated at an opening its drive reports (R11). -/
def Gate.reseat (g : Gate) (c : GateCfg) (p : Nat) : Gate :=
  { g with
    positionAtLock := some p, commanded := some (c.clamp p), target := some (c.clamp p), pending := false
    stateTimer := none }

/-- A gate that is first locked takes a standing target at its commanded setpoint, unless it holds an adopted order (R97); in every mode,
FALLBACK too (log entry 39). -/
def Gate.firstLockStanding (g : Gate) : Gate :=
  if g.standing.opening.isNone ∨ g.standing.origin = .position then
    { g with standing := { opening := g.commanded, lockAfter := true, origin := .position } }
  else g

/-- A gate enters LOCKED for the first time, from UNSEEN or RECOVERING (R7, R9). -/
def Yard.firstLock (e : YardEnv) (i : Fin 16) (y : Yard) : Yard :=
  let g := y.gate i
  let p := g.position.getD 0
  Yard.pendingLocked e i
    (y.setGate i (Gate.firstLockStanding { g.reseat (e.cfg i) p with
      state := .locked, lockAfter := true, priority := .normal }))

/-! ## New motion targets (R4, R5, R18, R21) -/

/-- Whether an opening lies beyond a position by more than the band, on the side of a reference opening (R18). -/
def sameDirection (c : GateCfg) (position reference opening : Nat) : Bool :=
  (decide (position < reference) && decide (position + c.band < opening)) ||
  (decide (reference < position) && decide (opening + c.band < position))

/-- A wicket gate in MOVING takes a new target (R18). A target equal to the move setpoint is judged first, and a target that is re-issued
leaves motion pending as an earlier deferred target left it (log entry 21). -/
def Yard.retargetWicket (e : YardEnv) (i : Fin 16) (t : Nat) (y : Yard) : Yard :=
  let g := y.gate i
  let m := g.moveSetpoint.getD 0
  if t = m then y
  else if sameDirection (e.cfg i) (g.position.getD 0) m t then
    Yard.issue e i .move t
      (y.setGate i { g with moveSetpoint := some t, moveWatch := some (e.now + (e.cfg i).moveTimeout) })
  else y.setGate i { g with pending := true }

/-- A spill gate in MOVING takes a new target (R21). -/
def Yard.retargetSpill (e : YardEnv) (i : Fin 16) (t : Nat) (y : Yard) : Yard :=
  let c := e.cfg i
  let g := y.gate i
  let p := g.position.getD 0
  if (g.raising && decide (p + c.band < t)) || (!g.raising && decide (t + c.band < p)) then
    y.setGate i { g with
      moveSetpoint := some t, stateTimer := some (e.now + runLength c (gap t p)), trimCount := 0
      moveWatch := some (e.now + c.moveTimeout) }
  else Yard.stopRun e i (y.setGate i { g with pending := true })

/-- A gate takes a new motion target with its lock-after flag and priority, and acts on it by its state (R4). -/
def Yard.takeTarget (e : YardEnv) (i : Fin 16) (t : Nat) (lockAfter : Bool) (p : Priority) (y : Yard) : Yard :=
  let g : Gate := { y.gate i with target := some t, lockAfter := lockAfter, priority := p }
  let y' := y.setGate i g
  match g.state with
  | .locked => Yard.pendingLocked e i y'
  | .waitGrant => Yard.pendingWaiting e i y'
  | .free => Yard.testFree e i y'
  | .moving =>
    match (e.cfg i).kind with
    | .wicket => Yard.retargetWicket e i t y'
    | .spill => Yard.retargetSpill e i t y'
  | .reversing => y'.setGate i { g with pending := true }
  | .unseen | .recovering | .unlocking | .locking | .faulted => y'

/-! ## Faults and freeze (R24, R29) -/

/-- Whether a gate in a state holds a slot of its group (R36). -/
def GateState.holdsSlot : GateState → Bool
  | .unlocking | .free | .moving | .reversing | .locking => true
  | _ => false

/-- A gate enters FAULTED: timers stop, its order slot is emptied (R96), LOCK goes out where due, and it gives up its place
or slot (R24). -/
def Yard.enterFaulted (e : YardEnv) (i : Fin 16) (lock : Bool) (y : Yard) : Yard :=
  let g := y.gate i
  let y1 := y.setGate i { g with
    state := .faulted, stateTimer := none, moveWatch := none, lagStart := none, lagReported := false, slot := none }
  let y2 := if lock then Yard.issue e i .lock 0 y1 else y1
  if g.state = .waitGrant then Yard.leaveQueue e i y2
  else if g.state.holdsSlot then Yard.releaseSlot e i y2
  else y2

/-- A gate takes the freeze (R29). The entry of a waiting gate leaves its queue once every gate is frozen (State.freezeGates). A wicket
gate frozen in MOVING keeps motion pending as it was (log entry 45). -/
def Yard.freezeGate (e : YardEnv) (i : Fin 16) (y : Yard) : Yard :=
  let c := e.cfg i
  let g0 := y.gate i
  let g : Gate := match g0.state, g0.position with
    | .unseen, _ => g0
    | _, some p => { g0 with commanded := some (c.clamp p), target := some (c.clamp p) }
    | _, none => g0
  let y' := y.setGate i g
  match g.state with
  | .waitGrant => y'.setGate i { g with state := .locked, pending := false, stateTimer := none }
  | .locked => y'.setGate i { g with pending := pendingTest c g.target g.positionAtLock, stateTimer := none }
  | .free => Yard.armLock e i (y'.setGate i { g with pending := false })
  | .moving =>
    match c.kind with
    | .wicket =>
      Yard.issue e i .move (g.target.getD 0)
        (y'.setGate i { g with moveSetpoint := g.target, moveWatch := some (e.now + c.moveTimeout) })
    | .spill => Yard.stopRun e i (y'.setGate i { g with trimCount := 2, pending := false })
  | .reversing => y'.setGate i { g with trimCount := 2, pending := false }
  | .unseen | .recovering | .unlocking | .locking | .faulted => y'

/-! ## On the whole state -/

/-- An operation on gates and groups within an event of gate `i`. A gate that leaves LOCKED by it loses the active state of
its GATE_RUNAWAY (R27). -/
def State.onYard (s : State) (i : Fin 16) (f : YardEnv → Yard → Yard) : State :=
  let y := f s.yardEnv s.yard
  let s' := { s with yard := y }
  if (s.gate i).state = .locked ∧ (y.gate i).state ≠ .locked then s'.clear (.gateRunaway i) else s'

/-- A gate enters FAULTED with a condition raised (R24). -/
def State.faultGate (s : State) (i : Fin 16) (lock : Bool) (c : Cond) : State :=
  State.raise (State.clear (s.onYard i (fun e y => Yard.enterFaulted e i lock y)) (.gateLag i)) c

/-- The seen watch of a gate starts while the STATION table is VALID (R8). -/
def Gate.startSeenWatch (g : Gate) (t : Tables) (now : Tick) : Gate :=
  match t.station with
  | .valid st => { g with stateTimer := some (now + st.seenTimeout) }
  | _ => { g with stateTimer := none }

/-- Every gate that is in service and UNSEEN starts its seen watch (R2, R8). -/
def State.startSeenWatches (s : State) : State :=
  allGates.foldl
    (fun s i =>
      if (s.cfg i).inService = true ∧ (s.gate i).state = .unseen then
        s.setGate i ((s.gate i).startSeenWatch s.tables s.now)
      else s) s

/-- Every order slot is emptied (R96). -/
def State.emptySlots (s : State) : State :=
  allGates.foldl (fun s i => s.setGate i { s.gate i with slot := none }) s

/-- Every LOCKED gate with motion pending is tested by R10. -/
def State.testLockedGates (s : State) : State :=
  allGates.foldl (fun s i => s.onYard i (fun e y => Yard.testLocked e i y)) s

end Sys2Proof.Machine
end

