-- ==== Sys2Proof/Machine/Rating.lean ====
section
/-! DEFINITION. Rating curves and station outflow (chapter 4): gate flow in exact integer arithmetic (R58 to R60), the opening
for a flow (R62), and the planned and present sums (R63). -/

namespace Sys2Proof.Machine

/-- An entry e[i][j] of a curve's grid (R55). -/
def Curve.entry (c : Curve) (i j : Nat) : Nat := (c.rows.getD i []).getD j 0

/-- The value of a head column at an opening, interpolated along the opening and rounded half up (R58). -/
def Curve.column (c : Curve) (opening j : Nat) : Nat :=
  let i := min (opening / 100) 9
  let d := opening - 100 * i
  (c.entry i j * 100 + (c.entry (i + 1) j - c.entry i j) * d + 50) / 100

/-- The step between two head columns (R59). -/
def headStep (v0 v1 h0 h1 head : Nat) : Nat :=
  let d := h1 - h0
  (v0 * d + (v1 - v0) * (head - h0) + d / 2) / d

/-- The value at a head, from head breakpoints taken from column `j` on: the first column at or below the first breakpoint,
the last at or above the last, and the head step between (R59). -/
def Curve.valueFrom (c : Curve) (opening head : Nat) : (j : Nat) → List Nat → Nat
  | _, [] => 0
  | j, [_] => c.column opening j
  | j, h0 :: h1 :: r =>
    if head ≤ h0 then c.column opening j
    else if head < h1 then headStep (c.column opening j) (c.column opening (j + 1)) h0 h1 head
    else c.valueFrom opening head (j + 1) (h1 :: r)

/-- Gate flow Q(o, H) in fu (R58 to R60). -/
def Curve.flow (c : Curve) (opening head : Nat) : Nat :=
  c.valueFrom opening head 0 c.heads * 2 ^ c.shift

/-- The flow of a gate at an opening and a head; none while its curve is not VALID (R57). -/
def Tables.gateFlow (t : Tables) (i : Fin 16) (opening head : Nat) : Option Nat :=
  (t.curves[(t.gateCfg i).curve]).get?.map (fun c => c.flow opening head)

/-- The smallest opening from `o` up, within the next `n`, that passes a flow, or the last one (R62). -/
def smallestOpening (q : Nat → Nat) (r : Nat) : (o : Nat) → (n : Nat) → Nat
  | o, 0 => o
  | o, n + 1 => if r ≤ q o then o else smallestOpening q r (o + 1) n

/-- The opening of a gate for a flow at a head (R62). -/
def Tables.openingForFlow (t : Tables) (i : Fin 16) (r head : Nat) : Nat :=
  let c := t.gateCfg i
  smallestOpening (fun o => (t.gateFlow i o head).getD 0) r c.minOpening (c.maxOpening - c.minOpening)

/-- One contribution to a station outflow sum with its completeness, for the opening a gate in an ordinary state counts at
(R63). -/
def contribution (t : Tables) (head : Nat) (i : Fin 16) (g : Gate) (opening : Option Nat) : Nat × Bool :=
  if (t.gateCfg i).inService = false ∨ g.state = .unseen then (0, true)
  else
    match (if g.state = .faulted then g.position else opening) with
    | none => (0, true)
    | some o =>
      match t.gateFlow i o head with
      | some q => (q, true)
      | none => (0, false)

/-- A station outflow sum with its completeness, by the opening that each gate in an ordinary state counts at (R63). -/
def State.outflowSum (s : State) (opening : Fin 16 → Option Nat) : Nat × Bool :=
  allGates.foldl
    (fun acc i =>
      let q := contribution s.tables s.lvu.head i (s.gate i) (opening i)
      (acc.1 + q.1, acc.2 && q.2)) (0, true)

/-- The planned sum: gates in ordinary states at their commanded setpoints (R63). -/
def State.plannedSum (s : State) : Nat := (s.outflowSum (fun i => (s.gate i).commanded)).1

/-- The present sum with its completeness: gates at their reported positions (R63, R66). -/
def State.presentSum (s : State) : Nat × Bool := s.outflowSum (fun i => (s.gate i).position)

end Sys2Proof.Machine
end

