-- ==== Sys2Proof/Machine/Cascade.lean ====
section
/-! DEFINITION. The Cascade Unit and the Reach Link Unit (chapter 7): reach ports and their transmitters, the forecast queue and
forecast inflow, the acceptance in use, the own acceptance, and release notices. -/

namespace Sys2Proof.Machine

/-! ## Reach ports (R102, R106) -/

/-- The neighbour number configured for a reach port; 0 while the STATION table is not VALID (R102). -/
def State.neighbour (s : State) : ReachSide → Nat
  | .U => s.tables.stationOr.upstream
  | .D => s.tables.stationOr.downstream

/-- Whether a reach port is present (R102). -/
def State.portPresent (s : State) (p : ReachSide) : Bool :=
  decide (1 ≤ s.neighbour p ∧ s.neighbour p ≤ 63)

/-- A reach port. -/
def State.reachPort (s : State) : ReachSide → ReachPort
  | .U => s.portU
  | .D => s.portD

/-- A reach port replaced. -/
def State.setReachPort (s : State) (p : ReachSide) (r : ReachPort) : State :=
  match p with
  | .U => { s with portU := r }
  | .D => { s with portD := r }

/-- An idle transmitter begins the next pending kind in the order RELEASE, ACCEPT, LINKCHECK (R106); a RELEASE takes the
outgoing sequence as it begins (R119). The results are the port and the outgoing sequence after it. -/
def ReachPort.start (r : ReachPort) (station sequence : Nat) : ReachPort × Nat :=
  match r.sending with
  | some _ => (r, sequence)
  | none =>
    let sender : Byte := BitVec.ofNat 8 station
    match r.pendingRelease with
    | some q =>
      ({ r with
          pendingRelease := none
          sending := some (makeReachFrame sender reachRelease (BitVec.ofNat 8 sequence) (beBytes 4 q)) },
        (sequence + 1) % 256)
    | none =>
      match r.pendingAccept with
      | some a =>
        ({ r with pendingAccept := none, sending := some (makeReachFrame sender reachAccept 0 (beBytes 4 a)) }, sequence)
      | none =>
        if r.pendingLinkcheck then
          ({ r with pendingLinkcheck := false, sending := some (makeReachFrame sender reachLinkcheck 0 []) }, sequence)
        else (r, sequence)

/-- The transmitter of a reach port begins where it is idle and a frame is pending (R106). -/
def State.startReach (s : State) (p : ReachSide) : State :=
  let out := (s.reachPort p).start s.tables.stationOr.stationNumber s.csu.outSequence
  let s' := s.setReachPort p out.1
  { s' with csu := { s'.csu with outSequence := out.2 } }

/-! ## Acceptance (R114 to R117) -/

/-- Sources of the acceptance in use (R114). -/
inductive AcceptanceSource
  | received
  | default
  | unlimited
  deriving DecidableEq, Repr

/-- The acceptance in use with its source; none is unlimited (R114). -/
def State.acceptanceInUse (s : State) : Option Nat × AcceptanceSource :=
  if s.portPresent .D then
    match s.csu.received with
    | some a => (some a, .received)
    | none => (some s.tables.stationOr.defaultAcceptance, .default)
  else (none, .unlimited)

/-- The first row whose threshold is at or above a headwater, or the last row (R116). -/
def acceptRow (headwater : Nat) : List AcceptRow → Option AcceptRow
  | [] => none
  | [r] => some r
  | r :: rest => if headwater ≤ r.threshold then some r else acceptRow headwater rest

/-- The own acceptance by headwater, regime and the active ACCEPT table (R116). -/
def State.ownAcceptanceNow (s : State) : Option Nat :=
  match s.tables.accept.active with
  | .valid rows =>
    match s.lvu.regime, s.lvu.headwater with
    | .flood, _ => some 0
    | .normal, none => some 0
    | .normal, some h => some (((acceptRow h rows).map (·.acceptance)).getD 0)
  | _ => none

/-- An ACCEPT becomes pending on Port U while the port is present (R117). -/
def State.placeAccept (s : State) (a : Nat) : State :=
  if s.portPresent .U then
    State.startReach { s with
      portU := { s.portU with pendingAccept := some a }, csu := { s.csu with lastSent := some a } } .U
  else s

/-- The own acceptance is computed again, and an ACCEPT becomes pending where it differs from the last one sent (R116, R117). -/
def State.computeOwnAcceptance (s : State) : State :=
  let a := s.ownAcceptanceNow
  let s' := { s with csu := { s.csu with ownAcceptance := a } }
  match a with
  | some v => if s.csu.lastSent = some v then s' else s'.placeAccept v
  | none => s'

/-! ## Forecast (R108 to R112) -/

/-- The delay in seconds of the first band whose upper bound reaches an outflow, or of the last band (R108). -/
def reachDelay (outflow : Nat) : List ReachBand → Nat
  | [] => 0
  | [b] => b.delay
  | b :: rest => if outflow ≤ b.upper then b.delay else reachDelay outflow rest

/-- The initial upstream outflow of the active REACH table, 0 while it is ABSENT (R111). -/
def Tables.initialUpstream (t : Tables) : Nat :=
  match t.reach.active with
  | .valid r => r.initial
  | _ => 0

/-- The lateral inflow of the active REACH table, 0 while it is ABSENT (R111). -/
def Tables.lateralInflow (t : Tables) : Nat :=
  match t.reach.active with
  | .valid r => r.lateral
  | _ => 0

/-- The forecast inflow Q*, formed when it is read (R111). -/
def State.forecastInflow (s : State) : Nat := s.csu.upstream + s.tables.lateralInflow

/-- While its source is INITIAL, the effective upstream outflow follows the REACH table (R111). -/
def State.followReach (s : State) : State :=
  match s.csu.upstreamSource with
  | .initial => { s with csu := { s.csu with upstream := s.tables.initialUpstream } }
  | .notice => s

/-- The due tick of a notice that arrives now (R108). -/
def State.noticeDue (s : State) (outflow : Nat) : Tick :=
  let raw := s.now + 10 * (match s.tables.reach.active with
    | .valid r => reachDelay outflow r.bands
    | _ => 0)
  match s.csu.queue.getLast? with
  | none => raw
  | some tail => max raw tail.due

/-- The head entries due by a tick mature, head first, and the last gives the effective upstream outflow (R110). -/
def mature (now : Tick) : List ForecastEntry → Csu → Csu
  | [], c => { c with queue := [] }
  | e :: r, c =>
    if e.due ≤ now then mature now r { c with upstream := e.outflow, upstreamSource := .notice }
    else { c with queue := e :: r }

/-- A notice joins the forecast queue (R109); with an empty queue and a due tick already reached it matures in the event of
its arrival (R110). -/
def State.appendNotice (s : State) (outflow : Nat) : State :=
  let entry : ForecastEntry := { outflow := outflow, due := s.noticeDue outflow }
  match s.csu.queue with
  | [] =>
    let s' := s.clear .forecastQueueFull
    { s' with csu := mature s.now [entry] s'.csu }
  | h :: rest =>
    if s.csu.queue.length < 32 then
      let s' := s.clear .forecastQueueFull
      { s' with csu := { s'.csu with queue := h :: rest ++ [entry] } }
    else
      let s' := s.raise .forecastQueueFull
      { s' with csu := { s'.csu with queue := rest ++ [entry], upstream := h.outflow, upstreamSource := .notice } }

/-- The largest outflow a RELEASE is taken at (R107). -/
abbrev maxReleaseOutflow : Nat := maxFlow

/-- A valid RELEASE is taken: its sequence is compared, and the notice queued (R107). -/
def State.takeRelease (s : State) (sequence outflow : Nat) : State :=
  let s1 := match s.csu.lastSequence with
    | none => s
    | some last => if sequence = (last + 1) % 256 then s.clear .noticeGap else s.raise .noticeGap
  State.appendNotice { s1 with csu := { s1.csu with lastSequence := some sequence } } (min outflow maxReleaseOutflow)

/-- A valid ACCEPT is taken (R115). -/
def State.takeAccept (s : State) (acceptance : Nat) : State :=
  { s with csu := { s.csu with received := some (min acceptance maxRate) } }

/-! ## Release notices (R118, R119) -/

/-- A RELEASE carrying the planned outflow is placed pending on Port D, and the refresh timer restarts (R118). -/
def State.placeRelease (s : State) : State :=
  let refresh := s.tables.stationOr.noticeRefresh
  State.startReach { s with
    portD := { s.portD with pendingRelease := some s.rgv.planned }
    csu := { s.csu with
      lastNotified := some s.rgv.planned, lastRelease := some s.now
      refreshTimer := if 0 < refresh then some (s.now + refresh) else none } } .D

/-- Whether release notices go out at all: GOVERN or FALLBACK, and Port D present (R118). -/
def State.noticesOn (s : State) : Bool := s.mdc.mode.governing && s.portPresent .D

/-- The hand-off of the planned outflow after a round (R89, R118). -/
def State.handOverPlanned (s : State) : State :=
  if s.noticesOn then
    match s.csu.lastNotified with
    | none => s.placeRelease
    | some last =>
      if s.tables.stationOr.noticeThreshold ≤ gap s.rgv.planned last then s.placeRelease else s
  else s

/-- The refresh timer at entry to GOVERN or FALLBACK (R118). -/
def State.setRefresh (s : State) : State :=
  let refresh := s.tables.stationOr.noticeRefresh
  if 0 < refresh then
    let at_ := match s.csu.lastRelease with
      | some t => max s.now (t + refresh)
      | none => s.now
    { s with csu := { s.csu with refreshTimer := some at_ } }
  else if s.csu.lastRelease = none ∧ s.portPresent .D = true then s.placeRelease
  else s

/-- The refresh timer stops (R118). -/
def State.stopRefresh (s : State) : State := { s with csu := { s.csu with refreshTimer := none } }

/-! ## Receiving and supervising (R104, R105) -/

/-- The condition of a bad reach port. -/
abbrev reachErrors (p : ReachSide) : Cond := .portErrorsReach p

/-- A receive error of a reach port counts, and raises PORT_ERRORS at the threshold or above it (R104). -/
def State.reachError (s : State) (p : ReachSide) : State :=
  let r := s.reachPort p
  let n := countUp r.errors
  let s' := s.setReachPort p { r with errors := n }
  match s.tables.station with
  | .valid st => if st.portErrorThreshold ≤ n then s'.raise (.portErrorsReach p) else s'
  | _ => s'

/-- A valid frame restarts the silence timer and brings the port UP (R105). -/
def State.linkHeard (s : State) (p : ReachSide) : State :=
  let r := s.reachPort p
  let s' := s.setReachPort p { r with
    link := .up, lastValid := some s.now, silence := some (s.now + s.tables.stationOr.linkTimeout) }
  match r.link with
  | .lost => s'.clear (.linkLost p)
  | _ => s'

/-- A frame that arrives on a reach port: ignored where the port is absent, discarded and counted where a check fails,
else taken by its kind (R102, R104). -/
def State.receiveReach (s : State) (p : ReachSide) (f : ReachFrame) : State :=
  if s.portPresent p then
    if reachFrameValid p (s.neighbour p) f then
      let s' := s.linkHeard p
      if f.kind = reachRelease then s'.takeRelease f.sequence.toNat (beAt f.payload 0 4)
      else if f.kind = reachAccept then s'.takeAccept (beAt f.payload 0 4)
      else s'
    else s.reachError p
  else s

/-! ## Loads of the STATION table (R103, R120) -/

/-- A reach port at a LOAD_BEGIN for the STATION table: its reset values, with the receive error count kept (R103). -/
def ReachPort.cleared (r : ReachPort) : ReachPort := { errors := r.errors }

/-- A present reach port starts its timers when the STATION table becomes VALID (R103). -/
def State.startPortTimers (s : State) (p : ReachSide) : State :=
  if s.portPresent p then
    let st := s.tables.stationOr
    s.setReachPort p { s.reachPort p with
      silence := some (s.now + st.linkTimeout), period := some (s.now + st.linkPeriod) }
  else s

/-- The cascade state at a LOAD_BEGIN for the STATION table (R120). -/
def Csu.stationLoading (c : Csu) : Csu :=
  { c with
    lastSequence := none, received := none, lastSent := none, outSequence := 0, lastNotified := none, lastRelease := none }

/-- The cascade state when the STATION table becomes VALID with Port U absent (R109, R111, R112, R120). -/
def State.stationHeadOfCascade (s : State) : State :=
  if s.portPresent .U then s
  else
    { s with csu := { s.csu with
      queue := [], upstream := s.tables.initialUpstream, upstreamSource := .initial, forecast := .tracking } }

/-! ## Meanings -/

/-- RELEASE_RECEIVED (R104, R107): a frame on Port U. -/
def execReleaseReceived (f : ReachFrame) (s : State) : Host.Outcome State Fault Refusal :=
  .next (s.receiveReach .U f)

/-- ACCEPT_RECEIVED (R104, R115): a frame on Port D. -/
def execAcceptReceived (f : ReachFrame) (s : State) : Host.Outcome State Fault Refusal :=
  .next (s.receiveReach .D f)

/-- LINKCHECK_RECEIVED (R104, R105): a frame on a reach port. -/
def execLinkcheckReceived (p : ReachSide) (f : ReachFrame) (s : State) : Host.Outcome State Fault Refusal :=
  .next (s.receiveReach p f)

/-- REACH_RECEIVE_ERROR (R102, R104): bytes on a reach port; too few bytes for an envelope fail the length check. -/
def execReachReceiveError (p : ReachSide) (raw : List Byte) (s : State) : Host.Outcome State Fault Refusal :=
  match readReachWire raw with
  | some f => .next (s.receiveReach p f)
  | none => .next (if s.portPresent p then s.reachError p else s)

/-- REACH_TRANSMIT_COMPLETION (R106): the transmitter becomes idle and begins the next pending kind. -/
def execReachTransmitCompletion (p : ReachSide) (s : State) : Host.Outcome State Fault Refusal :=
  match (s.reachPort p).sending with
  | some _ => .next (State.startReach (s.setReachPort p { s.reachPort p with sending := none }) p)
  | none => .next s

/-- Whether a reach port's silence timer expires now (R105). -/
def State.silenceDue (s : State) (p : ReachSide) : Bool :=
  s.portPresent p && timerDue (s.reachPort p).silence s.now

/-- REACH_SILENCE_EXPIRY (R105): LOST and LINK_LOST; Port U degrades the forecast (R112), Port D drops the received acceptance
(R115). -/
def execReachSilenceExpiry (p : ReachSide) (s : State) : Host.Outcome State Fault Refusal :=
  if s.silenceDue p then
    let s1 := s.setReachPort p { s.reachPort p with link := .lost, silence := none }
    let s2 := match p with
      | .U => { s1 with csu := { s1.csu with forecast := .degraded } }
      | .D => { s1 with csu := { s1.csu with received := none } }
    .next (s2.raise (.linkLost p))
  else .next s

/-- Whether a reach port's link period timer expires now (R106). -/
def State.periodDue (s : State) (p : ReachSide) : Bool :=
  s.portPresent p && timerDue (s.reachPort p).period s.now

/-- LINK_PERIOD_EXPIRY (R106): the timer restarts and a LINKCHECK becomes pending; on Port U an ACCEPT too while the ACCEPT table
is VALID (R117). -/
def execLinkPeriodExpiry (p : ReachSide) (s : State) : Host.Outcome State Fault Refusal :=
  if s.periodDue p then
    let r := s.reachPort p
    let s1 := s.setReachPort p { r with
      period := some (s.now + s.tables.stationOr.linkPeriod), pendingLinkcheck := true }
    match p, s.tables.accept.active, s.csu.ownAcceptance with
    | .U, .valid _, some a => .next (s1.placeAccept a)
    | _, _, _ => .next (s1.startReach p)
  else .next s

/-- Whether the due timer of the forecast queue expires now: it is always set to the head's due tick (R110). -/
def State.forecastDue (s : State) : Bool :=
  match s.csu.queue with
  | [] => false
  | e :: _ => decide (e.due ≤ s.now)

/-- FORECAST_DUE_EXPIRY (R110). -/
def execForecastDueExpiry (s : State) : Host.Outcome State Fault Refusal :=
  if s.forecastDue then .next { s with csu := mature s.now s.csu.queue s.csu } else .next s

/-- REFRESH_TIMER_EXPIRY (R118): a RELEASE whatever the difference, in GOVERN or FALLBACK with Port D present. -/
def execRefreshTimerExpiry (s : State) : Host.Outcome State Fault Refusal :=
  if timerDue s.csu.refreshTimer s.now then
    .next (if s.noticesOn then s.placeRelease else s.stopRefresh)
  else .next s

end Sys2Proof.Machine
end

