-- ==== Sys2Proof/Machine/Levels.lean ====
section
/-! DEFINITION. The Level Unit (chapter 3): grading of samples, derived levels, head, flood regime, low level and loss of
level. -/

namespace Sys2Proof.Machine

/-- The record of a channel. -/
def State.channel (s : State) (c : Fin 8) : Channel := s.lvu.channels[c]

/-- A channel's record replaced. -/
def State.setChannel (s : State) (c : Fin 8) (r : Channel) : State :=
  { s with lvu := { s.lvu with channels := s.lvu.channels.set c r } }

/-! ## Derivation (R47) -/

/-- Ascending insertion. -/
def insertSorted (a : Nat) : List Nat → List Nat
  | [] => [a]
  | b :: r => if a ≤ b then a :: b :: r else b :: insertSorted a r

/-- Values in ascending order (R47). -/
def sortValues : List Nat → List Nat
  | [] => []
  | a :: r => insertSorted a (sortValues r)

/-- The middle value, or the floor of the mean of the two middle values; none for an empty set (R47). -/
def median (l : List Nat) : Option Nat :=
  let v := sortValues l
  let n := v.length
  if n = 0 then none
  else if n % 2 = 1 then some (v.getD (n / 2) 0)
  else some ((v.getD (n / 2 - 1) 0 + v.getD (n / 2) 0) / 2)

/-- The last values of the channels of a role and a quality. -/
def State.valuesOf (s : State) (r : Role) (q : Quality) : List Nat :=
  allChannels.filterMap (fun c =>
    if (s.tables.channelCfg c).role = r ∧ (s.channel c).quality = q then (s.channel c).value else none)

/-- The usable set of a role: GOOD channels, else QUESTIONABLE ones (R47). -/
def State.usable (s : State) (r : Role) : List Nat :=
  match s.valuesOf r .good with
  | [] => s.valuesOf r .questionable
  | l => l

/-! ## Head, regime and low level (R50 to R53) -/

/-- Head is computed: clamped while headwater is valid, else the last valid head, else 0 (R50). -/
def Lvu.computeHead (l : Lvu) : Lvu :=
  match l.headwater with
  | some h => { l with head := min (h - l.tailwater) 200000, lastHead := some (min (h - l.tailwater) 200000) }
  | none => { l with head := l.lastHead.getD 0 }

/-- The regime becomes NORMAL or FLOOD; a change is handed to the Cascade Unit (R51, R116). -/
def State.setRegime (s : State) (r : Regime) : State :=
  if s.lvu.regime = r then s
  else State.computeOwnAcceptance { s with lvu := { s.lvu with regime := r } }

/-- The regime is evaluated at a valid headwater (R51). -/
def State.evaluateRegime (s : State) (h : Nat) : State :=
  let st := s.tables.stationOr
  match s.lvu.regime with
  | .normal => if st.floodEntry ≤ h then State.raise (s.setRegime .flood) .headHigh else s
  | .flood => if h ≤ st.floodExit then State.clear (s.setRegime .normal) .headHigh else s

/-- HEAD_LOW is evaluated at a valid headwater, while the STATION table is VALID (R52). -/
def State.evaluateHeadLow (s : State) (h : Nat) : State :=
  match s.tables.station with
  | .valid st =>
    if h < st.minimumLevel then (if s.active .headLow then s else s.raise .headLow)
    else (if s.active .headLow then s.clear .headLow else s)
  | _ => s

/-- Headwater after a HEADWATER derivation, and the steps that follow it in order (R48). -/
def State.updateHeadwater (s : State) : State :=
  let result := median (s.usable .headwater)
  let before := s.lvu.headwater
  let l : Lvu := { s.lvu with
    headwater := result, lastHeadwater := match result with | some h => some h | none => s.lvu.lastHeadwater }
  let s1 := { s with lvu := l.computeHead }
  let s2 := match result with
    | some h =>
      State.evaluateHeadLow (if s1.mdc.mode.supervised then s1.evaluateRegime h else s1) h
    | none => s1
  let s3 := match before, result with
    | some _, none => if s2.mdc.mode.supervised then s2.raise .levelLost else s2
    | none, some _ => s2.clear .levelLost
    | _, _ => s2
  s3.computeOwnAcceptance

/-- Tailwater where the derivation gives no result: held, or the default (R49). -/
def State.fallbackTailwater (s : State) : State :=
  { s with lvu := match s.lvu.lastTailwater with
    | some t => { s.lvu with tailwater := t, tailSource := .held }
    | none => { s.lvu with tailwater := s.tables.stationOr.tailwaterDefault, tailSource := .default } }

/-- Head is computed again. -/
def State.computeHead (s : State) : State := { s with lvu := s.lvu.computeHead }

/-- Tailwater after a TAILWATER derivation, and head after it (R49). -/
def State.updateTailwater (s : State) : State :=
  let s' := match median (s.usable .tailwater) with
    | some t => { s with lvu := { s.lvu with tailwater := t, tailSource := .derived, lastTailwater := some t } }
    | none => s.fallbackTailwater
  s'.computeHead

/-- The tailwater default has changed: a tailwater at the default takes it, and head is computed again (R49, R50). -/
def State.tailwaterDefaultChanged (s : State) : State :=
  match s.lvu.tailSource with
  | .default =>
    State.computeHead { s with lvu := { s.lvu with tailwater := s.tables.stationOr.tailwaterDefault } }
  | _ => s

/-- The level of a channel's role is derived again (R47). -/
def State.deriveRole (s : State) (r : Role) : State :=
  match r with
  | .headwater => s.updateHeadwater
  | .tailwater => s.updateTailwater
  | .unused => s

/-! ## Samples and stale watches (R45, R46) -/

/-- The channel that takes a sample, if any (R45). -/
def Tables.sampleChannel (t : Tables) (x : Sample) : Option (Fin 8) :=
  allChannels.find? (fun c =>
    let k := t.channelCfg c
    k.role != .unused && k.source == x.source && k.point == x.point)

/-- Whether a value lies within a channel's valid range. -/
def inRange (k : ChannelCfg) (v : Int) : Bool := decide ((k.validMin : Int) ≤ v ∧ v ≤ (k.validMax : Int))

/-- The quality a sample is stored with; none where it is graded BAD (R45). -/
def storedQuality (k : ChannelCfg) (x : Sample) : Option Quality :=
  match x.quality, inRange k x.value with
  | .good, true => some .good
  | .questionable, true => some .questionable
  | _, _ => none

/-- A channel grades a sample and stores it where it is usable (R45). -/
def State.gradeSample (s : State) (c : Fin 8) (x : Sample) : State :=
  let k := s.tables.channelCfg c
  match storedQuality k x with
  | some q =>
    State.clear
      (s.setChannel c
        { value := some x.value.toNat, quality := q, lastGood := some s.now, staleWatch := some (s.now + k.staleLimit) })
      (.channelStale c)
  | none => s.setChannel c { s.channel c with quality := .bad }

/-- Whether a channel's stale watch expires now (R46). -/
def State.staleDue (s : State) (c : Fin 8) : Bool := timerDue (s.channel c).staleWatch s.now

/-- A channel goes STALE and its role is derived again (R46). -/
def State.goStale (s : State) (c : Fin 8) : State :=
  let s1 := s.setChannel c { s.channel c with quality := .stale, staleWatch := none }
  State.deriveRole (s1.raise (.channelStale c)) (s.tables.channelCfg c).role

/-- Every channel takes its reset values, and the derived levels with them (R43, R44, R48, R49). The headwater is invalid by this, so
the own acceptance is computed again, and is 0 while the ACCEPT table is VALID (R53, R116; log entry 33). -/
def State.resetChannels (s : State) : State :=
  let l : Lvu := { s.lvu with
    channels := Vector.replicate 8 {}, headwater := none, lastHeadwater := none, lastTailwater := none, lastHead := none }
  State.computeOwnAcceptance (State.computeHead (State.fallbackTailwater { s with lvu := l }))

/-- The stale watch of each HEADWATER and TAILWATER channel starts (R43, R46). -/
def State.startStaleWatches (s : State) : State :=
  allChannels.foldl
    (fun s c =>
      let k := s.tables.channelCfg c
      if k.role = .unused then s
      else s.setChannel c { s.channel c with staleWatch := some (s.now + k.staleLimit) }) s

end Sys2Proof.Machine
end

