-- ==== Sys2Proof/Machine/Store.lean ====
section
/-! DEFINITION. The Table Store's operations on tables (chapter 11): taking contents into use with the effects on their owner
blocks, the swap of READY shadows, what a LOAD_BEGIN does to a structural table's owner, closing a load, and the entry check. -/

namespace Sys2Proof.Machine

/-! ## Taking contents into use (R162, R169, R71) -/

/-- A table with new contents, VALID; for an operating table its active copy. -/
def Tables.setContents (t : Tables) : TableData → Tables
  | .station x => { t with station := .valid x }
  | .gates x => { t with gates := .valid x }
  | .groups x => { t with groups := .valid x }
  | .channels x => { t with channels := .valid x }
  | .conditions x => { t with conditions := .valid x }
  | .curve k x => { t with curves := t.curves.set k (.valid x) }
  | .ramp x => { t with ramp := { t.ramp with active := .valid x } }
  | .flood x => { t with flood := { t.flood with active := .valid x } }
  | .accept x => { t with accept := { t.accept with active := .valid x } }
  | .reach x => { t with reach := { t.reach with active := .valid x } }
  | .fill x => { t with fill := { t.fill with active := .valid x } }

/-- The owner block takes a table that has become VALID, or an operating table swapped in (R2, R8, R43, R49, R103, R111,
R116, R120). -/
def State.ownerTakes (s : State) : TableData → State
  | .station _ =>
    let s1 := State.startSeenWatches { s with stationValidSince := some s.now }
    let s2 := State.stationHeadOfCascade ((s1.startPortTimers .U).startPortTimers .D)
    s2.tailwaterDefaultChanged
  | .gates _ => s.startSeenWatches
  | .channels _ => s.startStaleWatches
  | .accept _ => s.computeOwnAcceptance
  | .reach _ => s.followReach
  | .groups _ | .conditions _ | .curve _ _ | .ramp _ | .flood _ | .fill _ => s

/-- Contents are taken into use. -/
def State.takeContents (s : State) (d : TableData) : State :=
  State.ownerTakes { s with tables := s.tables.setContents d } d

/-- The shadow of an operating table set to NONE; a structural table has none. -/
def Tables.dropShadow (t : Tables) : TableId → Tables
  | .ramp => { t with ramp := { t.ramp with shadow := .none } }
  | .flood => { t with flood := { t.flood with shadow := .none } }
  | .accept => { t with accept := { t.accept with shadow := .none } }
  | .reach => { t with reach := { t.reach with shadow := .none } }
  | .fill => { t with fill := { t.fill with shadow := .none } }
  | _ => t

/-- The shadow of an operating table set to LOADING; a READY image is discarded (R160). -/
def Tables.shadowLoading (t : Tables) : TableId → Tables
  | .ramp => { t with ramp := { t.ramp with shadow := .loading } }
  | .flood => { t with flood := { t.flood with shadow := .loading } }
  | .accept => { t with accept := { t.accept with shadow := .loading } }
  | .reach => { t with reach := { t.reach with shadow := .loading } }
  | .fill => { t with fill := { t.fill with shadow := .loading } }
  | _ => t

/-- The shadow of an operating table set to READY with an image (R162). -/
def Tables.shadowReady (t : Tables) : TableData → Tables
  | .ramp x => { t with ramp := { t.ramp with shadow := .ready x } }
  | .flood x => { t with flood := { t.flood with shadow := .ready x } }
  | .accept x => { t with accept := { t.accept with shadow := .ready x } }
  | .reach x => { t with reach := { t.reach with shadow := .ready x } }
  | .fill x => { t with fill := { t.fill with shadow := .ready x } }
  | _ => t

/-- The image of a shadow. -/
def Shadow.image? {α : Type} : Shadow α → Option α
  | .ready x => some x
  | _ => .none

/-- The READY images of the operating tables, in ascending order of table id. -/
def Tables.readyShadows (t : Tables) : List (TableId × TableData) :=
  (match t.ramp.shadow with | .ready x => [(TableId.ramp, TableData.ramp x)] | _ => []) ++
  (match t.flood.shadow with | .ready x => [(TableId.flood, TableData.flood x)] | _ => []) ++
  (match t.accept.shadow with | .ready x => [(TableId.accept, TableData.accept x)] | _ => []) ++
  (match t.reach.shadow with | .ready x => [(TableId.reach, TableData.reach x)] | _ => []) ++
  (match t.fill.shadow with | .ready x => [(TableId.fill, TableData.fill x)] | _ => [])

/-- Every operating table whose shadow is READY is swapped in (R71). -/
def State.swapShadows (s : State) : State :=
  s.tables.readyShadows.foldl
    (fun s p => State.takeContents { s with tables := s.tables.dropShadow p.1 } p.2) s

/-! ## States of structural tables -/

/-- A structural table set to a state without contents. -/
def Tables.setLoading (t : Tables) : TableId → Tables
  | .station => { t with station := .loading }
  | .gates => { t with gates := .loading }
  | .groups => { t with groups := .loading }
  | .channels => { t with channels := .loading }
  | .conditions => { t with conditions := .loading }
  | .curve k => { t with curves := t.curves.set k .loading }
  | _ => t

/-- A table set INVALID: a structural one at a load that ends badly, any at the boot read (R158, R169). -/
def Tables.setInvalid (t : Tables) : TableId → Tables
  | .station => { t with station := .invalid }
  | .gates => { t with gates := .invalid }
  | .groups => { t with groups := .invalid }
  | .channels => { t with channels := .invalid }
  | .conditions => { t with conditions := .invalid }
  | .curve k => { t with curves := t.curves.set k .invalid }
  | .ramp => { t with ramp := { t.ramp with active := .invalid } }
  | .flood => { t with flood := { t.flood with active := .invalid } }
  | .accept => { t with accept := { t.accept with active := .invalid } }
  | .reach => { t with reach := { t.reach with active := .invalid } }
  | .fill => { t with fill := { t.fill with active := .invalid } }

/-- A group gives up its places and slots with its gates; the last grant tick and the spacing timer stay (R31). -/
def Group.emptied (g : Group) : Group := { g with slots := 0, queue := [] }

/-- The effects of an accepted LOAD_BEGIN on the owner of a structural table (R160). -/
def State.ownerLoses (s : State) : TableId → State
  | .station =>
    let s1 := allGates.foldl
      (fun s i => if (s.gate i).state = .unseen then s.setGate i { s.gate i with stateTimer := none } else s)
      { s with
        portU := s.portU.cleared, portD := s.portD.cleared, csu := s.csu.stationLoading, stationValidSince := none }
    State.tailwaterDefaultChanged (s1.clearAll [.linkLost .U, .linkLost .D, .headLow])
  | .gates =>
    let locked := allGates.filter (fun i => (s.gate i).state == .locked)
    let s1 := { s with yard := { s.yard with
      gates := Vector.replicate 16 {}
      groups := ((s.yard.groups.set 0 (s.group 0).emptied).set 1 (s.group 1).emptied |>.set 2 (s.group 2).emptied).set 3
        (s.group 3).emptied
      inFlight := [] } }
    s1.clearAll (locked.map .gateRunaway ++ allGates.map .gateFault ++ allGates.map .gateUnseen ++
      allGates.map .bypassBlocked)
  | .groups => { s with yard := { s.yard with groups := Vector.replicate 4 {}, inFlight := [] } }
  | .channels => State.clearAll s.resetChannels (allChannels.map .channelStale)
  | .conditions | .curve _ | .ramp | .flood | .accept | .reach | .fill => s

/-- A load ends badly or is given up: the context closes, a structural table becomes INVALID, an operating table's shadow
NONE (R162, R163), in every mode (log entry 46). -/
def State.dropLoad (s : State) (t : TableId) : State :=
  { s with
    load := none
    tables := if t.structural then s.tables.setInvalid t else s.tables.dropShadow t }

/-- A load fails: dropped, with LOAD_FAILED raised (R162, R163). -/
def State.failLoad (s : State) (t : TableId) : State := (s.dropLoad t).raise (.loadFailed t)

/-! ## The entry check (R164) -/

/-- Whether a table is VALID. -/
def Tables.valid (t : Tables) (id : TableId) : Bool := (t.data? id).isSome

/-- The in-service gates, ascending. -/
def Tables.inServiceGates (t : Tables) : List (Fin 16) := allGates.filter (fun i => (t.gateCfg i).inService)

/-- The required tables in ascending order of id: with a curve where an in-service gate names it (R57, R127). A load open
on a curve that no in-service gate names fails no check (log entry 46). -/
def Tables.required (t : Tables) : List TableId :=
  allTables.filter (fun id =>
    match id with
    | .station | .gates | .groups | .channels | .conditions | .ramp => true
    | .curve k => t.inServiceGates.any (fun i => (t.gateCfg i).curve == k)
    | .flood | .accept | .reach | .fill => false)

/-- The other in-service gates that share a gate's drive address, ascending. -/
def Tables.sharers (t : Tables) (i : Fin 16) : List (Fin 16) :=
  t.inServiceGates.filter (fun j => j != i && (t.gateCfg j).driveAddress == (t.gateCfg i).driveAddress)

/-- The first in-service gate that shares its drive address, with the first other gate (R164). -/
def Tables.sharedAddress (t : Tables) : Option (Fin 16 × Fin 16) :=
  t.inServiceGates.findSome? (fun i => (t.sharers i).head?.map (fun j => (i, j)))

/-- The entry check: none where it passes, else the reason of the first check that fails (R164). -/
def Tables.entryCheck (t : Tables) : Option Reason :=
  match t.required.find? (fun id => !t.valid id) with
  | some id => some (.table id)
  | none =>
    match t.sharedAddress with
    | some (i, j) => some (.sharedAddress i j)
    | none =>
      match t.fill.active with
      | .valid l => (l.find? (fun i => !(t.gateCfg i).inService)).map .fillGate
      | _ => none

/-- The reason as an answer carries it (R171). -/
def Reason.bytes : Reason → List Byte
  | .table t => beBytes 1 1 ++ beBytes 1 t.code ++ beBytes 1 0
  | .sharedAddress a b => beBytes 1 2 ++ beBytes 1 a.val ++ beBytes 1 b.val
  | .fillGate g => beBytes 1 3 ++ beBytes 1 g.val ++ beBytes 1 0

end Sys2Proof.Machine
end

