-- ==== Sys2Proof/Machine/Modes.lean ====
section
/-! DEFINITION. The Mode Controller (chapter 8): the order timer, the entries to CONFIG, GOVERN, FALLBACK and FROZEN with their
steps in order, the start decision, power-on and the effect of RESTART. -/

namespace Sys2Proof.Machine

/-! ## Order timer and control present (R129, R131) -/

/-- The order timer after a reload: an order timeout of 0 leaves it stopped (R129). -/
def State.orderReload (s : State) : Timer :=
  if 0 < s.tables.stationOr.orderTimeout then some (s.now + s.tables.stationOr.orderTimeout) else none

/-- An intercepted ORDER or a KEEPALIVE arrives from the control computer (R92, R98, R129, R131). -/
def State.controlHeard (s : State) : State :=
  match s.mdc.mode with
  | .govern => { s with mdc := { s.mdc with orderTimer := s.orderReload } }
  | .fallback =>
    let s' := { s with mdc := { s.mdc with orderTimer := s.orderReload, controlPresent := true } }
    if s.mdc.controlPresent then s' else s'.clear .controlSilent
  | _ => s

/-! ## Gates at the entries -/

/-- Every LOCKED gate is re-seated from its latest reported position (R11). -/
def State.reseatLocked (s : State) : State :=
  allGates.foldl
    (fun s i =>
      match (s.gate i).state, (s.gate i).position with
      | .locked, some p => s.setGate i ((s.gate i).reseat (s.cfg i) p)
      | _, _ => s) s

/-- Lag supervision ends for every gate (R26). -/
def State.endLag (s : State) : State :=
  State.clearAll
    (allGates.foldl (fun s i => s.setGate i { s.gate i with lagStart := none, lagReported := false }) s)
    (allGates.map .gateLag)

/-- The standing target of each gate with a commanded setpoint becomes that setpoint (R97). -/
def State.setStandings (s : State) : State :=
  allGates.foldl
    (fun s i =>
      match (s.gate i).commanded with
      | some c => s.setGate i { s.gate i with standing := { opening := some c, lockAfter := true, origin := .position } }
      | none => s) s

/-- Every gate takes the freeze, and the arbiter then removes the entry of every gate that waited, or takes back the slot of one whose grant
was in flight (R29, R34, R39, R42). A grant that such a removal makes finds its gate frozen and is handed back (log entry 34). -/
def State.freezeGates (s : State) : State :=
  (allGates.filter (fun i => (s.gate i).state == .waitGrant)).foldl
    (fun s i => s.onYard i (fun e y => Yard.leaveQueue e i y))
    (allGates.foldl (fun s i => s.onYard i (fun e y => Yard.freezeGate e i y)) s)

/-! ## Entries to the modes -/

/-- Entry to CONFIG (R126). -/
def State.enterConfig (s : State) : State :=
  let s1 := { s with mdc := { s.mdc with
    mode := .config, phase := none, orderTimer := none, startWait := none, controlPresent := false } }
  let s2 := { s1 with rgv := { s1.rgv with roundTimer := none } }
  let s3 := State.endLag (State.reseatLocked s2.emptySlots)
  let s4 := State.clear (s3.setRegime .normal) .headHigh
  let s5 := s4.swapShadows
  let s6 := s5.stopRefresh
  s6.clearAll ([.rampHeld, .controlSilent] ++ allGates.map .bypassBlocked)

/-- Entry to GOVERN (R128). -/
def State.enterGovern (s : State) : State :=
  let fresh := s.mdc.mode == .starting || s.mdc.mode == .config
  let s1 := State.clear
    { s with mdc := { s.mdc with
      mode := .govern, phase := none, startWait := none, startReason := none, controlPresent := false } } .controlSilent
  let s2 := { s1 with mdc := { s1.mdc with orderTimer := s1.orderReload } }
  let s3 := s2.setStandings
  let s4 := match fresh, s3.lvu.headwater with
    | true, some h => s3.evaluateRegime h
    | _, _ => s3
  let s5 := { s4 with rgv := { s4.rgv with roundTimer := some (s4.now + s4.tables.stationOr.roundInterval) } }
  let s6 := s5.setRefresh
  s6.testLockedGates

/-- Entry to FALLBACK (R130), with the test of LOCKED gates that R10 has at each entry. -/
def State.enterFallback (s : State) : State :=
  let s1 := { s with mdc := { s.mdc with mode := .fallback, controlPresent := false, orderTimer := none } }
  let s2 := s1.emptySlots
  let s3 := { s2 with rgv := { s2.rgv with roundTimer := some (s2.now + s2.tables.stationOr.roundInterval) } }
  let s4 := s3.setRefresh
  s4.testLockedGates

/-- Entry to FROZEN (R132). -/
def State.enterFrozen (s : State) : State :=
  let s1 := { s with mdc := { s.mdc with mode := .frozen, orderTimer := none, controlPresent := false } }
  let s2 := { s1 with rgv := { s1.rgv with roundTimer := none } }
  let s3 := State.emptySlots s2.freezeGates
  let s4 := State.handOverPlanned { s3 with rgv := { s3.rgv with planned := s3.plannedSum } }
  let s5 := s4.stopRefresh
  s5.clear .rampHeld

/-! ## Start (R122, R124, R125) -/

/-- The start wait ends with headwater still invalid: LEVEL_LOST is raised and the station enters CONFIG (R125). -/
def State.failStartWait (s : State) : State :=
  State.enterConfig (State.raise { s with mdc := { s.mdc with phase := none, startWait := none } } .levelLost)

/-- The start is decided (R124). A seen timeout of 0 expires at once, so the start wait then ends in the event that begins it
(R125). -/
def State.decideStart (s : State) : State :=
  match s.mdc.source with
  | .bus | .flashHold => s.enterConfig
  | .flashAuto =>
    match s.tables.entryCheck with
    | some r => State.enterConfig { s with mdc := { s.mdc with startReason := some r } }
    | none =>
      match s.lvu.headwater with
      | some _ => s.enterGovern
      | none =>
        if s.tables.stationOr.seenTimeout = 0 then s.failStartWait
        else
          { s with mdc := { s.mdc with
            phase := some .startWait, startWait := some (s.now + s.tables.stationOr.seenTimeout) } }

/-- The Level Unit tells the Mode Controller of a HEADWATER derivation: the first valid headwater ends START_WAIT (R125). It does so once the
derivation is complete (log entry 40). -/
def State.startWaitHeadwater (s : State) : State :=
  if s.mdc.mode = .starting ∧ s.mdc.phase = some .startWait ∧ s.lvu.headwater.isSome = true then s.enterGovern else s

/-- The start source of the MODE pins (R122). -/
def startSourceOf (pins : BitVec 2) : StartSource :=
  if pins = 0b00#2 then .flashAuto else if pins = 0b01#2 then .flashHold else .bus

/-- The flash where a SAVE is cut off: the slot being written holds a torn image (R168). -/
def State.cutSave (s : State) : Vector FlashSlot 18 :=
  match s.saving with
  | some w => s.flash.set w.current.index .torn
  | none => s.flash

/-- The state that a power-on leaves before the start begins: every reset value, the flash kept, the queue of commands and
the count of draws being the model's own. -/
def State.afterPowerOn (s : State) (pins : BitVec 2) : State :=
  { mdc := { source := startSourceOf pins }, flash := s.cutSave, draws := s.draws, pending := s.pending }

/-- POWER_ON (R122): every block takes its reset values, and the start begins by the start source. -/
def execPowerOn (pins : BitVec 2) (s : State) : Host.Outcome State Fault Refusal :=
  let s' := s.afterPowerOn pins
  .next (match startSourceOf pins with
    | .bus => s'.enterConfig
    | _ => { s' with mdc := { s'.mdc with phase := some .bootRead }, boot := some { slot := 0, outcomes := [] } })

/-- Whether the start wait timer expires now (R125). -/
def State.startWaitDue (s : State) : Bool :=
  s.mdc.mode == .starting && s.mdc.phase == some .startWait && timerDue s.mdc.startWait s.now

/-- START_WAIT_EXPIRY (R125): LEVEL_LOST is raised and the station enters CONFIG. -/
def execStartWaitExpiry (s : State) : Host.Outcome State Fault Refusal :=
  if s.startWaitDue then .next s.failStartWait else .next s

/-- ORDER_TIMER_EXPIRY (R129, R130): FALLBACK from GOVERN; in FALLBACK the control computer is silent again. -/
def execOrderTimerExpiry (s : State) : Host.Outcome State Fault Refusal :=
  if timerDue s.mdc.orderTimer s.now then
    match s.mdc.mode with
    | .govern => .next (State.enterFallback (s.raise .controlSilent))
    | _ => .next (State.raise { s with mdc := { s.mdc with orderTimer := none, controlPresent := false } } .controlSilent)
  else .next s

/-! ## RESTART (R135) -/

/-- The tables through a RESTART: kept, but that the table of an open load becomes INVALID or loses its shadow (R158, R163). -/
def State.tablesThroughRestart (s : State) : Tables :=
  match s.load with
  | some c => (s.dropLoad c.table).tables
  | none => s.tables

/-- The state a RESTART leaves before its tables start their owners: reset values, with tables, flash, start source and the
station tick kept (R121, R135, R171). -/
def State.afterRestart (s : State) : State :=
  { now := s.now, mdc := { source := s.mdc.source }, tables := s.tablesThroughRestart, flash := s.cutSave
    draws := s.draws, pending := s.pending }

/-- RESTART takes effect: the owners start from the tables held VALID, and the start is decided at once (R2, R43, R49, R103,
R111, R116, R124, R135). -/
def State.restartEffect (s : State) : State :=
  let s0 := s.afterRestart
  let s1 := match s0.tables.station with
    | .valid _ => (State.startPortTimers (s0.startPortTimers .U) .D)
    | _ => s0
  let s2 := State.followReach (State.startStaleWatches s1.startSeenWatches)
  let s3 := State.tailwaterDefaultChanged
    { s2 with stationValidSince := if s2.tables.station.isValid then some s2.now else none }
  State.decideStart s3.computeOwnAcceptance

end Sys2Proof.Machine
end

