-- ==== Sys2Proof/Machine/Gates.lean ====
section
/-! DEFINITION. The events of single gates and of power groups (chapters 1 and 2): what a REPORT does to a gate, and the expiries
of the gate timers, the supervisions and the spacing timers. An expiry whose timer is stopped or not yet due does not happen
(log entry 2). -/

namespace Sys2Proof.Machine

/-! ## Reports (R23) -/

/-- The reported fields are stored (R23). -/
def Gate.storeReport (g : Gate) (r : Report) (now : Tick) : Gate :=
  { g with
    position := some (min r.position 1000), brake := some (if r.released then .released else .engaged)
    running := some r.running, fault := some r.fault, lastReport := some now, reportSinceGrant := true }

/-- The first REPORT of an UNSEEN gate, without a drive fault: LOCKED, or RECOVERING with LOCK issued (R7, R9). -/
def Yard.firstSeen (e : YardEnv) (i : Fin 16) (r : Report) (y : Yard) : Yard :=
  if r.released then
    let g := y.gate i
    let p := (e.cfg i).clamp (g.position.getD 0)
    Yard.issue e i .lock 0
      (y.setGate i { g with
        state := .recovering, commanded := some p, target := some p, stateTimer := some (e.now + (e.cfg i).tLK) })
  else Yard.firstLock e i y

/-- The lag comparison of a REPORT (R26). -/
def State.lagCheck (s : State) (i : Fin 16) : State :=
  let g := s.gate i
  match g.position, g.commanded with
  | some p, some c =>
    if (s.cfg i).lagTolerance < gap p c then
      match g.lagStart with
      | none => s.setGate i { g with lagStart := some s.now, lagReported := false }
      | some _ => s
    else State.clear (s.setGate i { g with lagStart := none, lagReported := false }) (.gateLag i)
  | _, _ => s

/-- The runaway comparison of a REPORT in LOCKED (R27); a raise in GOVERN or FALLBACK freezes the station (R132). -/
def State.runawayCheck (s : State) (i : Fin 16) : State :=
  let g := s.gate i
  match g.position, g.positionAtLock with
  | some p, some l =>
    if (s.cfg i).runawayTolerance < gap p l then
      let s' := s.raise (.gateRunaway i)
      if s.mdc.mode.governing then s'.enterFrozen else s'
    else s.clear (.gateRunaway i)
  | _, _ => s

/-- Whether a REPORT ends a wicket gate's move: its position lies within the band of the move setpoint (R17). -/
def endsWicketMove (c : GateCfg) (g : Gate) : Bool :=
  match c.kind, g.position, g.moveSetpoint with
  | .wicket, some p, some m => decide (gap p m ≤ c.band)
  | _, _, _ => false

/-- A gate takes a REPORT: stored, then used by the gate's state as the REPORT finds it (R23; log entry 13). A REPORT with
fault yes takes the gate to FAULTED alone, with no move end, re-seating or runaway comparison (R24; log entry 47). In LOCKED the lag
comparison is made before the runaway comparison (log entry 38). -/
def State.takeReport (s : State) (i : Fin 16) (r : Report) : State :=
  let before := (s.gate i).state
  let s1 := s.setGate i ((s.gate i).storeReport r s.now)
  if before = .faulted then s1
  else if r.fault then s1.faultGate i true (.gateFault i)
  else
    match before with
    | .faulted => s1
    | .unseen => s1.onYard i (fun e y => Yard.firstSeen e i r y)
    | .moving =>
      let s2 := if endsWicketMove (s.cfg i) (s1.gate i) then s1.onYard i (fun e y => Yard.endMove e i y) else s1
      if s.mdc.mode.supervised then s2.lagCheck i else s2
    | .locked =>
      if s.mdc.mode.supervised then State.runawayCheck (s1.lagCheck i) i
      else if r.released then s1
      else s1.setGate i ((s1.gate i).reseat (s.cfg i) (min r.position 1000))
    | .recovering | .waitGrant | .unlocking | .free | .reversing | .locking =>
      if s.mdc.mode.supervised then s1.lagCheck i else s1

/-- The gates that take a REPORT from an address: in service, with that drive address, while GATES is VALID (R1, R23). -/
def Tables.reportGates (t : Tables) (address : Nat) : List (Fin 16) :=
  t.inServiceGates.filter (fun i => (t.gateCfg i).driveAddress == address)

/-- The Gate Sequencer takes a REPORT into each of its gates (R1, R23). -/
def State.offerReport (s : State) (address : Nat) (r : Report) : State :=
  (s.tables.reportGates address).foldl (fun s i => s.takeReport i r) s

/-! ## State timers -/

/-- Whether a gate's state timer expires now in a given state. -/
def State.timerDueIn (s : State) (i : Fin 16) (st : GateState) : Bool :=
  (s.gate i).state == st && timerDue (s.gate i).stateTimer s.now

/-- A gate's state timer stops. -/
def State.stopTimer (s : State) (i : Fin 16) : State := s.setGate i { s.gate i with stateTimer := none }

/-- SEEN_WATCH_EXPIRY (R8): FAULTED without a LOCK, GATE_UNSEEN raised. -/
def execSeenWatchExpiry (i : Fin 16) (s : State) : Host.Outcome State Fault Refusal :=
  if s.timerDueIn i .unseen then .next (s.faultGate i false (.gateUnseen i)) else .next s

/-- RECOVERING_EXPIRY (R9): the latest reported brake decides between LOCKED and FAULTED. -/
def execRecoveringExpiry (i : Fin 16) (s : State) : Host.Outcome State Fault Refusal :=
  if s.timerDueIn i .recovering then
    if (s.gate i).brake = some .engaged then .next (s.onYard i (fun e y => Yard.firstLock e i y))
    else .next (s.faultGate i false (.gateFault i))
  else .next s

/-- TCY_WAIT_EXPIRY (R10): the conditions for WAIT_GRANT are tested again. -/
def execTcyWaitExpiry (i : Fin 16) (s : State) : Host.Outcome State Fault Refusal :=
  if s.timerDueIn i .locked then .next ((s.stopTimer i).onYard i (fun e y => Yard.testLocked e i y)) else .next s

/-- UNLOCKING_EXPIRY (R13): FREE if RELEASED was reported since the grant, else FAULTED with LOCK issued. -/
def execUnlockingExpiry (i : Fin 16) (s : State) : Host.Outcome State Fault Refusal :=
  if s.timerDueIn i .unlocking then
    let g := s.gate i
    if g.reportSinceGrant = true ∧ g.brake = some .released then
      .next (State.onYard (s.setGate i { g with unlockCompletion := some s.now }) i (fun e y => Yard.enterFree e i y))
    else .next (s.faultGate i true (.gateFault i))
  else .next s

/-- LOCK_ALLOWED_EXPIRY (R14): LOCK is issued and the gate enters LOCKING for tLK. -/
def execLockAllowedExpiry (i : Fin 16) (s : State) : Host.Outcome State Fault Refusal :=
  if s.timerDueIn i .free then
    .next (s.onYard i (fun e y => Yard.issue e i .lock 0
      (y.setGate i { y.gate i with state := .locking, stateTimer := some (e.now + (e.cfg i).tLK) })))
  else .next s

/-- A gate enters LOCKED at the end of a cycle: slot released, then the pending test (R16). -/
def Yard.endCycle (e : YardEnv) (i : Fin 16) (y : Yard) : Yard :=
  let g := y.gate i
  Yard.pendingLocked e i
    (Yard.releaseSlot e i (y.setGate i { g with state := .locked, positionAtLock := g.position, stateTimer := none }))

/-- LOCKING_EXPIRY (R16): LOCKED if ENGAGED, else FAULTED without a further LOCK; the slot is released either way. -/
def execLockingExpiry (i : Fin 16) (s : State) : Host.Outcome State Fault Refusal :=
  if s.timerDueIn i .locking then
    if (s.gate i).brake = some .engaged then .next (s.onYard i (fun e y => Yard.endCycle e i y))
    else .next (s.faultGate i false (.gateFault i))
  else .next s

/-- SPILL_RUN_EXPIRY (R20): STOP is issued and the gate coasts in REVERSING. -/
def execSpillRunExpiry (i : Fin 16) (s : State) : Host.Outcome State Fault Refusal :=
  if s.timerDueIn i .moving then .next (s.onYard i (fun e y => Yard.stopRun e i y)) else .next s

/-- The end of a reversal dwell: the first case of R20 that holds decides. Where that case ends the move in FROZEN, the gate then waits
to lock (Yard.endMove; log entry 44). -/
def Yard.endDwell (e : YardEnv) (i : Fin 16) (y : Yard) : Yard :=
  let c := e.cfg i
  let g := y.gate i
  let p := g.position.getD 0
  let m := g.moveSetpoint.getD 0
  if g.running = some true then y.setGate i { g with stateTimer := some (e.now + c.reversalDwell) }
  else if g.pending then
    let t := g.target.getD 0
    let y1 := y.setGate i { g with pending := false, moveSetpoint := some t }
    if gap t p ≤ c.band then Yard.endMove e i y1
    else
      Yard.startRun e i t
        (y1.setGate i { y1.gate i with trimCount := 0, moveWatch := some (e.now + c.moveTimeout) })
  else if gap m p ≤ c.band then Yard.endMove e i y
  else if g.trimCount < 2 then Yard.startRun e i m (y.setGate i { g with trimCount := g.trimCount + 1 })
  else Yard.endMove e i y

/-- REVERSAL_DWELL_EXPIRY (R20). -/
def execReversalDwellExpiry (i : Fin 16) (s : State) : Host.Outcome State Fault Refusal :=
  if s.timerDueIn i .reversing then .next (s.onYard i (fun e y => Yard.endDwell e i y)) else .next s

/-! ## Watches -/

/-- Whether a gate's move watch expires now (R22). -/
def State.moveWatchDue (s : State) (i : Fin 16) : Bool :=
  ((s.gate i).state == .moving || (s.gate i).state == .reversing) && timerDue (s.gate i).moveWatch s.now

/-- MOVE_WATCH_EXPIRY (R22): FAULTED with LOCK issued. -/
def execMoveWatchExpiry (i : Fin 16) (s : State) : Host.Outcome State Fault Refusal :=
  if s.moveWatchDue i then .next (s.faultGate i true (.gateFault i)) else .next s

/-- The tick at which a gate's silence watch expires: one report timeout after the later of its last report and the tick at
which the STATION table became VALID (R25). -/
def State.silenceEnd (s : State) (i : Fin 16) : Option Tick :=
  match s.tables.station, (s.gate i).lastReport with
  | .valid st, some r => some (max r (s.stationValidSince.getD 0) + st.reportTimeout)
  | _, _ => none

/-- Whether a gate's silence watch expires now (R25). -/
def State.silenceWatchDue (s : State) (i : Fin 16) : Bool :=
  (s.gate i).state != .unseen && (s.gate i).state != .faulted && timerDue (s.silenceEnd i) s.now

/-- SILENCE_WATCH_EXPIRY (R25): FAULTED with LOCK issued. -/
def execSilenceWatchExpiry (i : Fin 16) (s : State) : Host.Outcome State Fault Refusal :=
  if s.silenceWatchDue i then .next (s.faultGate i true (.gateFault i)) else .next s

/-- Whether a gate's lag watch expires now: once for each disagreement (R26). -/
def State.lagDue (s : State) (i : Fin 16) : Bool :=
  let g := s.gate i
  s.mdc.mode.supervised && g.state != .unseen && g.state != .faulted && !g.lagReported &&
  timerDue (g.lagStart.map (· + (s.cfg i).lagTime)) s.now

/-- LAG_WATCH_EXPIRY (R26): GATE_LAG is raised; the lag start tick stays. -/
def execLagWatchExpiry (i : Fin 16) (s : State) : Host.Outcome State Fault Refusal :=
  if s.lagDue i then .next (State.raise (s.setGate i { s.gate i with lagReported := true }) (.gateLag i)) else .next s

/-! ## Groups and order slots -/

/-- SPACING_EXPIRY (R37): the timer stops and a grant check runs. -/
def execSpacingExpiry (k : Fin 4) (s : State) : Host.Outcome State Fault Refusal :=
  if timerDue (s.group k).spacingTimer s.now then
    .next { s with yard :=
      Yard.grantCheck s.yardEnv k (s.yard.setGroup k { s.group k with spacingTimer := none }) }
  else .next s

/-- The remaining hold of an order slot: it goes down by 1 at each tick, and is 0 from the expiry of the hold on (R95). -/
def OrderSlot.remainingHold (o : OrderSlot) (now : Tick) : Nat :=
  if o.visible then 0 else max 1 (o.holdEnd - now)

/-- Whether the hold of a gate's order slot ends now (R95). -/
def State.holdDue (s : State) (i : Fin 16) : Bool :=
  match (s.gate i).slot with
  | some o => !o.visible && decide (o.holdEnd ≤ s.now)
  | none => false

/-- ORDER_HOLD_EXPIRY (R95): the slot becomes visible to rounds. -/
def execOrderHoldExpiry (i : Fin 16) (s : State) : Host.Outcome State Fault Refusal :=
  if s.holdDue i then
    .next (s.setGate i { s.gate i with slot := (s.gate i).slot.map (fun o => { o with visible := true }) })
  else .next s

end Sys2Proof.Machine
end

