-- ==== Sys2Proof/Machine/Round.lean ====
section
/-! DEFINITION. The governing round (chapter 5): stages 1 to 7, each a function of its own, and the event that takes them. -/

namespace Sys2Proof.Machine

/-! ## Stage 2: eligibility -/

/-- Whether a gate is eligible: in service, and neither UNSEEN nor FAULTED (R72). -/
def State.eligible (s : State) (i : Fin 16) : Bool :=
  (s.cfg i).inService && (s.gate i).state != .unseen && (s.gate i).state != .faulted

/-- The eligible gates, ascending (R72). -/
def State.eligibleGates (s : State) : List (Fin 16) := allGates.filter s.eligible

/-- The commanded setpoint s_g of an eligible gate (R72). -/
def State.setpoint (s : State) (i : Fin 16) : Nat := (s.gate i).commanded.getD 0

/-! ## Stage 3: targets -/

/-- A visible order slot is adopted as the standing target and emptied (R73). -/
def Gate.adopt (g : Gate) : Gate :=
  match g.slot with
  | some o =>
    if o.visible then
      { g with slot := none, standing := { opening := some o.opening, lockAfter := o.lockAfter, origin := .order } }
    else g
  | none => g

/-- In GOVERN every eligible gate adopts its visible order (R73). -/
def State.adoptOrders (s : State) : State :=
  s.eligibleGates.foldl (fun s i => s.setGate i (s.gate i).adopt) s

/-- A target opening with the lock-after flag its motion will carry (R72). -/
structure Target where
  opening : Nat
  lockAfter : Bool
  deriving DecidableEq, Repr

/-- The target of a gate in GOVERN: its standing target, or its commanded setpoint while that is absent (R73). -/
def State.governTarget (s : State) (i : Fin 16) : Target :=
  match (s.gate i).standing.opening with
  | some o => { opening := o, lockAfter := (s.gate i).standing.lockAfter }
  | none => { opening := s.setpoint i, lockAfter := true }

/-- The fill walk over the listed gates with a residual flow: each takes the opening for the residual, which its flow then
reduces (R75). -/
def fillWalk (t : Tables) (head : Nat) : List (Fin 16) → Nat → List (Fin 16 × Nat)
  | [], _ => []
  | i :: r, residual =>
    let o := t.openingForFlow i residual head
    (i, o) :: fillWalk t head r (residual - (t.gateFlow i o head).getD 0)

/-- The gates the fill walks: listed and eligible (R75). -/
def State.walked (s : State) (list : List (Fin 16)) : List (Fin 16) := list.filter s.eligible

/-- The residual at the start of the walk: the forecast inflow less the planned contributions of the gates not walked, taken
as 0 where it is below 0 (R75). -/
def State.fillResidual (s : State) (walked : List (Fin 16)) : Nat :=
  s.forecastInflow -
    (s.outflowSum (fun i => if walked.contains i then none else (s.gate i).commanded)).1

/-- The target openings of the fill rule (R75). -/
def State.fillTargets (s : State) (list : List (Fin 16)) : List (Fin 16 × Nat) :=
  fillWalk s.tables s.lvu.head (s.walked list) (s.fillResidual (s.walked list))

/-- The targets of the fill procedure, if the round fills: TRACKING and the FILL table VALID (R74). -/
def State.fallbackFill (s : State) : List (Fin 16 × Nat) :=
  match s.csu.forecast, s.tables.fill.active with
  | .tracking, .valid list => s.fillTargets list
  | _, _ => []

/-- The opening a list of openings gives a gate. -/
def openingIn (l : List (Fin 16 × Nat)) (i : Fin 16) : Option Nat :=
  (l.find? (fun p => p.1 == i)).map (·.2)

/-- The flood floor by the FLOOD table and a headwater: the last row whose threshold is at or below it (R77). -/
def floodFloor (rows : List FloodRow) (headwater : Nat) : Nat :=
  rows.foldl (fun acc r => if r.threshold ≤ headwater then r.opening else acc) 0

/-- The flood floor of the round: by the headwater, or the last valid headwater while it is invalid; 0 without either or
without a FLOOD table (R77, R53). -/
def State.floor (s : State) : Nat :=
  match s.tables.flood.active, (match s.lvu.headwater with | some h => some h | none => s.lvu.lastHeadwater) with
  | .valid rows, some h => floodFloor rows h
  | _, _ => 0

/-- The low-level block: a wicket target is capped at the commanded setpoint (R76). -/
def State.capTarget (s : State) (i : Fin 16) (t : Target) : Target :=
  if s.active .headLow = true ∧ (s.cfg i).kind = .wicket then { t with opening := min t.opening (s.setpoint i) } else t

/-- The flood floor: a spill target below it is raised to it, with lock-after yes (R77). -/
def State.raiseTarget (s : State) (i : Fin 16) (t : Target) : Target :=
  if s.lvu.regime = .flood ∧ (s.cfg i).kind = .spill ∧ t.opening < s.floor then
    { opening := s.floor, lockAfter := true }
  else t

/-- Capped, raised and clamped, in that order (R76 to R78). -/
def State.finishTarget (s : State) (i : Fin 16) (t : Target) : Target :=
  let t' := s.raiseTarget i (s.capTarget i t)
  { t' with opening := (s.cfg i).clamp t'.opening }

/-- The target of an eligible gate at the end of stage 3, by the mode: a standing target in GOVERN, a fill target or the
commanded setpoint in FALLBACK (R73 to R78). -/
def State.roundTarget (s : State) (fill : List (Fin 16 × Nat)) (i : Fin 16) : Target :=
  s.finishTarget i
    (if s.mdc.mode = .govern then s.governTarget i
     else { opening := (openingIn fill i).getD (s.setpoint i), lockAfter := true })

/-! ## Stage 4: slew -/

/-- A step bounded by the slew (R79). -/
def slewed (slew : Nat) (d : Int) : Int := max (-(slew : Int)) (min d slew)

/-- The working values of an eligible gate (R72). -/
structure Plan where
  gate : Fin 16
  setpoint : Nat
  lockAfter : Bool
  step : Int
  deriving DecidableEq, Repr

/-- The working values of every eligible gate after stage 4 (R72 to R79). -/
def State.plans (s : State) : List Plan :=
  let fill := s.fallbackFill
  s.eligibleGates.map (fun i =>
    let t := s.roundTarget fill i
    { gate := i, setpoint := s.setpoint i, lockAfter := t.lockAfter
      step := slewed (s.cfg i).slew ((t.opening : Int) - (s.setpoint i : Int)) })

/-! ## Stage 5: limits -/

/-- The band by the planned outflow at the round's start: the first whose upper bound reaches it, or the last (R80). -/
def rampBand (q : Nat) : List RampBand → Option RampBand
  | [] => none
  | [b] => some b
  | b :: r => if q ≤ b.upper then some b else rampBand q r

/-- A per-minute limit made per-round: floor(L × T / 600), at least 1 for a limit above 0 (R82). -/
def perRound (perMinute interval : Nat) : Nat :=
  if perMinute = 0 then 0 else max 1 (perMinute * interval / 600)

/-- The rise and fall limits of the round in fu per minute, by the band at `q`, the regime and the acceptance in use (R81). -/
def State.limitsPerMinute (s : State) (q : Nat) : Nat × Nat :=
  match s.tables.ramp.active with
  | .valid t =>
    match rampBand q t.bands with
    | some b =>
      match s.lvu.regime with
      | .flood => (t.floodRise, b.fall)
      | .normal =>
        match s.acceptanceInUse.1 with
        | some a => (min b.rise a, b.fall)
        | none => (b.rise, b.fall)
    | none => (0, 0)
  | _ => (0, 0)

/-- The rise and fall limits of the round in fu per round (R82). -/
def State.limits (s : State) (q : Nat) : Nat × Nat :=
  let l := s.limitsPerMinute q
  let interval := s.tables.stationOr.roundInterval
  (perRound l.1 interval, perRound l.2 interval)

/-! ## Stage 6: trials -/

/-- The setpoint a trial with a fraction in 65,536ths proposes for a gate: the step cut toward zero (R83). -/
def Plan.propose (p : Plan) (f : Nat) : Nat := ((p.setpoint : Int) + (p.step * f).tdiv 65536).toNat

/-- The setpoints a trial proposes. -/
def proposals (l : List Plan) (f : Nat) : List (Fin 16 × Nat) := l.map (fun p => (p.gate, p.propose f))

/-- The planned sum with the eligible gates at their proposed setpoints (R83). -/
def State.trialSum (s : State) (l : List (Fin 16 × Nat)) : Nat :=
  (s.outflowSum (fun i => match openingIn l i with | some o => some o | none => (s.gate i).commanded)).1

/-- Whether a change of planned outflow lies within the limits (R83). -/
def withinLimits (limits : Nat × Nat) (change : Int) : Bool :=
  decide (-(limits.2 : Int) ≤ change ∧ change ≤ (limits.1 : Int))

/-- What a round takes to its commit: the setpoints, the planned outflow with them, and whether trial 1 was accepted. -/
structure Accepted where
  setpoints : List (Fin 16 × Nat)
  planned : Nat
  first : Bool
  deriving DecidableEq, Repr

/-- The trials from the second on: each fails to the half of its fraction, and after the last every gate is held (R84, R85). -/
def State.laterTrials (s : State) (plans : List Plan) (qNow : Nat) (limits : Nat × Nat) : (n f : Nat) → Accepted
  | 0, _ => { setpoints := proposals plans 0, planned := qNow, first := false }
  | n + 1, f =>
    let p := proposals plans f
    let q := s.trialSum p
    if withinLimits limits ((q : Int) - (qNow : Int)) then { setpoints := p, planned := q, first := false }
    else s.laterTrials plans qNow limits n (f / 2)

/-- The fraction of trial 2 by the overshoot of trial 1 (R84). -/
def secondFraction (limits : Nat × Nat) (change : Int) : Nat :=
  65536 * (if 0 < change then limits.1 else limits.2) / change.natAbs

/-- The trials of a round: at most five (R83 to R85). -/
def State.trials (s : State) (plans : List Plan) (qNow : Nat) : Accepted :=
  let limits := s.limits qNow
  let p := proposals plans 65536
  let q := s.trialSum p
  let change : Int := (q : Int) - (qNow : Int)
  if withinLimits limits change then { setpoints := p, planned := q, first := true }
  else s.laterTrials plans qNow limits 4 (secondFraction limits change)

/-! ## Stage 7: commit -/

/-- Whether a round moves a gate. -/
def moves (plans : List Plan) (setpoints : List (Fin 16 × Nat)) : Bool :=
  plans.any (fun p => (openingIn setpoints p.gate).getD p.setpoint != p.setpoint)

/-- The result of a round (R88). -/
def roundResult (plans : List Plan) (a : Accepted) : RoundResult :=
  if a.first then .applied else if moves plans a.setpoints then .scaled else .held

/-- The commanded setpoints of the eligible gates are committed (R86). -/
def State.commitSetpoints (s : State) (l : List (Fin 16 × Nat)) : State :=
  l.foldl (fun s p => s.setGate p.1 { s.gate p.1 with commanded := some p.2 }) s

/-- The priority of a motion target: URGENT for a spill gate opened in FLOOD above its position at lock (R87). -/
def State.motionPriority (s : State) (p : Plan) (opening : Nat) : Priority :=
  if s.lvu.regime = .flood ∧ (s.cfg p.gate).kind = .spill ∧
      ((s.gate p.gate).positionAtLock.getD p.setpoint) < opening then .urgent
  else .normal

/-- Each eligible gate whose setpoint has changed takes its new motion target (R87). The gates take theirs independently, and
the model has them do so in ascending number (log entry 12). -/
def State.handTargets (s : State) (plans : List Plan) (setpoints : List (Fin 16 × Nat)) : State :=
  plans.foldl
    (fun s p =>
      let o := (openingIn setpoints p.gate).getD p.setpoint
      if o = p.setpoint then s
      else
        let priority := s.motionPriority p o
        s.onYard p.gate (fun e y => Yard.takeTarget e p.gate o p.lockAfter priority y)) s

/-- The result of the round is recorded, and RAMP_HELD raised or cleared by it (R88). -/
def State.recordResult (s : State) (r : RoundResult) : State :=
  let s' := { s with rgv := { s.rgv with lastResult := r } }
  match r with
  | .held => s'.raise .rampHeld
  | .applied | .scaled => s'.clear .rampHeld
  | .none => s'

/-- The commit of a round (R86 to R89). -/
def State.commitRound (s : State) (plans : List Plan) (a : Accepted) : State :=
  let s1 := s.commitSetpoints a.setpoints
  let s2 := { s1 with rgv := { s1.rgv with planned := a.planned } }
  let s3 := s2.handTargets plans a.setpoints
  let s4 := s3.recordResult (roundResult plans a)
  s4.handOverPlanned

/-- The round timer restarts, to expire one round interval later (R69). -/
def State.restartRound (s : State) : State :=
  { s with rgv := { s.rgv with roundTimer := some (s.now + s.tables.stationOr.roundInterval) } }

/-- The state in which a round reckons its targets: shadows swapped, and in GOVERN visible orders adopted (R71 to R73). -/
def State.roundStart (s : State) : State :=
  let s' := s.restartRound.swapShadows
  if s'.mdc.mode = .govern then s'.adoptOrders else s'

/-- One governing round, stages 1 to 7 (R69 to R89). -/
def State.takeRound (s : State) : State :=
  let s1 := s.roundStart
  s1.commitRound s1.plans (s1.trials s1.plans s1.plannedSum)

/-- GOVERNING_ROUND (R69). -/
def execGoverningRound (s : State) : Host.Outcome State Fault Refusal :=
  if timerDue s.rgv.roundTimer s.now then .next s.takeRound else .next s

end Sys2Proof.Machine
end

