-- ==== Sys2Proof/Machine/Replies.lean ====
section
/-! DEFINITION. Replies: the codes and widths of fields (R171), the answer data of the read requests (R44, R146, R147, R166,
R167), and the taking of a management request (R123, R154, R156). -/

namespace Sys2Proof.Machine

/-! ## Fields (R171) -/

/-- A field of one byte; absent is 255. -/
def field1 (v : Option Nat) : List Byte := beBytes 1 (v.getD 255)

/-- A field of two bytes; absent is 65,535. -/
def field2 (v : Option Nat) : List Byte := beBytes 2 (v.getD 65535)

/-- A field of four bytes, a tick stamp as its low 32 bits; absent is 4,294,967,295. -/
def field4 (v : Option Nat) : List Byte := beBytes 4 (v.getD absent4)

/-- A flag: no 0; yes is sent as 1 (R171; log entry 42). -/
def flag (b : Bool) : List Byte := beBytes 1 b.toNat

/-! ## Codes of enumerations, 0 upward in the order of their rules (R171) -/

def Mode.code : Mode → Nat
  | .starting => 0
  | .config => 1
  | .govern => 2
  | .fallback => 3
  | .frozen => 4

def StartSource.code : StartSource → Nat
  | .flashAuto => 0
  | .flashHold => 1
  | .bus => 2

def StartPhase.code : StartPhase → Nat
  | .bootRead => 0
  | .startWait => 1

def GateState.code : GateState → Nat
  | .unseen => 0
  | .recovering => 1
  | .locked => 2
  | .waitGrant => 3
  | .unlocking => 4
  | .free => 5
  | .moving => 6
  | .reversing => 7
  | .locking => 8
  | .faulted => 9

def Priority.code : Priority → Nat
  | .urgent => 0
  | .normal => 1

def Brake.code : Brake → Nat
  | .engaged => 0
  | .released => 1

def Origin.code : Origin → Nat
  | .order => 0
  | .position => 1

def Quality.code : Quality → Nat
  | .none => 0
  | .good => 1
  | .questionable => 2
  | .bad => 3
  | .stale => 4

def TailSource.code : TailSource → Nat
  | .derived => 0
  | .held => 1
  | .default => 2

def Regime.code : Regime → Nat
  | .normal => 0
  | .flood => 1

def RoundResult.code : RoundResult → Nat
  | .none => 0
  | .applied => 1
  | .scaled => 2
  | .held => 3

def UpstreamSource.code : UpstreamSource → Nat
  | .initial => 0
  | .notice => 1

def ForecastState.code : ForecastState → Nat
  | .tracking => 0
  | .degraded => 1

def AcceptanceSource.code : AcceptanceSource → Nat
  | .received => 0
  | .default => 1
  | .unlimited => 2

def LinkState.code : LinkState → Nat
  | .waiting => 0
  | .up => 1
  | .lost => 2

/-! ## Taking a request (R123, R154, R156) -/

/-- The REPLY frame of a request (R171). -/
def replyFrame (code : Byte) (r : Result) (data : List Byte) : BusFrame :=
  makeBusFrame controlAddress partAddress kindReply ([code] ++ beBytes 1 r.code ++ data)

/-- A REPLY is placed in the own queue of Port L (R156). -/
def State.reply (s : State) (code : Byte) (r : Result) (data : List Byte) : State :=
  s.pushOwn (replyFrame code r data)

/-- A frame is dropped for want of room in the own queue of Port L (R154). -/
def State.dropOwn (s : State) : State :=
  { s with desk := { s.desk with portL := { s.desk.portL with dropped := countUp s.desk.portL.dropped } } }

/-- Whether the own queue of Port L is full (R154). -/
def State.ownFull (s : State) : Bool := s.desk.portL.ownFull

/-- A request in a MANAGE frame to the part is judged in the order of R156: dropped where the own queue is full, refused in
STARTING unless it is READ_STATUS, else carried out. -/
def State.request (s : State) (code : Byte) (body : State → State) : State :=
  if s.ownFull then s.dropOwn
  else if s.mdc.mode = .starting ∧ code ≠ 1 then s.reply code .refusedBusy []
  else body s

/-! ## READ_STATUS (R166) -/

/-- The Mode group of READ_STATUS. -/
def State.statusMode (s : State) : List Byte :=
  field1 (some s.mdc.mode.code) ++ field1 (some s.mdc.source.code) ++ field1 (s.mdc.phase.map (·.code)) ++
  (match s.mdc.startReason with
   | some r => r.bytes
   | none => [255#8, 255#8, 255#8]) ++
  flag s.mdc.controlPresent ++ flag s.mdc.restartPending

/-- The Levels group of READ_STATUS; head is held while headwater is invalid (R50; log entry 19). -/
def State.statusLevels (s : State) : List Byte :=
  flag s.lvu.headwater.isSome ++ field4 s.lvu.headwater ++ field4 s.lvu.lastHeadwater ++ field4 (some s.lvu.tailwater) ++
  field1 (some s.lvu.tailSource.code) ++ field4 (some s.lvu.head) ++ flag s.lvu.headwater.isNone ++
  field1 (some s.lvu.regime.code) ++ flag (s.active .headLow)

/-- The Outflow group of READ_STATUS; the present outflow is reckoned now (R66). -/
def State.statusOutflow (s : State) : List Byte :=
  field4 (some s.rgv.planned) ++ field4 (some s.presentSum.1) ++ flag s.presentSum.2 ++
  field1 (some s.rgv.lastResult.code)

/-- The Cascade group of READ_STATUS. -/
def State.statusCascade (s : State) : List Byte :=
  field4 (some s.forecastInflow) ++ field4 (some s.csu.upstream) ++ field1 (some s.csu.upstreamSource.code) ++
  field1 (some s.csu.forecast.code) ++ field4 s.acceptanceInUse.1 ++ field1 (some s.acceptanceInUse.2.code)

/-- The Tables group of READ_STATUS. -/
def State.statusTables (s : State) : List Byte :=
  allTables.flatMap (fun t => beBytes 1 (s.tables.stateCode t)) ++ s.tables.shadowCodes.flatMap (beBytes 1) ++
  flag s.load.isSome ++ field1 (s.load.map (·.table.code)) ++ field2 (s.load.map (·.length)) ++
  field2 (s.load.map (·.bytes.length)) ++ flag s.saving.isSome

/-- The answer data of READ_STATUS (R166, R171). -/
def State.statusData (s : State) : List Byte :=
  s.statusMode ++ s.statusLevels ++ s.statusOutflow ++ s.statusCascade ++ flag (s.latched .noticeLost) ++ s.statusTables

/-! ## READ_GATE and READ_CHANNEL (R3, R44, R97) -/

/-- The entry of a table image as loaded, or free bytes while the table is not VALID (log entry 11). -/
def State.loadedEntry (s : State) (valid : Bool) (image : List Byte) (width : Nat) : List Byte :=
  if valid then image else (List.range width).map (Config.unloadedEntryByte s.draws)

/-- A draw has been used where a table was not VALID. -/
def State.drawUnless (s : State) (valid : Bool) : State := if valid then s else { s with draws := s.draws + 1 }

/-- The dynamic fields of a gate in the order of R3. -/
def Gate.bytes (g : Gate) : List Byte :=
  field1 (some g.state.code) ++ field2 g.commanded ++ field2 g.target ++ flag g.lockAfter ++
  field1 (some g.priority.code) ++ flag g.pending ++ field2 g.moveSetpoint ++ field2 g.position ++
  field1 (g.brake.map (·.code)) ++ field1 (g.running.map Bool.toNat) ++ field1 (g.fault.map Bool.toNat) ++
  field4 g.lastReport ++ field2 g.positionAtLock ++ field4 g.lastUnlock ++ field4 g.unlockCompletion ++
  field4 g.lastMoveEnd ++ field4 g.lagStart ++ field1 (some g.trimCount) ++ flag g.earlyLock ++ field4 g.stateTimer ++
  field4 g.moveWatch

/-- The order slot of a gate (R94). -/
def slotData (slot : Option OrderSlot) (now : Tick) : List Byte :=
  flag slot.isSome ++ field2 (slot.map (·.opening)) ++ field2 (slot.map (·.remainingHold now)) ++
  field1 (slot.map (·.lockAfter.toNat)) ++ field1 (slot.map (·.tag.toNat))

/-- The standing target of a gate (R97). -/
def Standing.bytes (t : Standing) : List Byte :=
  field2 t.opening ++ flag t.lockAfter ++ field1 (some t.origin.code)

/-- The answer data of READ_GATE (R171). -/
def State.gateData (s : State) (i : Fin 16) : List Byte :=
  beBytes 1 i.val ++ s.loadedEntry s.tables.gates.isValid (gateCfgImage (s.cfg i)) 36 ++ (s.gate i).bytes ++
  slotData (s.gate i).slot s.now ++ (s.gate i).standing.bytes

/-- The age of a channel, saturated at 65,534; absent while it has stored no sample (R44). -/
def State.channelAge (s : State) (c : Fin 8) : Option Nat :=
  (s.channel c).lastGood.map (fun t => min (s.now - t) 65534)

/-- The answer data of READ_CHANNEL (R171). -/
def State.channelData (s : State) (c : Fin 8) : List Byte :=
  beBytes 1 c.val ++ s.loadedEntry s.tables.channels.isValid (channelCfgImage (s.tables.channelCfg c)) 13 ++
  field4 (s.channel c).value ++ field1 (some (s.channel c).quality.code) ++ field2 (s.channelAge c)

/-! ## READ_CONDITIONS (R146) -/

/-- Whether a condition is active or latched. -/
def State.standing (s : State) (c : Cond) : Bool := s.active c || s.latched c

/-- The records a READ_CONDITIONS lists: active or latched ones from a number on, up to 20 (R146). -/
def State.listed (s : State) (start : Nat) : List Cond := ((allConds.drop start).filter s.standing).take 20

/-- One listed record (R146). -/
def State.recordData (s : State) (c : Cond) : List Byte :=
  beBytes 1 c.number.val ++ beBytes 1 c.kindCode ++ beBytes 1 c.subjectCode ++ beBytes 1 (s.tables.level c) ++
  flag (s.active c) ++ flag (s.latched c) ++ field4 (s.desk.record c).firstSet

/-- The record number from which to continue: after the last listed where the list is full, else 120 (R146). -/
def continuation (l : List Cond) : Nat :=
  if l.length < 20 then 120
  else
    match l.getLast? with
    | some c => c.number.val + 1
    | none => 120

/-- The answer data of READ_CONDITIONS (R171). -/
def State.conditionsData (s : State) (start : Nat) : List Byte :=
  let l := s.listed start
  beBytes 1 l.length ++ l.flatMap s.recordData ++ beBytes 1 (continuation l) ++ beBytes 1 s.desk.notices.length ++
  beBytes 1 s.tables.stationOr.noticeMask

/-! ## READ_PORTS (R103, R119, R147) -/

/-- The reach port group of READ_PORTS. -/
def State.reachData (s : State) (p : ReachSide) : List Byte :=
  flag (s.portPresent p) ++ field1 (some (s.reachPort p).link.code) ++ field2 (some (s.reachPort p).errors)

/-- The answer data of READ_PORTS (R171). -/
def State.portsData (s : State) : List Byte :=
  let l := s.desk.portL
  let f := s.yard.portF
  field2 (some l.errors) ++ field2 (some l.dropped) ++ beBytes 1 l.general.length ++ beBytes 1 l.own.length ++
  field2 (some f.errors) ++ field2 (some f.dropped) ++ beBytes 1 f.general.length ++ beBytes 1 f.drive.length ++
  flag l.savePlace ++ s.reachData .U ++ s.reachData .D ++ field4 s.csu.lastNotified ++ beBytes 1 s.csu.outSequence

/-! ## Meanings of the read requests -/

/-- READ_STATUS (R166). -/
def execReadStatus (s : State) : Host.Outcome State Fault Refusal :=
  .next (s.request 1 (fun s => s.reply 1 .done s.statusData))

/-- READ_GATE (R166): a gate number above 15 is UNKNOWN_REQUEST. -/
def execReadGate (gate : Byte) (s : State) : Host.Outcome State Fault Refusal :=
  .next (s.request 2 (fun s =>
    if h : gate.toNat < 16 then
      (s.drawUnless s.tables.gates.isValid).reply 2 .done (s.gateData ⟨gate.toNat, h⟩)
    else s.reply 2 .unknownRequest []))

/-- READ_CHANNEL (R44): a channel number above 7 is UNKNOWN_REQUEST. -/
def execReadChannel (channel : Byte) (s : State) : Host.Outcome State Fault Refusal :=
  .next (s.request 3 (fun s =>
    if h : channel.toNat < 8 then
      (s.drawUnless s.tables.channels.isValid).reply 3 .done (s.channelData ⟨channel.toNat, h⟩)
    else s.reply 3 .unknownRequest []))

/-- READ_CONDITIONS (R146): a number above 119 is UNKNOWN_REQUEST. -/
def execReadConditions (start : Byte) (s : State) : Host.Outcome State Fault Refusal :=
  .next (s.request 4 (fun s =>
    if start.toNat < 120 then s.reply 4 .done (s.conditionsData start.toNat)
    else s.reply 4 .unknownRequest []))

/-- READ_PORTS (R147). -/
def execReadPorts (s : State) : Host.Outcome State Fault Refusal :=
  .next (s.request 5 (fun s => s.reply 5 .done s.portsData))

/-- READ_TABLE (R167). -/
def execReadTable (table : Byte) (offset : BitVec 16) (s : State) : Host.Outcome State Fault Refusal :=
  .next (s.request 6 (fun s =>
    match (TableId.ofCode table.toNat).bind s.tables.image? with
    | none => s.reply 6 .badTable []
    | some image =>
      if image.length ≤ offset.toNat then s.reply 6 .badSegment []
      else
        s.reply 6 .done
          (beBytes 2 image.length ++ crcBytes (crc16 image) ++ beBytes 2 offset.toNat ++
           (image.drop offset.toNat).take 200)))

end Sys2Proof.Machine
end

