-- ==== Sys2Proof/Machine/Requests.lean ====
section
/-! DEFINITION. The management requests that change state (R28, R113, R127, R132 to R135, R145, R160 to R163, R168), the expiry of
a load's idle timer, and the completions of flash reads and writes (R168, R169). The REPLY of a request is placed after its effects
have been made (R156). -/

namespace Sys2Proof.Machine

/-! ## ACK_CONDITION (R145) -/

/-- The counts of a port set to 0 by the acknowledgement of its PORT_ERRORS (R104, R149). -/
def State.zeroErrors (s : State) : Cond → State
  | .portErrorsBus .L =>
    { s with desk := { s.desk with portL := { s.desk.portL with errors := 0, dropped := 0 } } }
  | .portErrorsBus .F =>
    { s with yard := { s.yard with portF := { s.yard.portF with errors := 0, dropped := 0 } } }
  | .portErrorsReach p => s.setReachPort p { s.reachPort p with errors := 0 }
  | _ => s

/-- Whether an acknowledgement also clears the active state of its record: PORT_ERRORS and NOTICE_LOST (R145). -/
def Cond.ackClears : Cond → Bool
  | .portErrorsBus _ | .portErrorsReach _ | .noticeLost => true
  | _ => false

/-- An acknowledgement with the further action of its kind (R145). -/
def State.acknowledge (s : State) (c : Cond) : State :=
  let s1 := State.zeroErrors { s with desk := s.desk.acknowledge c } c
  if c.ackClears then s1.clear c else s1

/-- ACK_CONDITION (R145). -/
def execAckCondition (kind subject : Byte) (s : State) : Host.Outcome State Fault Refusal :=
  .next (s.request 7 (fun s =>
    match Cond.ofCodes kind subject with
    | some c => (s.acknowledge c).reply 7 .done []
    | none => s.reply 7 .unknownRequest []))

/-! ## Loads (R160 to R163) -/

/-- The idle time of a load (R160). -/
abbrev loadIdleTicks : Nat := 300

/-- The table a LOAD_BEGIN opens, or its refusal by the first case that holds (R160). -/
def State.judgeLoadBegin (s : State) (table : Byte) (length : BitVec 16) : Except Result TableId :=
  if s.saving.isSome then .error .refusedBusy
  else if s.load.isSome then .error .refusedBusy
  else
    match TableId.ofCode table.toNat with
    | none => .error .badTable
    | some t =>
      if t.structural = true ∧ s.mdc.mode ≠ .config then .error .refusedMode
      else if !allowedLength t length.toNat then .error .badTable
      else .ok t

/-- The context opens; a structural table becomes LOADING and its owner takes the effects, an operating table's shadow becomes
LOADING (R160). -/
def State.openLoad (s : State) (t : TableId) (length : Nat) : State :=
  let s1 := { s with load := some { table := t, length := length, bytes := [], idle := s.now + loadIdleTicks } }
  if t.structural then State.ownerLoses { s1 with tables := s1.tables.setLoading t } t
  else { s1 with tables := s1.tables.shadowLoading t }

/-- LOAD_BEGIN (R160). -/
def execLoadBegin (table : Byte) (length : BitVec 16) (s : State) : Host.Outcome State Fault Refusal :=
  .next (s.request 8 (fun s =>
    match s.judgeLoadBegin table length with
    | .ok t => (s.openLoad t length.toNat).reply 8 .done []
    | .error r => s.reply 8 r []))

/-- The bytes received, while a context is open: the answer data of LOAD_SEGMENT (R161). -/
def State.receivedData (s : State) : List Byte :=
  match s.load with
  | some c => field2 (some c.bytes.length)
  | none => []

/-- The context a LOAD_SEGMENT is taken in, or its refusal by the first case that holds (R161). -/
def State.judgeSegment (s : State) (offset : BitVec 16) (data : List Byte) : Except Result LoadContext :=
  if s.saving.isSome then .error .refusedBusy
  else
    match s.load with
    | none => .error .refusedMode
    | some c =>
      if offset.toNat ≠ c.bytes.length then .error .badSegment
      else if c.length < c.bytes.length + data.length then .error .badSegment
      else .ok c

/-- The data is appended to the image bytes and the idle timer restarts (R161). -/
def State.appendSegment (s : State) (c : LoadContext) (data : List Byte) : State :=
  { s with load := some { c with bytes := c.bytes ++ data, idle := s.now + loadIdleTicks } }

/-- LOAD_SEGMENT (R161); without 1 to 200 data bytes it is UNKNOWN_REQUEST (R171). -/
def execLoadSegment (offset : BitVec 16) (data : List Byte) (s : State) : Host.Outcome State Fault Refusal :=
  if segmentLengthOk data then
    .next (s.request 9 (fun s =>
      match s.judgeSegment offset data with
      | .ok c =>
        let s' := s.appendSegment c data
        s'.reply 9 .done s'.receivedData
      | .error r => s.reply 9 r s.receivedData))
  else .next (if s.ownFull then s.dropOwn else s.reply 9 .unknownRequest [])

/-- A load that passed its checks is taken into use, or becomes a READY shadow (R162). A structural table is taken into use in every
mode: a load of a curve that no in-service gate names may end outside CONFIG, where R165 has no structural table change (log entry 46). -/
def State.passLoad (s : State) (t : TableId) (d : TableData) : State :=
  let s1 := State.clear { s with load := none } (.loadFailed t)
  if t.structural then s1.takeContents d
  else if s1.mdc.mode = .config then State.takeContents { s1 with tables := s1.tables.dropShadow t } d
  else { s1 with tables := s1.tables.shadowReady d }

/-- LOAD_END (R162). -/
def execLoadEnd (crc : BitVec 16) (s : State) : Host.Outcome State Fault Refusal :=
  .next (s.request 10 (fun s =>
    if s.saving.isSome then s.reply 10 .refusedBusy []
    else
      match s.load with
      | none => s.reply 10 .refusedMode []
      | some c =>
        if c.bytes.length < c.length then s.reply 10 .badSegment []
        else if crc16 c.bytes ≠ crc then (s.failLoad c.table).reply 10 .checkFailed []
        else
          match parseTable c.table c.bytes with
          | none => (s.failLoad c.table).reply 10 .invalidContent []
          | some d => (s.passLoad c.table d).reply 10 .done []))

/-- LOAD_ABORT (R163). -/
def execLoadAbort (s : State) : Host.Outcome State Fault Refusal :=
  .next (s.request 11 (fun s =>
    if s.saving.isSome then s.reply 11 .refusedBusy []
    else
      match s.load with
      | none => s.reply 11 .refusedMode []
      | some c => (s.failLoad c.table).reply 11 .done []))

/-- Whether the idle timer of the load context expires now (R161). -/
def State.loadIdleDue (s : State) : Bool :=
  match s.load with
  | some c => decide (c.idle ≤ s.now)
  | none => false

/-- LOAD_IDLE_EXPIRY (R163): the load is abandoned with LOAD_FAILED raised, and no REPLY is made. -/
def execLoadIdleExpiry (s : State) : Host.Outcome State Fault Refusal :=
  match s.load with
  | some c => if s.loadIdleDue then .next (s.failLoad c.table) else .next s
  | none => .next s

/-! ## SAVE and flash (R168, R169) -/

/-- The tables a SAVE writes: the VALID ones, ascending (R168). -/
def Tables.toSave (t : Tables) : List TableId := allTables.filter t.valid

/-- An accepted SAVE: in flight with the SAVE place held, or ended at once where no table is VALID (R168). -/
def State.beginSave (s : State) : State :=
  match s.tables.toSave with
  | [] => s.reply 12 .done (field1 (some 0))
  | t :: r =>
    { s with
      saving := some { current := t, rest := r, written := 0 }
      desk := { s.desk with portL := { s.desk.portL with savePlace := true } } }

/-- SAVE (R168). -/
def execSave (s : State) : Host.Outcome State Fault Refusal :=
  .next (s.request 12 (fun s =>
    if s.mdc.mode ≠ .config then s.reply 12 .refusedMode []
    else if s.mdc.restartPending then s.reply 12 .refusedBusy []
    else if s.saving.isSome = true ∨ s.load.isSome = true then s.reply 12 .refusedBusy []
    else s.beginSave))

/-- A SAVE ends: it becomes idle, the SAVE place becomes free, and the REPLY is appended (R154, R168). -/
def State.endSave (s : State) (r : Result) (n : Nat) : State :=
  State.reply
    { s with saving := none, desk := { s.desk with portL := { s.desk.portL with savePlace := false } } }
    12 r (field1 (some n))

/-- The bytes that a SAVE writes to the slot of a table (R168, R172). -/
def State.slotImage (s : State) (t : TableId) : List Byte := slotBytes t ((s.tables.image? t).getD [])

/-- The slot holds what it reads back as: the bytes written, or others where the write went wrong (R168; log entry 7). -/
def State.writeSlot (s : State) (t : TableId) (readBack : Option (List Byte)) : State :=
  { s with flash := s.flash.set t.index (.holds (readBack.getD (s.slotImage t))) }

/-- FLASH_WRITE_COMPLETION (R168): the read-back is compared, and the next write begins or the SAVE ends. -/
def execFlashWriteCompletion (readBack : Option (List Byte)) (s : State) : Host.Outcome State Fault Refusal :=
  match s.saving with
  | none => .next s
  | some w =>
    let s' := s.writeSlot w.current readBack
    if slotCrcOk (readBack.getD (s.slotImage w.current)) then
      match w.rest with
      | [] => .next (s'.endSave .done (w.written + 1))
      | t :: r => .next { s' with saving := some { current := t, rest := r, written := w.written + 1 } }
    else .next (s'.endSave .checkFailed w.current.code)

/-- The outcomes of the boot read with their tables, ascending (R169). -/
def bootPairs (outcomes : List BootOutcome) : List (TableId × BootOutcome) := allTables.zip outcomes

/-- LOAD_FAILED is raised for each bad slot, in ascending order of table id (R169; log entry 41). -/
def State.raiseBad (s : State) (l : List (TableId × BootOutcome)) : State :=
  l.foldl (fun s p => match p.2 with
    | .invalid => s.raise (.loadFailed p.1)
    | .absent | .valid _ => s) s

/-- The tables take their outcomes, ascending (R169). -/
def State.takeOutcomes (s : State) (l : List (TableId × BootOutcome)) : State :=
  l.foldl (fun s p => match p.2 with
    | .invalid => { s with tables := s.tables.setInvalid p.1 }
    | .valid d => s.takeContents d
    | .absent => s) s

/-- The boot read completes, and the start is decided (R124, R169). -/
def State.endBootRead (s : State) (outcomes : List BootOutcome) : State :=
  let l := bootPairs outcomes
  let s1 := (s.raiseBad l).takeOutcomes l
  State.decideStart { s1 with boot := none, mdc := { s1.mdc with phase := none } }

/-- FLASH_READ_COMPLETION (R169): the slot is judged, its outcome held, and the next read begins; the last one completes the
boot read. -/
def execFlashReadCompletion (s : State) : Host.Outcome State Fault Refusal :=
  match s.boot with
  | none => .next s
  | some b =>
    let outcomes := b.outcomes ++ [judgeSlot (TableId.ofIndex b.slot) s.flash[b.slot]]
    if h : b.slot.val + 1 < 18 then .next { s with boot := some { slot := ⟨b.slot.val + 1, h⟩, outcomes := outcomes } }
    else .next (s.endBootRead outcomes)

/-! ## Mode requests (R127, R132 to R135) -/

/-- ENTER (R127). -/
def execEnter (s : State) : Host.Outcome State Fault Refusal :=
  .next (s.request 13 (fun s =>
    if s.mdc.mode ≠ .config then s.reply 13 .refusedMode []
    else if s.mdc.restartPending then s.reply 13 .refusedBusy []
    else if s.saving.isSome then s.reply 13 .refusedBusy []
    else
      match s.tables.entryCheck with
      | some r => s.reply 13 .refusedTables r.bytes
      | none => if s.lvu.headwater.isNone then s.reply 13 .refusedLevel [] else s.enterGovern.reply 13 .done []))

/-- Whether GATE_RUNAWAY is latched for any gate (R133). -/
def State.runawayLatched (s : State) : Bool := allGates.any (fun i => s.latched (.gateRunaway i))

/-- RESUME (R133). -/
def execResume (s : State) : Host.Outcome State Fault Refusal :=
  .next (s.request 14 (fun s =>
    if s.mdc.restartPending then s.reply 14 .refusedBusy []
    else
      match s.mdc.mode with
      | .fallback =>
        if s.mdc.controlPresent then s.enterGovern.reply 14 .done [] else s.reply 14 .refusedMode []
      | .frozen => if s.runawayLatched then s.reply 14 .refusedMode [] else s.enterGovern.reply 14 .done []
      | .starting | .config | .govern => s.reply 14 .refusedMode []))

/-- FREEZE (R132). -/
def execFreeze (s : State) : Host.Outcome State Fault Refusal :=
  .next (s.request 15 (fun s =>
    if s.mdc.mode.governing = false then s.reply 15 .refusedMode []
    else if s.mdc.restartPending then s.reply 15 .refusedBusy []
    else s.enterFrozen.reply 15 .done []))

/-- Whether a gate is at rest: LOCKED, FAULTED or UNSEEN (R134). -/
def GateState.atRest : GateState → Bool
  | .locked | .faulted | .unseen => true
  | _ => false

/-- Whether every in-service gate is at rest (R134). -/
def State.gatesAtRest (s : State) : Bool := s.tables.inServiceGates.all (fun i => (s.gate i).state.atRest)

/-- CONFIGURE (R134). -/
def execConfigure (s : State) : Host.Outcome State Fault Refusal :=
  .next (s.request 16 (fun s =>
    if s.mdc.mode = .config then s.reply 16 .refusedMode []
    else if s.mdc.restartPending then s.reply 16 .refusedBusy []
    else if !s.gatesAtRest then s.reply 16 .refusedBusy []
    else s.enterConfig.reply 16 .done []))

/-- RESTART (R135): the effect follows at the transmit completion of the REPLY. -/
def execRestart (s : State) : Host.Outcome State Fault Refusal :=
  .next (s.request 19 (fun s =>
    if s.mdc.restartPending then s.reply 19 .refusedBusy []
    else State.reply { s with mdc := { s.mdc with restartPending := true } } 19 .done []))

/-! ## RESTORE_FORECAST and CLEAR_GATE -/

/-- RESTORE_FORECAST (R113): refused only while a present Port U is LOST. -/
def execRestoreForecast (s : State) : Host.Outcome State Fault Refusal :=
  .next (s.request 17 (fun s =>
    if s.portPresent .U = true ∧ s.portU.link = .lost then s.reply 17 .refusedMode []
    else State.reply { s with csu := { s.csu with forecast := .tracking } } 17 .done []))

/-- A FAULTED gate is cleared: its reset values, the active states of its conditions cleared, and its seen watch started (R28,
R100). -/
def State.clearGate (s : State) (i : Fin 16) : State :=
  State.clearAll (s.setGate i (Gate.startSeenWatch {} s.tables s.now))
    [.gateFault i, .gateUnseen i, .bypassBlocked i]

/-- CLEAR_GATE (R28). -/
def execClearGate (gate : Byte) (s : State) : Host.Outcome State Fault Refusal :=
  .next (s.request 18 (fun s =>
    if h : gate.toNat < 16 then
      let i : Fin 16 := ⟨gate.toNat, h⟩
      if (s.gate i).state = .faulted ∧ (s.cfg i).inService = true then (s.clearGate i).reply 18 .done []
      else s.reply 18 .refusedMode []
    else s.reply 18 .unknownRequest []))

end Sys2Proof.Machine
end

