-- ==== Sys2Proof/Machine/Ports.lean ====
section
/-! DEFINITION. The Bus Port Unit (chapter 10): the receive check, the classification of frames by kind and destination, the taking
of samples, reports, orders (chapter 6) and management requests, forwarding, and transmit completions. In the event of a frame a
block takes it before it is forwarded (log entry 36). -/

namespace Sys2Proof.Machine

/-! ## Receive errors (R148, R149) -/

/-- The receive error count of a station-bus port. -/
def State.busErrors (s : State) : BusPort → Nat
  | .L => s.desk.portL.errors
  | .F => s.yard.portF.errors

/-- The receive error count of a station-bus port replaced. -/
def State.setBusErrors (s : State) (p : BusPort) (n : Nat) : State :=
  match p with
  | .L => { s with desk := { s.desk with portL := { s.desk.portL with errors := n } } }
  | .F => { s with yard := { s.yard with portF := { s.yard.portF with errors := n } } }

/-- A frame is discarded: the receive error count goes up, and PORT_ERRORS is raised at the threshold or above it while the STATION
table is VALID (R148, R149). -/
def State.busError (s : State) (p : BusPort) : State :=
  let n := countUp (s.busErrors p)
  let s' := s.setBusErrors p n
  match s.tables.station with
  | .valid st => if st.portErrorThreshold ≤ n then s'.raise (.portErrorsBus p) else s'
  | _ => s'

/-! ## Forwarding (R152) -/

/-- A frame received on a port goes to the general queue of the other one (R152). -/
def State.forwardFrom (s : State) (p : BusPort) (f : BusFrame) : State :=
  match p with
  | .L => { s with yard := { s.yard with portF := s.yard.portF.forward f } }
  | .F => { s with desk := s.desk.forward f }

/-! ## Frames on Port F (R151) -/

/-- The Level Unit takes a sample that a channel matches, and tells the Mode Controller of a HEADWATER derivation (R45, R125), after the last
step of R48 (log entry 40). -/
def State.takeSample (s : State) (x : Sample) : State :=
  match s.tables.sampleChannel x with
  | none => s
  | some c =>
    let s' := State.deriveRole (s.gradeSample c x) (s.tables.channelCfg c).role
    if (s.tables.channelCfg c).role = .headwater then s'.startWaitHeadwater else s'

/-- A frame received on Port F (R148, R151). -/
def State.receiveF (s : State) (f : BusFrame) : State :=
  if !busFrameValid .F f then s.busError .F
  else if f.kind = kindSample then (s.takeSample (readSample f)).forwardFrom .F f
  else if f.kind = kindReport then (s.offerReport f.source.toNat (readReport f)).forwardFrom .F f
  else s.forwardFrom .F f

/-! ## Orders (R92 to R94) -/

/-- The opening of an ORDER after the first step of its clamp (R93). -/
def Order.firstStep (o : Order) : Nat := min o.opening 1000

/-- The result of an order and the opening as taken (R92, R93). -/
def State.judgeOrder (s : State) (i : Fin 16) (o : Order) : OrderResult × Nat :=
  if s.mdc.mode ≠ .govern then (.refusedMode, o.firstStep)
  else if (s.gate i).state = .unseen ∨ (s.gate i).state = .faulted then (.refusedGate, o.firstStep)
  else
    let taken := (s.cfg i).clamp o.firstStep
    (if taken = o.opening then .accepted else .clamped, taken)

/-- Whether an order of a result fills its slot (R92). -/
def OrderResult.fills : OrderResult → Bool
  | .accepted | .clamped => true
  | .refusedMode | .refusedGate => false

/-- The order slot that an order fills (R94); a hold of 0 makes it visible at once. -/
def slotOf (o : Order) (taken : Nat) (now : Tick) : OrderSlot :=
  { opening := taken, holdEnd := now + o.hold, visible := o.hold == 0, lockAfter := o.lockAfter, tag := o.tag }

/-- The ANSWER of an order (R93, R171). -/
def answerFrame (i : Fin 16) (o : Order) (r : OrderResult) (opening : Nat) : BusFrame :=
  makeBusFrame controlAddress partAddress kindAnswer
    ([o.tag] ++ beBytes 1 i.val ++ beBytes 1 r.code ++ beBytes 2 opening)

/-- An order that has room is judged, fills its slot where it is taken, and is answered (R92 to R94). -/
def State.answerOrder (s : State) (i : Fin 16) (o : Order) : State :=
  let j := s.judgeOrder i o
  let s' := if j.1.fills then s.setGate i { s.gate i with slot := some (slotOf o j.2 s.now) } else s
  s'.pushOwn (answerFrame i o j.1 j.2)

/-- An intercepted ORDER: an arrival from the control computer, then dropped for want of room or answered (R92). -/
def State.takeOrder (s : State) (i : Fin 16) (o : Order) : State :=
  if s.ownFull then s.controlHeard.dropOwn else s.controlHeard.answerOrder i o

/-! ## DRIVE frames (R99, R100) -/

/-- The gates that a DRIVE frame from Port L would reach around the part: that of a governed address, or every in-service gate for
the broadcast address; none where it reaches no governed drive (R91, R99). -/
def Tables.bypassed (t : Tables) (destination : Byte) : Option (List (Fin 16)) :=
  if destination = broadcast then (if t.gates.isValid then some t.inServiceGates else none)
  else (t.governedGate destination.toNat).map (fun i => [i])

/-- A DRIVE frame received on Port L (R99). -/
def State.takeDrive (s : State) (f : BusFrame) : State :=
  match s.tables.bypassed f.destination with
  | some l =>
    if s.mdc.mode.supervised then l.foldl (fun s i => s.raise (.bypassBlocked i)) s else s.forwardFrom .L f
  | none => s.forwardFrom .L f

/-! ## Management frames (R156) -/

/-- A request is carried out by the meaning of its command. -/
def Request.exec : Request → State → Host.Outcome State Fault Refusal
  | .readStatus => execReadStatus
  | .readGate g => execReadGate g
  | .readChannel c => execReadChannel c
  | .readConditions n => execReadConditions n
  | .readPorts => execReadPorts
  | .readTable t o => execReadTable t o
  | .ackCondition k u => execAckCondition k u
  | .loadBegin t n => execLoadBegin t n
  | .loadSegment o d => execLoadSegment o d
  | .loadEnd c => execLoadEnd c
  | .loadAbort => execLoadAbort
  | .save => execSave
  | .enter => execEnter
  | .resume => execResume
  | .freeze => execFreeze
  | .configure => execConfigure
  | .restoreForecast => execRestoreForecast
  | .clearGate g => execClearGate g
  | .restart => execRestart

/-- A request the part does not know, or with arguments of another length: dropped where the own queue is full, else answered
UNKNOWN_REQUEST in every mode (R156). The request code returned is the first payload byte; a free value where there is none (log
entry 10). -/
def State.unknownRequest (s : State) (payload : List Byte) : State :=
  if s.ownFull then s.dropOwn
  else
    match payload with
    | code :: _ => s.reply code .unknownRequest []
    | [] => State.reply { s with draws := s.draws + 1 } (Config.missingRequestCode s.draws) .unknownRequest []

/-- A MANAGE frame to the part (R156). -/
def State.manage (s : State) (payload : List Byte) : Host.Outcome State Fault Refusal :=
  match parseRequest payload with
  | some r => r.exec s
  | none => .next (s.unknownRequest payload)

/-! ## Frames on Port L (R150) -/

/-- A frame received on Port L (R148, R150). -/
def State.receiveL (s : State) (f : BusFrame) : Host.Outcome State Fault Refusal :=
  if !busFrameValid .L f then .next (s.busError .L)
  else if f.kind = kindOrder then
    match s.tables.governedGate f.destination.toNat with
    | some i => .next (s.takeOrder i (readOrder f))
    | none => .next (s.forwardFrom .L f)
  else if f.kind = kindDrive then .next (s.takeDrive f)
  else if f.kind = kindKeepalive ∧ f.destination = partAddress then .next s.controlHeard
  else if f.kind = kindManage ∧ f.destination = partAddress then s.manage f.payload
  else .next (s.forwardFrom .L f)

/-- A frame received on a station-bus port. -/
def State.receive (s : State) (p : BusPort) (f : BusFrame) : Host.Outcome State Fault Refusal :=
  match p with
  | .L => s.receiveL f
  | .F => .next (s.receiveF f)

/-! ## Meanings of the frame rows -/

/-- SAMPLE_RECEIVED (R45): a frame on Port F. -/
def execSampleReceived (f : BusFrame) (s : State) : Host.Outcome State Fault Refusal := s.receive .F f

/-- REPORT_RECEIVED (R23): a frame on Port F. -/
def execReportReceived (f : BusFrame) (s : State) : Host.Outcome State Fault Refusal := s.receive .F f

/-- ORDER_RECEIVED (R92): a frame on Port L. -/
def execOrderReceived (f : BusFrame) (s : State) : Host.Outcome State Fault Refusal := s.receive .L f

/-- KEEPALIVE_RECEIVED (R98): a frame on Port L. -/
def execKeepaliveReceived (f : BusFrame) (s : State) : Host.Outcome State Fault Refusal := s.receive .L f

/-- DRIVE_FRAME_RECEIVED (R99): a frame on Port L. -/
def execDriveFrameReceived (f : BusFrame) (s : State) : Host.Outcome State Fault Refusal := s.receive .L f

/-- FRAME_FORWARD (R152): a frame on either port. -/
def execFrameForward (p : BusPort) (f : BusFrame) (s : State) : Host.Outcome State Fault Refusal := s.receive p f

/-- MANAGE_UNKNOWN_REQUEST (R156): a frame on Port L. -/
def execManageUnknownRequest (f : BusFrame) (s : State) : Host.Outcome State Fault Refusal := s.receive .L f

/-- RECEIVE_ERROR_DISCARD (R148): bytes on a station-bus port; too few bytes for an envelope fail the length check (log entry 8). -/
def execReceiveErrorDiscard (p : BusPort) (raw : List Byte) (s : State) : Host.Outcome State Fault Refusal :=
  match readBusWire raw with
  | some f => s.receive p f
  | none => .next (s.busError p)

/-! ## Transmit completions (R155) -/

/-- Whether a frame is the REPLY to RESTART with result DONE (R135, R155; log entry 30). -/
def isRestartReply (f : BusFrame) : Bool := f.kind == kindReply && f.payload == [19#8, 0#8]

/-- Whether the frame that Port L is sending is the REPLY on which a pending restart waits (R135). -/
def State.restartDue (s : State) : Bool :=
  match s.desk.portL.sending with
  | some (.own f) => s.mdc.restartPending && isRestartReply f
  | _ => false

/-- TRANSMIT_COMPLETION (R155): the transmitter becomes idle and takes its next frame; on Port L the DONE reply to RESTART restarts
the part (R135). -/
def execTransmitCompletion (p : BusPort) (s : State) : Host.Outcome State Fault Refusal :=
  match p with
  | .L =>
    if s.desk.portL.sending.isNone then .next s
    else if s.restartDue then .next s.restartEffect
    else .next { s with desk := Desk.kick { s.desk with portL := { s.desk.portL with sending := none } } }
  | .F =>
    if s.yard.portF.sending.isNone then .next s
    else .next { s with yard := { s.yard with portF := PortF.start { s.yard.portF with sending := none } } }

/-! ## Stale watches (R46) -/

/-- STALE_WATCH_EXPIRY (R46): the channel goes STALE and its role is derived again. -/
def execStaleWatchExpiry (c : Fin 8) (s : State) : Host.Outcome State Fault Refusal :=
  if s.staleDue c then
    let s' := s.goStale c
    .next (if (s.tables.channelCfg c).role = .headwater then s'.startWaitHeadwater else s')
  else .next s

end Sys2Proof.Machine
end

