-- ==== Sys2Proof/Machine/Dispatch.lean ====
section
/-! DEFINITION. One arm for each row of the table: a direct call of the row's meaning. -/

namespace Sys2Proof.Machine

/-- What a command does to everything but the queue of commands. -/
def exec (i : Instr) (s : State) : Host.Outcome State Fault Refusal :=
  match i with
  | .powerOn modePins => Sys2Proof.Machine.execPowerOn modePins s
  | .flashReadCompletion => Sys2Proof.Machine.execFlashReadCompletion s
  | .startWaitExpiry => Sys2Proof.Machine.execStartWaitExpiry s
  | .sampleReceived f => Sys2Proof.Machine.execSampleReceived f s
  | .reportReceived f => Sys2Proof.Machine.execReportReceived f s
  | .orderReceived f => Sys2Proof.Machine.execOrderReceived f s
  | .keepaliveReceived f => Sys2Proof.Machine.execKeepaliveReceived f s
  | .driveFrameReceived f => Sys2Proof.Machine.execDriveFrameReceived f s
  | .frameForward p f => Sys2Proof.Machine.execFrameForward p f s
  | .manageUnknownRequest f => Sys2Proof.Machine.execManageUnknownRequest f s
  | .readStatus => Sys2Proof.Machine.execReadStatus s
  | .readGate gate => Sys2Proof.Machine.execReadGate gate s
  | .readChannel channel => Sys2Proof.Machine.execReadChannel channel s
  | .readConditions start => Sys2Proof.Machine.execReadConditions start s
  | .readPorts => Sys2Proof.Machine.execReadPorts s
  | .readTable table offset => Sys2Proof.Machine.execReadTable table offset s
  | .ackCondition kind subject => Sys2Proof.Machine.execAckCondition kind subject s
  | .loadBegin table length => Sys2Proof.Machine.execLoadBegin table length s
  | .loadSegment offset data => Sys2Proof.Machine.execLoadSegment offset data s
  | .loadEnd crc => Sys2Proof.Machine.execLoadEnd crc s
  | .loadAbort => Sys2Proof.Machine.execLoadAbort s
  | .loadIdleExpiry => Sys2Proof.Machine.execLoadIdleExpiry s
  | .save => Sys2Proof.Machine.execSave s
  | .flashWriteCompletion readBack => Sys2Proof.Machine.execFlashWriteCompletion readBack s
  | .enter => Sys2Proof.Machine.execEnter s
  | .resume => Sys2Proof.Machine.execResume s
  | .freeze => Sys2Proof.Machine.execFreeze s
  | .configure => Sys2Proof.Machine.execConfigure s
  | .restoreForecast => Sys2Proof.Machine.execRestoreForecast s
  | .clearGate gate => Sys2Proof.Machine.execClearGate gate s
  | .restart => Sys2Proof.Machine.execRestart s
  | .releaseReceived f => Sys2Proof.Machine.execReleaseReceived f s
  | .acceptReceived f => Sys2Proof.Machine.execAcceptReceived f s
  | .linkcheckReceived p f => Sys2Proof.Machine.execLinkcheckReceived p f s
  | .transmitCompletion p => Sys2Proof.Machine.execTransmitCompletion p s
  | .reachTransmitCompletion p => Sys2Proof.Machine.execReachTransmitCompletion p s
  | .seenWatchExpiry g => Sys2Proof.Machine.execSeenWatchExpiry g s
  | .recoveringExpiry g => Sys2Proof.Machine.execRecoveringExpiry g s
  | .tcyWaitExpiry g => Sys2Proof.Machine.execTcyWaitExpiry g s
  | .unlockingExpiry g => Sys2Proof.Machine.execUnlockingExpiry g s
  | .lockAllowedExpiry g => Sys2Proof.Machine.execLockAllowedExpiry g s
  | .lockingExpiry g => Sys2Proof.Machine.execLockingExpiry g s
  | .spillRunExpiry g => Sys2Proof.Machine.execSpillRunExpiry g s
  | .reversalDwellExpiry g => Sys2Proof.Machine.execReversalDwellExpiry g s
  | .moveWatchExpiry g => Sys2Proof.Machine.execMoveWatchExpiry g s
  | .silenceWatchExpiry g => Sys2Proof.Machine.execSilenceWatchExpiry g s
  | .lagWatchExpiry g => Sys2Proof.Machine.execLagWatchExpiry g s
  | .spacingExpiry k => Sys2Proof.Machine.execSpacingExpiry k s
  | .governingRound => Sys2Proof.Machine.execGoverningRound s
  | .refreshTimerExpiry => Sys2Proof.Machine.execRefreshTimerExpiry s
  | .orderHoldExpiry g => Sys2Proof.Machine.execOrderHoldExpiry g s
  | .orderTimerExpiry => Sys2Proof.Machine.execOrderTimerExpiry s
  | .staleWatchExpiry c => Sys2Proof.Machine.execStaleWatchExpiry c s
  | .reachSilenceExpiry p => Sys2Proof.Machine.execReachSilenceExpiry p s
  | .linkPeriodExpiry p => Sys2Proof.Machine.execLinkPeriodExpiry p s
  | .forecastDueExpiry => Sys2Proof.Machine.execForecastDueExpiry s
  | .receiveErrorDiscard p raw => Sys2Proof.Machine.execReceiveErrorDiscard p raw s
  | .reachReceiveError p raw => Sys2Proof.Machine.execReachReceiveError p raw s

end Sys2Proof.Machine
end

