-- ==== Sys2Proof/Machine/Clock.lean ====
section
/-! DEFINITION. The part's own time: the expiries that are due at the present tick, the grants in flight, and what the part does when no
command waits (00_scope.md 2.2; log entry 1). -/

namespace Sys2Proof.Machine

/-- A command if it is due. -/
def dueIf (b : Bool) (i : Instr) : List Instr := if b then [i] else []

/-- The expiries of one gate that are due (R8 to R10, R13, R14, R16, R20, R22, R25, R26, R95). -/
def State.gateDue (s : State) (i : Fin 16) : List Instr :=
  List.flatten
    [dueIf (s.timerDueIn i .unseen) (.seenWatchExpiry i), dueIf (s.timerDueIn i .recovering) (.recoveringExpiry i),
     dueIf (s.timerDueIn i .locked) (.tcyWaitExpiry i), dueIf (s.timerDueIn i .unlocking) (.unlockingExpiry i),
     dueIf (s.timerDueIn i .free) (.lockAllowedExpiry i), dueIf (s.timerDueIn i .locking) (.lockingExpiry i),
     dueIf (s.timerDueIn i .moving) (.spillRunExpiry i), dueIf (s.timerDueIn i .reversing) (.reversalDwellExpiry i),
     dueIf (s.moveWatchDue i) (.moveWatchExpiry i), dueIf (s.silenceWatchDue i) (.silenceWatchExpiry i),
     dueIf (s.lagDue i) (.lagWatchExpiry i), dueIf (s.holdDue i) (.orderHoldExpiry i)]

/-- The expiries of the station and its links that are due (R37, R46, R69, R105, R106, R110, R118, R125, R129, R161). -/
def State.stationDue (s : State) : List Instr :=
  List.flatten
    [dueIf (s.startWaitDue) .startWaitExpiry, dueIf (timerDue s.mdc.orderTimer s.now) .orderTimerExpiry,
     dueIf (timerDue s.rgv.roundTimer s.now) .governingRound, dueIf (timerDue s.csu.refreshTimer s.now) .refreshTimerExpiry,
     dueIf s.forecastDue .forecastDueExpiry, dueIf s.loadIdleDue .loadIdleExpiry,
     dueIf (s.silenceDue .U) (.reachSilenceExpiry .U), dueIf (s.silenceDue .D) (.reachSilenceExpiry .D),
     dueIf (s.periodDue .U) (.linkPeriodExpiry .U), dueIf (s.periodDue .D) (.linkPeriodExpiry .D),
     ([0, 1, 2, 3] : List (Fin 4)).flatMap (fun k => dueIf (timerDue (s.group k).spacingTimer s.now) (.spacingExpiry k)),
     allChannels.flatMap (fun c => dueIf (s.staleDue c) (.staleWatchExpiry c))]

/-- Every expiry that is due at the present tick. -/
def State.dueEvents (s : State) : List Instr := s.stationDue ++ allGates.flatMap s.gateDue

/-- An event of the part's own: an expiry, or a grant in flight that reaches its gate (R39; log entry 34). -/
inductive OwnEvent
  | expiry (c : Instr)
  | grant (i : Fin 16)
  deriving DecidableEq, Repr

/-- What an event of the part's own does. -/
def OwnEvent.exec : OwnEvent → State → Host.Outcome State Fault Refusal
  | .expiry c, s => Machine.exec c s
  | .grant i, s => .next { s with yard := Yard.deliverGrant s.yardEnv i s.yard }

/-- The events of the part's own that come at the present tick. -/
def State.ownEvents (s : State) : List OwnEvent := s.dueEvents.map .expiry ++ s.yard.inFlight.map .grant

/-- What the part does when no command waits: it takes one of its own events, in an order that the manual leaves free, and where there is
none the station tick advances (DESIGN CHOICE, log entry 1). -/
def State.idle (s : State) : Host.Outcome State Fault Refusal :=
  match s.ownEvents with
  | [] => .next { s with now := s.now + 1 }
  | e :: r => ((e :: r).getD (Config.tieBreak s.draws % (r.length + 1)) e).exec { s with draws := s.draws + 1 }

end Sys2Proof.Machine
end

