-- ==== Sys2Proof/WellFormed.lean ====
section
/-! DEFINITION. Which commands are well formed: a command for the arrival of a frame carries a frame of its row's kind, a
request carries as many data bytes as it takes, and the two rows for bad frames carry bytes that no check passes. An ill-formed
command still has a meaning: what it carries is judged as it stands (log entry 9). -/

namespace Sys2Proof

open Sys2Proof.Machine

/-- The checks of a command's operands. -/
def wellFormed : Instr → Bool
  | .sampleReceived f => f.kind == kindSample
  | .reportReceived f => f.kind == kindReport
  | .orderReceived f => f.kind == kindOrder
  | .keepaliveReceived f => f.kind == kindKeepalive && f.destination == partAddress
  | .driveFrameReceived f => f.kind == kindDrive
  | .frameForward p f => !(p == .L && f.kind == kindManage && f.destination == partAddress)
  | .manageUnknownRequest f =>
    f.kind == kindManage && f.destination == partAddress && (parseRequest f.payload).isNone
  | .loadSegment _ d => segmentLengthOk d
  | .flashWriteCompletion (some b) => decide (5 ≤ b.length)
  | .releaseReceived f => f.kind == reachRelease
  | .acceptReceived f => f.kind == reachAccept
  | .linkcheckReceived _ f => f.kind == reachLinkcheck
  | .receiveErrorDiscard p raw =>
    match readBusWire raw with
    | some f => !busFrameValid p f
    | none => true
  | .powerOn _ | .flashReadCompletion | .startWaitExpiry | .readStatus | .readGate _ | .readChannel _ | .readConditions _
  | .readPorts | .readTable _ _ | .ackCondition _ _ | .loadBegin _ _ | .loadEnd _ | .loadAbort | .loadIdleExpiry | .save
  | .flashWriteCompletion none | .enter | .resume | .freeze | .configure | .restoreForecast | .clearGate _ | .restart
  | .transmitCompletion _ | .reachTransmitCompletion _ | .seenWatchExpiry _ | .recoveringExpiry _ | .tcyWaitExpiry _
  | .unlockingExpiry _ | .lockAllowedExpiry _ | .lockingExpiry _ | .spillRunExpiry _ | .reversalDwellExpiry _
  | .moveWatchExpiry _ | .silenceWatchExpiry _ | .lagWatchExpiry _ | .spacingExpiry _ | .governingRound
  | .refreshTimerExpiry | .orderHoldExpiry _ | .orderTimerExpiry | .staleWatchExpiry _ | .reachSilenceExpiry _
  | .linkPeriodExpiry _ | .forecastDueExpiry | .reachReceiveError _ _ => true

/-- A command whose operands pass the checks. -/
abbrev WellFormed (i : Instr) : Prop := wellFormed i = true

end Sys2Proof
end

