-- ==== Sys2Proof/Safety.lean ====
section
/-! DEFINITION. The terms in which claims speak: when a request is routed, what a port carries, and the invariants of the part's
queues, notices, forecast and timers. -/

namespace Sys2Proof.Machine

/-- A request with room for its reply, outside STARTING: it is routed to its block (R156). -/
abbrev State.Routed (s : State) : Prop := s.ownFull = false ∧ s.mdc.mode ≠ .starting

/-- Port F carries a DRIVE frame for a gate: it waits in the drive queue or is being sent. -/
abbrev PortF.Carries (p : PortF) (e : DriveEntry) : Prop := e ∈ p.drive ∨ p.sending = some (.drive e)

/-- The DRIVE frame of a command to a gate, as an entry of the drive queue (R6). -/
def State.command (s : State) (i : Fin 16) (c : DriveCommand) (setpoint : Nat) : DriveEntry :=
  { gate := i, frame := driveFrame (s.cfg i).driveAddress c setpoint }

/-- A condition stands raised: active and latched (R139). -/
abbrev State.Raised (s : State) (c : Cond) : Prop := s.active c = true ∧ s.latched c = true

/-- An operating table after a swap: a READY image becomes the active copy and leaves the shadow; any other table stays (R71). -/
def OpTable.swapped {α : Type} (o : OpTable α) : OpTable α :=
  match o.shadow with
  | .ready x => { active := .valid x, shadow := .none }
  | _ => o

/-- The tables after the swap at stage 1 of a round (R71). -/
def Tables.swapped (t : Tables) : Tables :=
  { t with
    ramp := t.ramp.swapped, flood := t.flood.swapped, accept := t.accept.swapped, reach := t.reach.swapped, fill := t.fill.swapped }

/-- From `s` to `t` a RELEASE with an outflow is placed pending on Port D, or begins with a sequence where the transmitter is idle; it is
the last one notified, at the present tick, and the refresh timer restarts where the refresh is above 0 (R118, R119). -/
def State.Notified (s t : State) (outflow sequence : Nat) : Prop :=
  let refresh := s.tables.stationOr.noticeRefresh
  t.csu.lastNotified = some outflow ∧ t.csu.lastRelease = some s.now ∧
  t.csu.refreshTimer = (if 0 < refresh then some (s.now + refresh) else none) ∧
  (s.portD.sending.isSome = true → t.portD = { s.portD with pendingRelease := some outflow }) ∧
  (s.portD.sending = none →
    t.portD = { s.portD with
      pendingRelease := none
      sending := some (makeReachFrame (BitVec.ofNat 8 s.tables.stationOr.stationNumber) 1 (BitVec.ofNat 8 sequence)
        (beBytes 4 outflow)) } ∧
    t.csu.outSequence = (sequence + 1) % 256)

/-- From `s` to `t` no release notice goes out, and what the Cascade Unit holds of the last one stays (R118). -/
def State.NotNotified (s t : State) : Prop :=
  t.csu.lastNotified = s.csu.lastNotified ∧ t.csu.lastRelease = s.csu.lastRelease ∧ t.portD = s.portD

/-- From `s` to `t` the refresh timer is set as at an entry to GOVERN or FALLBACK: to the last RELEASE tick plus the refresh, or to the
present tick where that has passed or there is none. With a refresh of 0 it is not set, and a RELEASE with the planned outflow is placed
pending on a present Port D where none was before (R118). The sequence it takes is the outgoing one, but for a RELEASE that waited on
Port U, where none ever does. -/
def State.RefreshSet (s t : State) : Prop :=
  let refresh := s.tables.stationOr.noticeRefresh
  (0 < refresh → s.NotNotified t ∧
    t.csu.refreshTimer = some (match s.csu.lastRelease with | some r => max s.now (r + refresh) | none => s.now)) ∧
  (refresh = 0 → s.csu.lastRelease = none → s.portPresent .D = true →
    ∃ n, s.Notified t s.rgv.planned n ∧ (s.portU.pendingRelease = none → n = s.csu.outSequence)) ∧
  (refresh = 0 → s.csu.lastRelease ≠ none ∨ s.portPresent .D = false →
    s.NotNotified t ∧ t.csu.refreshTimer = s.csu.refreshTimer)

/-- From `s` to `t` the station has entered GOVERN, but for the levels, the regime and the notices of that event: mode, timers, standing
targets and the refresh timer (R97, R118, R128, R129). -/
def State.EntersGovern (s t : State) : Prop :=
  let st := s.tables.stationOr
  t.mdc = { s.mdc with
    mode := .govern, phase := none, startWait := none, startReason := none, controlPresent := false
    orderTimer := if 0 < st.orderTimeout then some (s.now + st.orderTimeout) else none } ∧
  t.rgv = { s.rgv with roundTimer := some (s.now + st.roundInterval) } ∧ s.RefreshSet t ∧
  (∀ i, (t.gate i).commanded = (s.gate i).commanded ∧
    (t.gate i).standing =
      (match (s.gate i).commanded with
       | some q => { opening := some q, lockAfter := true, origin := .position }
       | none => (s.gate i).standing))

/-! ## Invariants -/

/-- The port queues hold no more than their places: 8 frames in a general queue, 8 in the own queue with the SAVE place, one DRIVE
frame for a gate; a SAVE in flight holds its place (R147, R152 to R154, R168). -/
def State.QueuesOk (s : State) : Prop :=
  s.desk.portL.general.length ≤ 8 ∧ s.desk.portL.ownTotal ≤ 8 ∧ s.yard.portF.general.length ≤ 8 ∧
  (s.yard.portF.drive.map (·.gate)).Nodup ∧ (s.saving.isSome = true → s.desk.portL.savePlace = true)

/-- The notice queue holds at most 16 entries, highest level first, one for a condition, each of a latched record (R142). -/
def State.NoticesOk (s : State) : Prop :=
  s.desk.notices.length ≤ 16 ∧ s.desk.notices.Pairwise (fun a b => b.level ≤ a.level) ∧
  (s.desk.notices.map (·.cond)).Nodup ∧
  ∀ e ∈ s.desk.notices, e.cond ≠ .noticeLost ∧ s.latched e.cond = true

/-- The forecast queue holds at most 32 entries, their due ticks never falling (R109). -/
def State.ForecastOk (s : State) : Prop :=
  s.csu.queue.length ≤ 32 ∧ s.csu.queue.Pairwise (fun a b => a.due ≤ b.due)

/-- The timers, flags and order slots that a mode allows (R69, R94 to R96, R118, R121, R125, R129 to R131, R168). -/
def State.ModeOk (s : State) : Prop :=
  s.rgv.roundTimer.isSome = s.mdc.mode.governing ∧
  (s.mdc.orderTimer.isSome = true → s.mdc.mode.governing = true) ∧
  (s.csu.refreshTimer.isSome = true → s.mdc.mode.governing = true) ∧
  (s.mdc.controlPresent = true → s.mdc.mode = .fallback) ∧
  (s.mdc.phase.isSome = true → s.mdc.mode = .starting) ∧
  (s.boot.isSome = true ↔ s.mdc.phase = some .bootRead) ∧
  (s.mdc.startWait.isSome = true ↔ s.mdc.phase = some .startWait) ∧
  (s.saving.isSome = true → s.mdc.mode = .config ∧ s.load = none) ∧
  (∀ i, (s.gate i).slot.isSome = true → s.mdc.mode = .govern)

end Sys2Proof.Machine
end

