-- ==== Sys2Proof/Certificates/Slice0/Obligations.lean ====
section
/-! DEFINITION. The statements for the provers. Each docstring names the rules it rests on. A clause `t = { s with … := t.… }` is the
frame: everything the braces do not name is as before. -/

open Sys2Proof Sys2Proof.Machine

/-! ## The queue of commands, resets and the boot read -/

/-- A step with a command at the front of the queue is that command's meaning on the state with the queue's rest. -/
def Obligations.StepTakesTheFrontCommand : Prop :=
  ∀ (c : Instr) (rest : List Instr) (s : State),
    step { s with pending := c :: rest } = exec c { s with pending := rest }

/-- On an empty queue the part takes one of its own events, an expiry that is due or a grant in flight that reaches its gate; where there is none the
station tick goes up by 1 and nothing else changes. The model's choice: log entries 1 and 34. -/
def Obligations.IdleStepsTakeDueExpiriesOrTick : Prop :=
  ∀ s : State, s.pending = [] →
    (s.dueEvents = [] → s.yard.inFlight = [] → step s = .next { s with now := s.now + 1 }) ∧
    (¬(s.dueEvents = [] ∧ s.yard.inFlight = []) →
      (∃ e ∈ s.dueEvents, step s = exec e { s with draws := s.draws + 1 }) ∨
      (∃ i ∈ s.yard.inFlight, step s = .next { s with
        draws := s.draws + 1, yard := Yard.deliverGrant { s.yardEnv with draws := s.draws + 1 } i s.yard }))

/-- POWER_ON leaves the reset values, with the flash kept, and starts by the MODE pins (R121, R122). With the pins at 00 that is the model's reset
state; with 10 or 11 the part is in CONFIG at once with every table ABSENT. That a slot being written by a SAVE is left torn is the model's choice
(log entry 6), for R168 names RESTART alone. -/
def Obligations.PowerOnStartsByTheModePins : Prop :=
  ∀ (pins : BitVec 2) (s : State), ∃ t, exec (.powerOn pins) s = .next t ∧
    t = { State.reset with
          mdc := t.mdc, boot := t.boot, flash := s.cutSave, draws := s.draws, pending := s.pending } ∧
    (pins = 0b00#2 → t.mdc = { source := .flashAuto, phase := some .bootRead } ∧ t.boot = some { slot := 0, outcomes := [] }) ∧
    (pins = 0b01#2 → t.mdc = { source := .flashHold, phase := some .bootRead } ∧ t.boot = some { slot := 0, outcomes := [] }) ∧
    (pins = 0b10#2 ∨ pins = 0b11#2 → t.mdc = { mode := .config, source := .bus } ∧ t.boot = none)

/-- A FLASH_READ_COMPLETION before the last slot judges the slot being read, holds its outcome and goes on to the next slot; no table
changes yet. The last one, of a flash that holds no marker in any slot, leaves every table as it was, and a flash start stops in CONFIG;
FLASH_AUTO fails its start check on the STATION table. In general the last one gives every table its outcome, with LOAD_FAILED raised for each
bad slot and for no other; FLASH_HOLD stops in CONFIG; FLASH_AUTO stops in CONFIG with the reason where the entry check fails, governs where
headwater is valid, and else waits for one seen timeout, which fails at once where that is 0. The owners take the tables that are VALID: the seen watch of each UNSEEN in-service gate and
the stale watch of each channel in use start, each present reach port starts its timers, without Port U the forecast is reset, the tailwater default, the effective upstream outflow and the own
acceptance follow their tables (R8, R46, R49, R103, R111, R116, R120, R124, R125, R164, R169). -/
def Obligations.BootReadsJudgeEverySlot : Prop :=
  (∀ (s : State) (b : BootRead) (h : b.slot.val + 1 < 18), s.boot = some b →
    exec .flashReadCompletion s = .next { s with
      boot := some
        { slot := ⟨b.slot.val + 1, h⟩
          outcomes := b.outcomes ++ [judgeSlot (TableId.ofIndex b.slot) s.flash[b.slot]] } }) ∧
  (∀ (s : State), s.boot = some { slot := 17, outcomes := List.replicate 17 .absent } →
    judgeSlot .fill s.flash[(17 : Fin 18)] = .absent → s.tables = {} → s.mdc.source ≠ .bus →
    ∃ t, exec .flashReadCompletion s = .next t ∧ t.tables = {} ∧ t.boot = none ∧ t.flash = s.flash ∧
      t.mdc.mode = .config ∧ t.mdc.phase = none ∧ t.mdc.source = s.mdc.source ∧
      (s.mdc.source = .flashAuto → t.mdc.startReason = some (.table .station))) ∧
  (∀ (s : State) (l : List BootOutcome), s.boot = some { slot := 17, outcomes := l } → l.length = 17 → s.tables = {} →
    (∀ (id : TableId) (d : TableData), l[id.index.val]? = some (.valid d) → ∃ b, parseTable id b = some d) →
    let found (id : TableId) : Option BootOutcome := (l ++ [judgeSlot .fill s.flash[(17 : Fin 18)]])[id.index.val]?
    ∃ t, exec .flashReadCompletion s = .next t ∧ t.boot = none ∧ t.flash = s.flash ∧ t.mdc.source = s.mdc.source ∧
      (∀ id, found id = some .absent → t.tables.stateCode id = 0) ∧
      (∀ id, found id = some .invalid → t.tables.stateCode id = 3 ∧ t.Raised (.loadFailed id)) ∧
      (∀ id, found id ≠ some .invalid → t.desk.record (.loadFailed id) = s.desk.record (.loadFailed id)) ∧
      (∀ id d, found id = some (.valid d) → t.tables.data? id = some d) ∧
      (s.mdc.source ≠ .flashAuto → t.mdc.mode = .config ∧ t.mdc.phase = none) ∧
      (s.mdc.source = .flashAuto →
        let wait := t.tables.stationOr.seenTimeout
        (∀ r, t.tables.entryCheck = some r → t.mdc.mode = .config ∧ t.mdc.phase = none ∧ t.mdc.startReason = some r) ∧
        (t.tables.entryCheck = none → s.lvu.headwater ≠ none → t.mdc.mode = .govern ∧ t.mdc.phase = none) ∧
        (t.tables.entryCheck = none → s.lvu.headwater = none →
          (wait = 0 → t.mdc.mode = .config ∧ t.mdc.phase = none ∧ t.Raised .levelLost) ∧
          (0 < wait → t.mdc = { s.mdc with phase := some .startWait, startWait := some (s.now + wait) }))) ∧
      (∀ i, (t.cfg i).inService = true → (s.gate i).state = .unseen →
        (t.gate i).state = .unseen ∧ (t.gate i).stateTimer = t.tables.station.get?.map (fun st => s.now + st.seenTimeout)) ∧
      (∀ c : Fin 8, t.lvu.channels[c] =
        if (t.tables.channelCfg c).role = .unused then s.lvu.channels[c]
        else { s.lvu.channels[c] with staleWatch := some (s.now + (t.tables.channelCfg c).staleLimit) }) ∧
      (∀ st, t.tables.station = .valid st → t.stationValidSince = some s.now ∧
        (s.lvu.tailSource = .default → t.lvu.tailwater = st.tailwaterDefault) ∧
        (t.portPresent .U = true →
          t.portU.silence = some (s.now + st.linkTimeout) ∧ t.portU.period = some (s.now + st.linkPeriod)) ∧
        (t.portPresent .D = true →
          t.portD.silence = some (s.now + st.linkTimeout) ∧ t.portD.period = some (s.now + st.linkPeriod)) ∧
        (t.portPresent .U = false →
          t.csu.queue = [] ∧ t.csu.forecast = .tracking ∧ t.csu.upstreamSource = .initial ∧
          t.csu.upstream = t.tables.initialUpstream)) ∧
      (∀ r, t.tables.reach.active = .valid r → s.csu.upstreamSource = .initial → t.csu.upstream = r.initial) ∧
      (t.tables.accept.active.isValid = true → t.csu.ownAcceptance = t.ownAcceptanceNow))

/-! ## Images, requests and codes -/

/-- A table image that passes its content check is written back byte for byte from the contents held, so that READ_TABLE and SAVE give
the image that was loaded; a flash slot written with it passes the read-back comparison of SAVE and is judged VALID with the same
contents at the boot read (R167, R168, R169, R172). -/
def Obligations.TableImagesReadBack : Prop :=
  ∀ (id : TableId) (b : List Byte) (d : TableData), parseTable id b = some d →
    d.image = b ∧ slotCrcOk (slotBytes id b) = true ∧ judgeSlot id (.holds (slotBytes id b)) = .valid d

/-- The MANAGE payload that spells a request is read back as that request, and no other payload is (R156, R171). -/
def Obligations.RequestPayloadsReadBack : Prop :=
  (∀ r : Request, (∀ o d, r = .loadSegment o d → segmentLengthOk d = true) → parseRequest r.payload = some r) ∧
  (∀ (p : List Byte) (r : Request), parseRequest p = some r → r.payload = p)

/-! ## Levels -/

/-- A valid SAMPLE on Port F that a channel matches is graded by its quality and the channel's valid range: a usable one is stored and
clears CHANNEL_STALE, any other makes the channel BAD and stores nothing (R45). At the expiry of its stale watch a channel becomes STALE
with its last value kept and its watch stopped, and CHANNEL_STALE is raised (R46). No other channel changes. -/
def Obligations.ChannelsAreGradedAndGoStale : Prop :=
  (∀ (s : State) (f : BusFrame) (c : Fin 8),
    busFrameValid .F f = true → f.kind = kindSample → s.tables.sampleChannel (readSample f) = some c →
    ∃ t, exec (.sampleReceived f) s = .next t ∧
      (∀ d, d ≠ c → t.lvu.channels[d] = s.lvu.channels[d]) ∧
      (let x := readSample f
       let k := s.tables.channelCfg c
       let stored (q : Quality) : Channel :=
         { value := some x.value.toNat, quality := q, lastGood := some s.now, staleWatch := some (s.now + k.staleLimit) }
       if (k.validMin : Int) ≤ x.value ∧ x.value ≤ (k.validMax : Int) ∧ x.quality ≠ .bad then
         t.lvu.channels[c] = stored (if x.quality = .good then .good else .questionable) ∧
         t.active (.channelStale c) = false
       else t.lvu.channels[c] = { s.lvu.channels[c] with quality := .bad })) ∧
  (∀ (s : State) (c : Fin 8) (e : Tick), s.lvu.channels[c].staleWatch = some e → e ≤ s.now →
    ∃ t, exec (.staleWatchExpiry c) s = .next t ∧
      t.lvu.channels[c] = { s.lvu.channels[c] with quality := .stale, staleWatch := none } ∧
      (∀ d, d ≠ c → t.lvu.channels[d] = s.lvu.channels[d]) ∧ t.Raised (.channelStale c))

/-- After a sample of a HEADWATER channel, or its stale expiry, headwater is the median of the usable channels as they then stand, and with it the last
valid headwater, head (clamped to 0 and 200,000), in GOVERN, FALLBACK and FROZEN the flood regime with its hysteresis, and in every mode HEAD_LOW, which
is active exactly below the minimum operating level. Without headwater these keep their values. A loss of headwater raises LEVEL_LOST in GOVERN, FALLBACK
and FROZEN, its return clears the active state in any mode, and the own acceptance is computed again. After a sample or stale expiry of a TAILWATER channel, tailwater is
the median, or else the last valid one, or else the default, with its source, and head follows it. In START_WAIT a valid headwater stops the wait, makes the phase absent and brings the station to
GOVERN, where the regime is evaluated at once; nothing else here changes the mode (R46 to R53, R116, R125, R128). That the entry follows the whole derivation is the model's choice (log entry 40). -/
def Obligations.SamplesDeriveHeadwater : Prop :=
  ∀ (s : State) (c : Fin 8),
    let st := s.tables.stationOr
    let headwater (t : State) : Prop :=
      t.lvu.headwater = median (t.usable .headwater) ∧ t.csu.ownAcceptance = t.ownAcceptanceNow ∧
      (t.lvu.headwater = none →
        t.lvu.lastHeadwater = s.lvu.lastHeadwater ∧ t.lvu.head = s.lvu.lastHead.getD 0 ∧ t.lvu.regime = s.lvu.regime ∧
        t.active .headLow = s.active .headLow) ∧
      (∀ h, t.lvu.headwater = some h →
        t.lvu.lastHeadwater = some h ∧ t.lvu.head = min (h - t.lvu.tailwater) 200000 ∧
        (s.tables.station.isValid = true → t.active .headLow = decide (h < st.minimumLevel)) ∧
        (s.mdc.mode.supervised = true →
          t.lvu.regime =
            (match s.lvu.regime with
             | .normal => if st.floodEntry ≤ h then .flood else .normal
             | .flood => if h ≤ st.floodExit then .normal else .flood) ∧
          (s.lvu.regime = .normal → st.floodEntry ≤ h → t.Raised .headHigh) ∧
          (s.lvu.regime = .flood → h ≤ st.floodExit → t.active .headHigh = false))) ∧
      (s.lvu.headwater ≠ none → t.lvu.headwater = none → s.mdc.mode.supervised = true → t.Raised .levelLost) ∧
      (s.lvu.headwater ≠ none → t.lvu.headwater = none → s.mdc.mode.supervised = false →
        t.desk.record .levelLost = s.desk.record .levelLost) ∧
      (s.lvu.headwater = none → t.lvu.headwater ≠ none → t.active .levelLost = false) ∧
      (¬(s.mdc.mode = .starting ∧ s.mdc.phase = some .startWait) ∨ t.lvu.headwater = none → t.mdc = s.mdc) ∧
      (∀ h, s.mdc.mode = .starting → s.mdc.phase = some .startWait → t.lvu.headwater = some h →
        s.EntersGovern t ∧ t.active .controlSilent = false ∧
        t.lvu.regime =
          (match s.lvu.regime with
           | .normal => if st.floodEntry ≤ h then .flood else .normal
           | .flood => if h ≤ st.floodExit then .normal else .flood) ∧
        (s.lvu.regime = .normal → st.floodEntry ≤ h → t.Raised .headHigh))
    let tailwater (t : State) : Prop :=
      t = { s with lvu := t.lvu, desk := t.desk } ∧ t.lvu.headwater = s.lvu.headwater ∧ t.lvu.regime = s.lvu.regime ∧
      (∀ w, median (t.usable .tailwater) = some w →
        t.lvu.tailwater = w ∧ t.lvu.tailSource = .derived ∧ t.lvu.lastTailwater = some w) ∧
      (median (t.usable .tailwater) = none → t.lvu.lastTailwater = s.lvu.lastTailwater ∧
        (∀ w, s.lvu.lastTailwater = some w → t.lvu.tailwater = w ∧ t.lvu.tailSource = .held) ∧
        (s.lvu.lastTailwater = none → t.lvu.tailwater = st.tailwaterDefault ∧ t.lvu.tailSource = .default)) ∧
      t.lvu.head = (match s.lvu.headwater with | some h => min (h - t.lvu.tailwater) 200000 | none => s.lvu.lastHead.getD 0)
    (∀ f, busFrameValid .F f = true → f.kind = kindSample → s.tables.sampleChannel (readSample f) = some c →
      ((s.tables.channelCfg c).role = .headwater → ∃ t, exec (.sampleReceived f) s = .next t ∧ headwater t) ∧
      ((s.tables.channelCfg c).role = .tailwater → ∃ t, exec (.sampleReceived f) s = .next t ∧ tailwater t)) ∧
    (∀ e, s.lvu.channels[c].staleWatch = some e → e ≤ s.now →
      ((s.tables.channelCfg c).role = .headwater → ∃ t, exec (.staleWatchExpiry c) s = .next t ∧ headwater t) ∧
      ((s.tables.channelCfg c).role = .tailwater → ∃ t, exec (.staleWatchExpiry c) s = .next t ∧ tailwater t))

/-- The median of a non-empty set is the middle value of its ascending order, or the floor of the mean of the two middle values; that
order holds the same values; an empty set has none (R47). -/
def Obligations.MediansAreMiddleValues : Prop :=
  ∀ l : List Nat,
    (sortValues l).Perm l ∧ (sortValues l).Pairwise (· ≤ ·) ∧ (median l = none ↔ l = []) ∧
    (∀ n, l.length = 2 * n + 1 → median l = (sortValues l)[n]?) ∧
    (∀ n a b, l.length = 2 * n + 2 → (sortValues l)[n]? = some a → (sortValues l)[n + 1]? = some b →
      median l = some ((a + b) / 2))

/-! ## Reports and the cycle of a gate -/

/-- A valid REPORT on Port F is stored in every in-service gate with its source as drive address, a position above 1000 as 1000 (R23). Without fault, and with its address for
one gate alone, it is used by that gate's state. Within the band of a wicket gate's move setpoint in MOVING it ends the move: the last move-end tick is recorded, the move setpoint becomes
absent, the move watch stops, and the gate is FREE, or starts a new move toward a target beyond the band; outside that band the move goes on (R5, R17). In GOVERN, FALLBACK and FROZEN, in every state but UNSEEN
and FAULTED, a distance from the commanded setpoint above the lag tolerance sets the lag start tick or keeps it, and one within it makes the tick absent and clears GATE_LAG (R26). In LOCKED
there, a distance from the position at lock within the runaway tolerance clears GATE_RUNAWAY, and one above it in FROZEN raises it with the mode as it is (R27, R132). The first REPORT of an UNSEEN gate there leads to LOCKED,
from where a gate with motion pending waits in FROZEN and may join its queue in GOVERN and FALLBACK, or to RECOVERING with LOCK issued (R7, R9, R10, R97). That this REPORT is not compared for lag is the
model's choice (log entry 13), and so are the standing target of a gate first seen in FALLBACK (log entry 39) and the order of the comparisons in LOCKED (log entry 38). -/
def Obligations.ReportsAreStored : Prop :=
  (∀ (s : State) (f : BusFrame), busFrameValid .F f = true → f.kind = kindReport →
    ∃ t, exec (.reportReceived f) s = .next t ∧
      ∀ i ∈ s.tables.reportGates f.source.toNat,
        (t.gate i).position = some (min (readReport f).position 1000) ∧
        (t.gate i).brake = some (if (readReport f).released then .released else .engaged) ∧
        (t.gate i).running = some (readReport f).running ∧ (t.gate i).fault = some (readReport f).fault ∧
        (t.gate i).lastReport = some s.now) ∧
  ∀ (s : State) (f : BusFrame) (i : Fin 16), busFrameValid .F f = true → f.kind = kindReport →
    s.tables.reportGates f.source.toNat = [i] → (readReport f).fault = false →
    let g := s.gate i
    let c := s.cfg i
    let p := min (readReport f).position 1000
    ∃ t, exec (.reportReceived f) s = .next t ∧
      (∀ m, g.state = .moving → c.kind = .wicket → g.moveSetpoint = some m → c.band < gap p m →
        (t.gate i).state = .moving ∧ (t.gate i).moveSetpoint = some m ∧ (t.gate i).moveWatch = g.moveWatch ∧
        (t.gate i).lastMoveEnd = g.lastMoveEnd ∧ t.yard.portF = s.yard.portF) ∧
      (∀ m q, g.state = .moving → c.kind = .wicket → g.moveSetpoint = some m → gap p m ≤ c.band → g.target = some q →
        (t.gate i).lastMoveEnd = some s.now ∧ (t.gate i).pending = false ∧
        (gap q p ≤ c.band →
          (t.gate i).state = .free ∧ (t.gate i).moveSetpoint = none ∧ (t.gate i).moveWatch = none ∧
          t.yard.portF = s.yard.portF) ∧
        (c.band < gap q p →
          (t.gate i).state = .moving ∧ (t.gate i).moveSetpoint = some q ∧
          (t.gate i).moveWatch = some (s.now + c.moveTimeout) ∧ t.yard.portF.Carries (s.command i .move q))) ∧
      (∀ q, s.mdc.mode.supervised = true → g.state ≠ .unseen → g.state ≠ .faulted → g.commanded = some q →
        (c.lagTolerance < gap p q →
          (t.gate i).lagStart = some (g.lagStart.getD s.now) ∧
          (t.gate i).lagReported = (g.lagStart.isSome && g.lagReported) ∧
          t.desk.record (.gateLag i) = s.desk.record (.gateLag i)) ∧
        (gap p q ≤ c.lagTolerance → (t.gate i).lagStart = none ∧ t.active (.gateLag i) = false)) ∧
      (∀ l, s.mdc.mode.supervised = true → g.state = .locked → g.positionAtLock = some l →
        (gap p l ≤ c.runawayTolerance →
          t.active (.gateRunaway i) = false ∧ t.mdc = s.mdc ∧ (t.gate i).state = .locked ∧ (t.gate i).positionAtLock = some l) ∧
        (c.runawayTolerance < gap p l → s.mdc.mode = .frozen →
          t.Raised (.gateRunaway i) ∧ t.mdc = s.mdc ∧ (t.gate i).state = .locked ∧ (t.gate i).positionAtLock = some l)) ∧
      (s.mdc.mode.supervised = true → g.state = .unseen →
        let q := c.clamp p
        (t.gate i).commanded = some q ∧ (t.gate i).target = some q ∧ (t.gate i).lagStart = g.lagStart ∧
        ((readReport f).released = true →
          (t.gate i).state = .recovering ∧ (t.gate i).stateTimer = some (s.now + c.tLK) ∧
          t.yard.portF.Carries (s.command i .lock 0)) ∧
        ((readReport f).released = false →
          (t.gate i).positionAtLock = some p ∧ (t.gate i).lockAfter = true ∧ (t.gate i).priority = .normal ∧
          (t.gate i).pending = decide (c.band < gap q p) ∧
          (g.standing.opening = none ∨ g.standing.origin = .position →
            (t.gate i).standing = { opening := some q, lockAfter := true, origin := .position }) ∧
          (gap q p ≤ c.band ∨ s.mdc.mode = .frozen → (t.gate i).state = .locked) ∧
          (c.band < gap q p → s.mdc.mode.governing = true → g.lastUnlock = none →
            (t.gate i).state = .waitGrant ∨ (t.gate i).state = .unlocking)))

/-- In STARTING and CONFIG, a REPORT without fault seats a gate that alone has its address. The first REPORT of an UNSEEN gate leads to
LOCKED at the reported position, or to RECOVERING with LOCK issued and tLK running; a REPORT with brake ENGAGED re-seats a LOCKED gate.
Setpoint and target are the position clamped to the gate's bounds (R7, R9, R11). That the first REPORT leaves motion pending as the pending test
gives it, and does not also re-seat the gate, is the model's choice (log entry 13). No other gate and no group changes. -/
def Obligations.ReportsSeatAGate : Prop :=
  ∀ (s : State) (f : BusFrame) (i : Fin 16), busFrameValid .F f = true → f.kind = kindReport →
    s.tables.reportGates f.source.toNat = [i] → (readReport f).fault = false → s.mdc.mode.supervised = false →
    ∃ t, exec (.reportReceived f) s = .next t ∧
      (∀ j, j ≠ i → t.gate j = s.gate j) ∧ t.yard.groups = s.yard.groups ∧
      (let p := min (readReport f).position 1000
       let q := (s.cfg i).clamp p
       ((s.gate i).state = .unseen ∧ (readReport f).released = false →
         (t.gate i).state = .locked ∧ (t.gate i).positionAtLock = some p ∧ (t.gate i).commanded = some q ∧
         (t.gate i).target = some q ∧ (t.gate i).lockAfter = true ∧ (t.gate i).priority = .normal ∧
         (t.gate i).pending = decide ((s.cfg i).band < gap q p)) ∧
       ((s.gate i).state = .unseen ∧ (readReport f).released = true →
         (t.gate i).state = .recovering ∧ (t.gate i).commanded = some q ∧ (t.gate i).target = some q ∧
         (t.gate i).stateTimer = some (s.now + (s.cfg i).tLK) ∧ t.yard.portF.Carries (s.command i .lock 0)) ∧
       ((s.gate i).state = .locked ∧ (readReport f).released = false →
         (t.gate i).state = .locked ∧ (t.gate i).positionAtLock = some p ∧ (t.gate i).commanded = some q ∧
         (t.gate i).target = some q ∧ (t.gate i).pending = false ∧ (t.gate i).stateTimer = none))

/-- In GOVERN and FALLBACK a REPORT of a LOCKED gate beyond its runaway tolerance raises GATE_RUNAWAY and brings the station to FROZEN:
round, order and refresh timers stop, control present clears and every order slot is emptied (R27, R96, R132). -/
def Obligations.RunawayFreezesTheStation : Prop :=
  ∀ (s : State) (f : BusFrame) (i : Fin 16) (l : Nat), busFrameValid .F f = true → f.kind = kindReport →
    s.tables.reportGates f.source.toNat = [i] → (readReport f).fault = false → s.mdc.mode.governing = true →
    (s.gate i).state = .locked → (s.gate i).positionAtLock = some l →
    (s.cfg i).runawayTolerance < gap (min (readReport f).position 1000) l →
    ∃ t, exec (.reportReceived f) s = .next t ∧
      t.Raised (.gateRunaway i) ∧ t.mdc = { s.mdc with mode := .frozen, orderTimer := none, controlPresent := false } ∧
      t.rgv.roundTimer = none ∧ t.csu.refreshTimer = none ∧ ∀ j, (t.gate j).slot = none

/-- The ways into FAULTED that issue LOCK: a REPORT with fault yes in any state but FAULTED, the UNLOCKING expiry without RELEASED reported since the
grant, the move watch in MOVING or REVERSING, and the silence watch in any state but UNSEEN and FAULTED. The gate's timers stop, its slot is emptied,
GATE_FAULT is raised and GATE_LAG is no longer active. A waiting gate gives up its place, or its slot where a grant of it is in flight, and a gate that
holds a slot gives it up, here with no gate waiting in the group (R13, R22, R24, R25, R34, R38, R39, R96). That the fields R24 does not name keep
their values is the model's choice (log entry 22), and so is that a waiting gate whose grant is in flight hands the slot back within the event of its fault and has
no grant in flight after it (log entry 34), and that a REPORT with fault yes ends no move, re-seats nothing and raises no runaway (log entry 47). -/
def Obligations.FaultsIssueLock : Prop :=
  ∀ (s : State) (i : Fin 16),
    let k := (s.cfg i).group
    let faulted (c : Instr) (g : Gate) : Prop :=
      ∃ t, exec c s = .next t ∧
        t.gate i = { g with
          state := .faulted, stateTimer := none, moveWatch := none, lagStart := none, lagReported := false, slot := none } ∧
        t.yard.portF.Carries (s.command i .lock 0) ∧ t.Raised (.gateFault i) ∧ t.active (.gateLag i) = false ∧
        t = { s with yard := t.yard, desk := t.desk } ∧
        ((s.gate i).state.holdsSlot = true ∨ (s.gate i).state = .waitGrant ∧ i ∈ s.yard.inFlight →
          (s.group k).queue = [] → t.group k = { s.group k with slots := (s.group k).slots - 1 }) ∧
        ((s.gate i).state = .waitGrant → i ∈ s.yard.inFlight → (s.group k).queue = [] → i ∉ t.yard.inFlight) ∧
        ((s.gate i).state = .waitGrant → i ∉ s.yard.inFlight → ∀ x ∈ (t.group k).queue, x.gate ≠ i)
    (∀ f, busFrameValid .F f = true → f.kind = kindReport → s.tables.reportGates f.source.toNat = [i] →
      (readReport f).fault = true → (s.gate i).state ≠ .faulted →
      faulted (.reportReceived f) { s.gate i with
        position := some (min (readReport f).position 1000)
        brake := some (if (readReport f).released then .released else .engaged)
        running := some (readReport f).running, fault := some true, lastReport := some s.now, reportSinceGrant := true }) ∧
    (∀ e, (s.gate i).state = .unlocking → (s.gate i).stateTimer = some e → e ≤ s.now →
      ((s.gate i).reportSinceGrant = false ∨ (s.gate i).brake ≠ some .released) → faulted (.unlockingExpiry i) (s.gate i)) ∧
    (∀ e, (s.gate i).state = .moving ∨ (s.gate i).state = .reversing → (s.gate i).moveWatch = some e → e ≤ s.now →
      faulted (.moveWatchExpiry i) (s.gate i)) ∧
    (∀ st r, (s.gate i).state ≠ .unseen → (s.gate i).state ≠ .faulted → s.tables.station = .valid st →
      (s.gate i).lastReport = some r → max r (s.stationValidSince.getD 0) + st.reportTimeout ≤ s.now →
      faulted (.silenceWatchExpiry i) (s.gate i))

/-- The ways into FAULTED without LOCK: the seen watch in UNSEEN raises GATE_UNSEEN; the tLK expiry in RECOVERING or LOCKING with the brake not
ENGAGED raises GATE_FAULT (R8, R9, R16, R24). The order slot of the gate is emptied (R96). No frame for the gate goes to Port F, from LOCKING the slot of its group is given up, and with no gate waiting in the
group the drive queue is as before (R38). That the fields R24 does not name keep their values is the model's choice (log entry 22). -/
def Obligations.FaultsWithoutLock : Prop :=
  ∀ (s : State) (i : Fin 16) (e : Tick), (s.gate i).stateTimer = some e → e ≤ s.now →
    let k := (s.cfg i).group
    let faulted (c : Instr) (cond : Cond) (t : State) : Prop :=
      exec c s = .next t ∧
        t.gate i = { s.gate i with
          state := .faulted, stateTimer := none, moveWatch := none, lagStart := none, lagReported := false, slot := none } ∧
        t.Raised cond ∧ t = { s with yard := t.yard, desk := t.desk } ∧
        ∀ x, x.gate = i → t.yard.portF.Carries x → s.yard.portF.Carries x
    ((s.gate i).state = .unseen →
      ∃ t, faulted (.seenWatchExpiry i) (.gateUnseen i) t ∧ t.yard.portF = s.yard.portF ∧ t.yard.groups = s.yard.groups) ∧
    ((s.gate i).state = .recovering → (s.gate i).brake ≠ some .engaged →
      ∃ t, faulted (.recoveringExpiry i) (.gateFault i) t ∧ t.yard.portF = s.yard.portF ∧ t.yard.groups = s.yard.groups) ∧
    ((s.gate i).state = .locking → (s.gate i).brake ≠ some .engaged →
      ∃ t, faulted (.lockingExpiry i) (.gateFault i) t ∧
        ((s.group k).queue = [] →
          t.yard.portF = s.yard.portF ∧ t.group k = { s.group k with slots := (s.group k).slots - 1 }))

/-- At the tLK expiry with the brake ENGAGED the gate is LOCKED at its reported position: from RECOVERING with setpoint and target set from
that position, from LOCKING with them kept and one slot released. Both for a gate whose target lies within its band, with no gate waiting
in its group (R9, R16, R38). No other gate changes. -/
def Obligations.EngagedBrakesEndLocked : Prop :=
  ∀ (s : State) (i : Fin 16) (e p : Nat), (s.gate i).stateTimer = some e → e ≤ s.now →
    (s.gate i).brake = some .engaged → (s.gate i).position = some p → (s.group (s.cfg i).group).queue = [] →
    ((s.gate i).state = .recovering → gap ((s.cfg i).clamp p) p ≤ (s.cfg i).band →
      ∃ t, exec (.recoveringExpiry i) s = .next t ∧
        (t.gate i).state = .locked ∧ (t.gate i).positionAtLock = some p ∧ (t.gate i).commanded = some ((s.cfg i).clamp p) ∧
        (t.gate i).target = some ((s.cfg i).clamp p) ∧ (t.gate i).lockAfter = true ∧ (t.gate i).priority = .normal ∧
        (t.gate i).pending = false ∧ (∀ j, j ≠ i → t.gate j = s.gate j) ∧ t = { s with yard := t.yard } ∧
        t.yard.groups = s.yard.groups ∧ t.yard.portF = s.yard.portF) ∧
    (∀ q, (s.gate i).state = .locking → (s.gate i).target = some q → gap q p ≤ (s.cfg i).band →
      ∃ t, exec (.lockingExpiry i) s = .next t ∧
        t.gate i = { s.gate i with state := .locked, positionAtLock := some p, stateTimer := none, pending := false } ∧
        (∀ j, j ≠ i → t.gate j = s.gate j) ∧ t = { s with yard := t.yard } ∧ t.yard.portF = s.yard.portF ∧
        t.group (s.cfg i).group =
          { s.group (s.cfg i).group with slots := (s.group (s.cfg i).group).slots - 1 })

/-- At the end of its tCY wait a LOCKED gate with motion pending in GOVERN or FALLBACK joins its group's empty queue. With a slot free and the
spacing passed, its timer stopped, it is granted at once: one slot more is in use and the grant is stamped, and UNLOCK is issued and tUL runs unless the
grant is still in flight (log entry 34). With the slots full it stands in WAIT_GRANT with its priority. As it leaves LOCKED, GATE_RUNAWAY is no longer active for it
(R10, R12, R27, R32, R35 to R37). -/
def Obligations.CycleWaitsEndInTheQueue : Prop :=
  ∀ (s : State) (i : Fin 16) (e u : Tick),
    (s.gate i).state = .locked → (s.gate i).stateTimer = some e → e ≤ s.now → (s.gate i).pending = true →
    s.mdc.mode.governing = true → (s.gate i).lastUnlock = some u → u + (s.cfg i).tCY ≤ s.now →
    (s.group (s.cfg i).group).queue = [] → s.tables.groups.isValid = true →
    let k := (s.cfg i).group
    let c := s.tables.groupCfg k
    ∃ t, exec (.tcyWaitExpiry i) s = .next t ∧ (∀ l, l ≠ k → t.group l = s.group l) ∧
      t = { s with yard := t.yard, desk := t.desk } ∧ t.active (.gateRunaway i) = false ∧
      ((s.group k).slots < c.capacity →
        (∀ g, (s.group k).lastGrant = some g → c.spacing ≤ s.now - g ∧ (s.group k).spacingTimer = none) →
        t.group k =
          { slots := (s.group k).slots + 1, lastGrant := some s.now
            spacingTimer := if 0 < c.spacing then some (s.now + c.spacing) else none, queue := [] } ∧
        (if Config.grantCrosses s.draws s.now i.val = true then
          t.gate i = { s.gate i with state := .waitGrant, stateTimer := none } ∧ t.yard.inFlight = s.yard.inFlight ++ [i]
         else
          t.gate i = { s.gate i with
            state := .unlocking, lastUnlock := some s.now, lastMoveEnd := none, earlyLock := false, trimCount := 0
            stateTimer := some (s.now + (s.cfg i).tUL), reportSinceGrant := false } ∧
          t.yard.portF.Carries (s.command i .unlock 0))) ∧
      ((s.group k).slots = c.capacity →
        t.gate i = { s.gate i with state := .waitGrant, stateTimer := none } ∧
        t.group k = { s.group k with queue := [{ gate := i, priority := (s.gate i).priority }] })

/-- At the UNLOCKING expiry with RELEASED reported since the grant the unlock completion tick is recorded. With a target within the band the gate is FREE with no motion pending
and, with no gate waiting in the group, waits for its lock-allowed instant or, where that has passed, locks at once. In GOVERN and FALLBACK a
gate with a target beyond the band starts its move: a wicket gate issues MOVE, a spill gate starts a run toward the target (R13, R14, R17, R19, R22). No
other gate and no group changes. -/
def Obligations.UnlockingEndsFreeOrMoving : Prop :=
  ∀ (s : State) (i : Fin 16) (e p q : Nat),
    (s.gate i).state = .unlocking → (s.gate i).stateTimer = some e → e ≤ s.now →
    (s.gate i).reportSinceGrant = true → (s.gate i).brake = some .released →
    (s.gate i).position = some p → (s.gate i).target = some q →
    let g := s.gate i
    let c := s.cfg i
    ∃ t, exec (.unlockingExpiry i) s = .next t ∧
      (∀ j, j ≠ i → t.gate j = s.gate j) ∧ t = { s with yard := t.yard } ∧ t.yard.groups = s.yard.groups ∧
      (gap q p ≤ c.band →
        t.yard.portF = s.yard.portF ∧ (t.gate i).state = .free ∧ (t.gate i).pending = false ∧
        (t.gate i).unlockCompletion = some s.now) ∧
      (gap q p ≤ c.band → (s.group c.group).queue = [] →
        t.gate i = { g with
          state := .free, unlockCompletion := some s.now, pending := false
          stateTimer :=
            let settled := max (s.now + c.tFM) ((g.lastMoveEnd.map (· + c.tST)).getD 0)
            some (max s.now
              (if g.lockAfter || g.earlyLock then settled
               else max settled (max s.now (g.lastMoveEnd.getD 0) + c.tID))) }) ∧
      (s.mdc.mode.governing = true → c.band < gap q p → c.kind = .wicket →
        t.yard.portF.Carries (s.command i .move q) ∧
        t.gate i = { g with
          state := .moving, unlockCompletion := some s.now, pending := false, earlyLock := false, moveSetpoint := some q
          stateTimer := none, moveWatch := some (s.now + c.moveTimeout) }) ∧
      (s.mdc.mode.governing = true → c.band < gap q p → c.kind = .spill →
        t.yard.portF.Carries (s.command i (if p < q then .runRaise else .runLower) 0) ∧
        t.gate i = { g with
          state := .moving, unlockCompletion := some s.now, pending := false, earlyLock := false, moveSetpoint := some q
          trimCount := 0, raising := decide (p < q), stateTimer := some (s.now + runLength c (gap q p))
          moveWatch := some (s.now + c.moveTimeout) })

/-- Four expiries of one gate, each with everything it changes. At the lock-allowed instant LOCK is issued and LOCKING lasts tLK (R14). At the end
of a spill run STOP is issued and the hoist coasts for the reversal dwell (R20). At the lag watch GATE_LAG is raised once and the lag start tick
stays (R26). At the end of its hold an order slot becomes visible (R95). -/
def Obligations.SingleGateExpiriesTakeEffect : Prop :=
  ∀ (s : State) (i : Fin 16) (e : Tick), e ≤ s.now →
    let c := s.cfg i
    ((s.gate i).state = .free → (s.gate i).stateTimer = some e →
      ∃ t, exec (.lockAllowedExpiry i) s = .next t ∧
        t.gate i = { s.gate i with state := .locking, stateTimer := some (s.now + c.tLK) } ∧
        t.yard.portF.Carries (s.command i .lock 0) ∧ (∀ j, j ≠ i → t.gate j = s.gate j) ∧
        t.yard.groups = s.yard.groups ∧ t = { s with yard := t.yard }) ∧
    ((s.gate i).state = .moving → (s.gate i).stateTimer = some e →
      ∃ t, exec (.spillRunExpiry i) s = .next t ∧
        t.gate i = { s.gate i with state := .reversing, stateTimer := some (s.now + c.reversalDwell) } ∧
        t.yard.portF.Carries (s.command i .stop 0) ∧ (∀ j, j ≠ i → t.gate j = s.gate j) ∧
        t.yard.groups = s.yard.groups ∧ t = { s with yard := t.yard }) ∧
    (∀ l, s.mdc.mode.supervised = true → (s.gate i).state ≠ .unseen → (s.gate i).state ≠ .faulted →
      (s.gate i).lagReported = false → (s.gate i).lagStart = some l → l + c.lagTime ≤ s.now →
      ∃ t, exec (.lagWatchExpiry i) s = .next t ∧ t.Raised (.gateLag i) ∧
        t.gate i = { s.gate i with lagReported := true } ∧ (∀ j, j ≠ i → t.gate j = s.gate j) ∧
        t.yard.groups = s.yard.groups ∧ t.yard.portF = s.yard.portF ∧ t = { s with yard := t.yard, desk := t.desk }) ∧
    (∀ o, (s.gate i).slot = some o → o.visible = false → o.holdEnd ≤ s.now →
      ∃ t, exec (.orderHoldExpiry i) s = .next t ∧
        t.gate i = { s.gate i with slot := some { o with visible := true } } ∧ (∀ j, j ≠ i → t.gate j = s.gate j) ∧
        t.yard.groups = s.yard.groups ∧ t.yard.portF = s.yard.portF ∧ t = { s with yard := t.yard })

/-- The end of a reversal dwell is decided by the first case that holds: a hoist still running dwells again; a deferred target outside the band
starts a run toward it with the trim count 0 and the move watch restarted, and one within the band ends the move; a position within the band of the
move setpoint ends the move; one outside it starts a trim run while fewer than two have been made; otherwise the move ends outside the band. A move that ends
leaves the gate FREE with the last move-end tick recorded where the target lies within the band, here with no gate waiting in its group; in GOVERN and FALLBACK a
spill gate with a target beyond the band starts its next move, by the pending test that follows (R5, R19, R20). In FROZEN a spill gate ends its move wherever it came to rest
and waits to lock, with no pending test (R29): where that test would give yes this is the model's choice (log entry 44). -/
def Obligations.DwellsEndByTheFirstCase : Prop :=
  ∀ (s : State) (i : Fin 16) (e p m q : Nat),
    (s.gate i).state = .reversing → (s.gate i).stateTimer = some e → e ≤ s.now →
    (s.gate i).position = some p → (s.gate i).moveSetpoint = some m → (s.gate i).target = some q →
    let g := s.gate i
    let c := s.cfg i
    ∃ t, exec (.reversalDwellExpiry i) s = .next t ∧ t = { s with yard := t.yard } ∧ (∀ j, j ≠ i → t.gate j = s.gate j) ∧
      t.yard.groups = s.yard.groups ∧
      (let ended : Prop :=
        (gap q p ≤ c.band → (s.group c.group).queue = [] →
          (t.gate i).state = .free ∧ (t.gate i).lastMoveEnd = some s.now ∧ (t.gate i).moveSetpoint = none ∧
          (t.gate i).moveWatch = none ∧ (t.gate i).pending = false ∧ t.yard.portF = s.yard.portF) ∧
        (s.mdc.mode.governing = true → c.band < gap q p → c.kind = .spill →
          t.gate i = { g with
            state := .moving, lastMoveEnd := some s.now, pending := false, earlyLock := false, moveSetpoint := some q, trimCount := 0
            raising := decide (p < q), stateTimer := some (s.now + runLength c (gap q p))
            moveWatch := some (s.now + c.moveTimeout) } ∧
          t.yard.portF.Carries (s.command i (if p < q then .runRaise else .runLower) 0)) ∧
        (s.mdc.mode = .frozen → c.kind = .spill → (s.group c.group).queue = [] →
          (t.gate i).state = .free ∧ (t.gate i).lastMoveEnd = some s.now ∧ (t.gate i).moveSetpoint = none ∧
          (t.gate i).moveWatch = none ∧ (t.gate i).pending = false ∧ t.yard.portF = s.yard.portF)
       if g.running = some true then t.gate i = { g with stateTimer := some (s.now + c.reversalDwell) } ∧ t.yard.portF = s.yard.portF
       else if g.pending = true then
         (c.band < gap q p →
           t.gate i = { g with
             state := .moving, pending := false, moveSetpoint := some q, trimCount := 0, raising := decide (p < q)
             stateTimer := some (s.now + runLength c (gap q p)), moveWatch := some (s.now + c.moveTimeout) } ∧
           t.yard.portF.Carries (s.command i (if p < q then .runRaise else .runLower) 0)) ∧
         (gap q p ≤ c.band → ended)
       else if c.band < gap m p ∧ g.trimCount < 2 then
         t.gate i = { g with
           state := .moving, trimCount := g.trimCount + 1, raising := decide (p < m)
           stateTimer := some (s.now + runLength c (gap m p)) } ∧
         t.yard.portF.Carries (s.command i (if p < m then .runRaise else .runLower) 0)
       else ended)

/-! ## Power groups -/

/-- At the expiry of a group's spacing timer the timer stops and a grant check runs: an empty queue is granted nothing; a head in WAIT_GRANT with
a slot free and the spacing passed is granted, which takes it out of the queue, counts its slot, stamps the grant and starts the spacing again. UNLOCK is issued
and tUL runs, unless the grant is still in flight (R12, R35 to R37, R39; log entry 34). -/
def Obligations.SpacingExpiriesGrantTheHead : Prop :=
  ∀ (s : State) (k : Fin 4) (e : Tick), (s.group k).spacingTimer = some e → e ≤ s.now →
    ((s.group k).queue = [] →
      ∃ t, exec (.spacingExpiry k) s = .next t ∧ t = { s with yard := t.yard } ∧ t.yard.gates = s.yard.gates ∧
        t.yard.portF = s.yard.portF ∧ t.group k = { s.group k with spacingTimer := none } ∧
        ∀ l, l ≠ k → t.group l = s.group l) ∧
    (∀ x rest g, (s.group k).queue = x :: rest → (s.gate x.gate).state = .waitGrant → s.tables.groups.isValid = true →
      (s.group k).slots < (s.tables.groupCfg k).capacity → (s.group k).lastGrant = some g →
      0 < (s.tables.groupCfg k).spacing → (s.tables.groupCfg k).spacing ≤ s.now - g →
      ∃ t, exec (.spacingExpiry k) s = .next t ∧ t = { s with yard := t.yard } ∧
        t.group k =
          { slots := (s.group k).slots + 1, lastGrant := some s.now
            spacingTimer := some (s.now + (s.tables.groupCfg k).spacing), queue := rest } ∧
        (if Config.grantCrosses s.draws s.now x.gate.val = true then
          t.gate x.gate = s.gate x.gate ∧ t.yard.inFlight = s.yard.inFlight ++ [x.gate] ∧ t.yard.portF = s.yard.portF
         else
          t.gate x.gate = { s.gate x.gate with
            state := .unlocking, lastUnlock := some s.now, lastMoveEnd := none, earlyLock := false, trimCount := 0
            stateTimer := some (s.now + (s.cfg x.gate).tUL), reportSinceGrant := false } ∧
          t.yard.portF.Carries (s.command x.gate .unlock 0)) ∧
        ∀ l, l ≠ k → t.group l = s.group l)

/-- A grant check never brings a group above its capacity, leaves every other group alone, takes entries only from the head of the queue, and
changes no gate but those it grants and, by an early-lock request, idle FREE gates; while the spacing timer runs after a grant it grants nothing, though the tick be
that of the expiry (R35 to R37, R40; for every check, log entry 43). A gate that leaves WAIT_GRANT gives up its entry, the others keeping their order, with a check only where
it stood at the head (R34). A grant in flight reaches its gate: in WAIT_GRANT it is taken, with UNLOCK; any other gate, and one that leaves WAIT_GRANT, hands its slot back with no UNLOCK
and the spacing as the grant left it, here with no gate waiting (R12, R34, R38, R39; log entry 34). -/
def Obligations.GrantChecksKeepTheCapacity : Prop :=
  (∀ (e : YardEnv) (k : Fin 4) (y : Yard),
    let t := Yard.grantCheck e k y
    ((y.group k).slots ≤ (e.tables.groupCfg k).capacity → (t.group k).slots ≤ (e.tables.groupCfg k).capacity) ∧
    (∀ l, l ≠ k → t.group l = y.group l) ∧ (∃ n, (t.group k).queue = (y.group k).queue.drop n) ∧
    (∀ i, t.gate i ≠ y.gate i →
      ((y.gate i).state = .waitGrant ∧ (t.gate i).state = .unlocking) ∨
      ((y.gate i).state = .free ∧ (y.gate i).pending = false ∧ (t.gate i).state = .free ∧ (t.gate i).earlyLock = true)) ∧
    (∀ g u, (y.group k).lastGrant = some g → (y.group k).spacingTimer = some u →
      t.groups = y.groups ∧ t.inFlight = y.inFlight ∧ t.portF = y.portF)) ∧
  (∀ (e : YardEnv) (i : Fin 16) (y : Yard),
    let k := (e.cfg i).group
    let back : Group := { y.group k with slots := (y.group k).slots - 1 }
    let landed := y.inFlight.filter (fun j => decide (j ≠ i))
    let handedBack (t : Yard) : Prop :=
      t.gates = y.gates ∧ t.portF = y.portF ∧ t.group k = back ∧ (∀ l, l ≠ k → t.group l = y.group l) ∧ t.inFlight = landed
    (i ∉ y.inFlight → ∀ front x rest, (y.group k).queue = front ++ x :: rest → x.gate = i →
      (∀ a ∈ front ++ rest, a.gate ≠ i) →
      let removed := y.setGroup k { y.group k with queue := front ++ rest }
      Yard.leaveQueue e i y = (match front with | [] => Yard.grantCheck e k removed | _ :: _ => removed)) ∧
    (i ∈ y.inFlight → (y.group k).queue = [] → handedBack (Yard.leaveQueue e i y)) ∧
    ((y.gate i).state ≠ .waitGrant → (y.group k).queue = [] → handedBack (Yard.deliverGrant e i y)) ∧
    ((y.gate i).state = .waitGrant →
      let t := Yard.deliverGrant e i y
      t.gate i = { y.gate i with
        state := .unlocking, lastUnlock := some e.now, lastMoveEnd := none, earlyLock := false, trimCount := 0
        stateTimer := some (e.now + (e.cfg i).tUL), reportSinceGrant := false } ∧
      t.portF.Carries { gate := i, frame := driveFrame (e.cfg i).driveAddress .unlock 0 } ∧ (∀ j, j ≠ i → t.gate j = y.gate j) ∧
      t.groups = y.groups ∧ t.inFlight = landed))

/-! ## Orders and the station bus -/

/-- An ORDER on Port L for a governed gate, with room for its ANSWER, is answered in the event that takes it. In GOVERN a gate in an ordinary state
takes it: the opening is cut to 1000 and clamped to the gate's bounds, the slot holds it with its hold, lock-after flag and tag, and the result is
ACCEPTED or CLAMPED by whether the opening was changed. An UNSEEN or FAULTED gate refuses it, and every other mode refuses it; the ANSWER then shows
the opening cut to 1000. The order timer is reloaded in GOVERN and FALLBACK. Where the own queue is full the ORDER is dropped and counted, but is still an
arrival from the control computer. An ORDER to no governed address is forwarded (R91 to R94, R129, R131, R150). -/
def Obligations.OrdersAreAnswered : Prop :=
  ∀ (s : State) (f : BusFrame), busFrameValid .L f = true → f.kind = kindOrder →
    let o := readOrder f
    let reload : Timer :=
      if 0 < s.tables.stationOr.orderTimeout then some (s.now + s.tables.stationOr.orderTimeout) else none
    (s.tables.governedGate f.destination.toNat = none →
      exec (.orderReceived f) s = .next { s with yard := { s.yard with portF := s.yard.portF.forward f } }) ∧
    (∀ i, s.tables.governedGate f.destination.toNat = some i → s.ownFull = true →
      let heard : Desk := if s.mdc.mode = .fallback ∧ s.mdc.controlPresent = false then s.desk.clear .controlSilent else s.desk
      exec (.orderReceived f) s = .next { s with
        mdc := (match s.mdc.mode with
          | .govern => { s.mdc with orderTimer := reload }
          | .fallback => { s.mdc with orderTimer := reload, controlPresent := true }
          | _ => s.mdc)
        desk := { heard with portL := { s.desk.portL with dropped := min (s.desk.portL.dropped + 1) 65535 } } }) ∧
    (∀ i, s.tables.governedGate f.destination.toNat = some i → s.ownFull = false →
      let cut := min o.opening 1000
      let taken := max (s.cfg i).minOpening (min cut (s.cfg i).maxOpening)
      let answer (result opening : Nat) : BusFrame :=
        makeBusFrame 0 254 kindAnswer ([o.tag, BitVec.ofNat 8 i.val, BitVec.ofNat 8 result] ++ beBytes 2 opening)
      (s.mdc.mode = .govern → (s.gate i).state ≠ .unseen → (s.gate i).state ≠ .faulted →
        ∃ t, exec (.orderReceived f) s = .next t ∧ t = { s with mdc := t.mdc, yard := t.yard, desk := t.desk } ∧
          t.mdc = { s.mdc with orderTimer := reload } ∧
          t.yard = s.yard.setGate i { s.gate i with
            slot := some
              { opening := taken, holdEnd := s.now + o.hold, visible := decide (o.hold = 0), lockAfter := o.lockAfter, tag := o.tag } } ∧
          t.desk = s.desk.pushOwn (answer (if taken = o.opening then 0 else 1) taken)) ∧
      (s.mdc.mode = .govern → (s.gate i).state = .unseen ∨ (s.gate i).state = .faulted →
        ∃ t, exec (.orderReceived f) s = .next t ∧ t = { s with mdc := t.mdc, desk := t.desk } ∧
          t.mdc = { s.mdc with orderTimer := reload } ∧ t.desk = s.desk.pushOwn (answer 3 cut)) ∧
      (s.mdc.mode = .starting ∨ s.mdc.mode = .config ∨ s.mdc.mode = .frozen →
        exec (.orderReceived f) s = .next { s with desk := s.desk.pushOwn (answer 2 cut) }) ∧
      (s.mdc.mode = .fallback →
        ∃ t, exec (.orderReceived f) s = .next t ∧ t = { s with mdc := t.mdc, desk := t.desk } ∧
          t.mdc = { s.mdc with orderTimer := reload, controlPresent := true } ∧
          (s.mdc.controlPresent = true → t.desk = s.desk.pushOwn (answer 2 cut)) ∧
          (s.mdc.controlPresent = false → t.desk = (s.desk.clear .controlSilent).pushOwn (answer 2 cut))))

/-- A KEEPALIVE on Port L to 254 reloads the order timer in GOVERN and FALLBACK, in FALLBACK sets control present (whose setting clears the active
state of CONTROL_SILENT), and changes nothing in STARTING, CONFIG and FROZEN, whatever the own queue holds. To any other destination it is
forwarded and reloads nothing. On Port F with destination 254 it is a receive error of Port F (R98, R129, R131). -/
def Obligations.KeepalivesAreHeard : Prop :=
  ∀ (s : State) (f : BusFrame), f.kind = kindKeepalive →
    let reload : Timer :=
      if 0 < s.tables.stationOr.orderTimeout then some (s.now + s.tables.stationOr.orderTimeout) else none
    (busFrameValid .L f = true → f.destination = 254 →
      (s.mdc.mode = .govern → exec (.keepaliveReceived f) s = .next { s with mdc := { s.mdc with orderTimer := reload } }) ∧
      (s.mdc.mode = .fallback → s.mdc.controlPresent = true →
        exec (.keepaliveReceived f) s = .next { s with mdc := { s.mdc with orderTimer := reload } }) ∧
      (s.mdc.mode = .fallback → s.mdc.controlPresent = false →
        exec (.keepaliveReceived f) s = .next { s with
          mdc := { s.mdc with orderTimer := reload, controlPresent := true }, desk := s.desk.clear .controlSilent }) ∧
      (s.mdc.mode = .starting ∨ s.mdc.mode = .config ∨ s.mdc.mode = .frozen → exec (.keepaliveReceived f) s = .next s)) ∧
    (busFrameValid .L f = true → f.destination ≠ 254 →
      exec (.keepaliveReceived f) s = .next { s with yard := { s.yard with portF := s.yard.portF.forward f } }) ∧
    (f.destination = 254 → exec (.frameForward .F f) s = .next (s.busError .F))

/-- A DRIVE frame on Port L to a governed address, or to 255 with the GATES table VALID, is forwarded in STARTING and CONFIG; in GOVERN, FALLBACK and
FROZEN it is not, and BYPASS_BLOCKED is raised for the addressed gate, or for every in-service gate. To any other address, and to every address while
the GATES table is not VALID, it is forwarded in every mode. A DRIVE frame received on Port F is forwarded to Port L (R99, R100). -/
def Obligations.DriveFramesAreBlocked : Prop :=
  (∀ (s : State) (f : BusFrame), busFrameValid .F f = true → f.kind = kindDrive →
    exec (.frameForward .F f) s = .next { s with desk := s.desk.forward f }) ∧
  (∀ (s : State) (f : BusFrame), busFrameValid .L f = true → f.kind = kindDrive →
    let forwarded : State := { s with yard := { s.yard with portF := s.yard.portF.forward f } }
    (s.mdc.mode.supervised = false → exec (.driveFrameReceived f) s = .next forwarded) ∧
    (∀ i, s.mdc.mode.supervised = true → f.destination ≠ 255 → s.tables.governedGate f.destination.toNat = some i →
      ∃ t, exec (.driveFrameReceived f) s = .next t ∧ t.Raised (.bypassBlocked i) ∧ t = { s with desk := t.desk }) ∧
    (s.mdc.mode.supervised = true → f.destination = 255 → s.tables.gates.isValid = true →
      ∃ t, exec (.driveFrameReceived f) s = .next t ∧ (∀ i ∈ s.tables.inServiceGates, t.Raised (.bypassBlocked i)) ∧
        t = { s with desk := t.desk }) ∧
    (s.mdc.mode.supervised = true → (f.destination = 255 → s.tables.gates.isValid = false) →
      (f.destination ≠ 255 → s.tables.governedGate f.destination.toNat = none) →
      exec (.driveFrameReceived f) s = .next forwarded))

/-- A valid frame of a kind the part does not take goes unchanged to the general queue of the opposite port: behind the frames that wait while its
transmitter is busy, or into transmission where the port is at rest. A full queue drops it, and the dropped-frame count of that port goes up,
saturating at 65,535. SAMPLE and REPORT frames on Port F are forwarded in the same way, whether a block takes them or not, here with the transmitter busy; one that
no channel or gate takes changes nothing else (R150 to R152, R155). -/
def Obligations.FramesAreForwarded : Prop :=
  ∀ (s : State) (f : BusFrame),
    let l := s.desk.portL
    let p := s.yard.portF
    (f.kind ≠ kindSample → f.kind ≠ kindReport → f.kind ≠ kindOrder → f.kind ≠ kindDrive → f.destination ≠ 254 →
      (busFrameValid .F f = true →
        (l.general.length < 8 → l.sending.isSome = true →
          exec (.frameForward .F f) s = .next { s with
            desk := { s.desk with portL := { l with general := l.general ++ [f] } } }) ∧
        (l.general = [] → l.own = [] → l.sending = none →
          exec (.frameForward .F f) s = .next { s with
            desk := { s.desk with portL := { l with sending := some (.general f) } } }) ∧
        (l.general.length = 8 →
          exec (.frameForward .F f) s = .next { s with
            desk := { s.desk with portL := { l with dropped := min (l.dropped + 1) 65535 } } })) ∧
      (busFrameValid .L f = true →
        (p.general.length < 8 → p.sending.isSome = true →
          exec (.frameForward .L f) s = .next { s with yard := { s.yard with portF := { p with general := p.general ++ [f] } } }) ∧
        (p.general = [] → p.drive = [] → p.sending = none →
          exec (.frameForward .L f) s = .next { s with yard := { s.yard with portF := { p with sending := some (.general f) } } }) ∧
        (p.general.length = 8 →
          exec (.frameForward .L f) s = .next { s with
            yard := { s.yard with portF := { p with dropped := min (p.dropped + 1) 65535 } } }))) ∧
    (∀ c : Instr, busFrameValid .F f = true →
      (f.kind = kindSample ∧ c = .sampleReceived f) ∨ (f.kind = kindReport ∧ c = .reportReceived f) →
      ((f.kind = kindSample → s.tables.sampleChannel (readSample f) = none) →
        (f.kind = kindReport → s.tables.reportGates f.source.toNat = []) →
        exec c s = .next { s with desk := s.desk.forward f }) ∧
      (l.sending.isSome = true → ∃ t, exec c s = .next t ∧ t.desk.portL.sending = l.sending ∧
        (l.general.length < 8 → t.desk.portL.general = l.general ++ [f] ∧ t.desk.portL.dropped = l.dropped) ∧
        (l.general.length = 8 → t.desk.portL.general = l.general ∧ t.desk.portL.dropped = min (l.dropped + 1) 65535)))

/-- Bytes that fail the checks of a port are discarded and counted, saturating at 65,535. While the count stays below the port error threshold of a
VALID STATION table nothing else changes; at the threshold or above it PORT_ERRORS is raised for the port. A reach port that is absent counts
nothing (R102, R104, R148, R149). That bytes which form no envelope are counted like a frame that fails a check is the model's choice (log entry 8). -/
def Obligations.ReceiveErrorsAreCounted : Prop :=
  ∀ (s : State) (raw : List Byte),
    (∀ p, (∀ f, readBusWire raw = some f → busFrameValid p f = false) →
      let n := min (s.busErrors p + 1) 65535
      ∃ t, exec (.receiveErrorDiscard p raw) s = .next t ∧ t.busErrors p = n ∧
        ((∀ st, s.tables.station = .valid st → n < st.portErrorThreshold) → t = s.setBusErrors p n) ∧
        (∀ st, s.tables.station = .valid st → st.portErrorThreshold ≤ n → t.Raised (.portErrorsBus p))) ∧
    (∀ p, s.portPresent p = true → (∀ f, readReachWire raw = some f → reachFrameValid p (s.neighbour p) f = false) →
      let n := min ((s.reachPort p).errors + 1) 65535
      ∃ t, exec (.reachReceiveError p raw) s = .next t ∧ (t.reachPort p) = { s.reachPort p with errors := n } ∧
        ((∀ st, s.tables.station = .valid st → n < st.portErrorThreshold) →
          t = s.setReachPort p { s.reachPort p with errors := n }) ∧
        (∀ st, s.tables.station = .valid st → st.portErrorThreshold ≤ n → t.Raised (.portErrorsReach p))) ∧
    (∀ p, s.portPresent p = false → exec (.reachReceiveError p raw) s = .next s)

/-- A request that finds the own queue full is dropped and counted, and reaches no block; a request other than READ_STATUS taken in STARTING is
answered REFUSED_BUSY and not carried out; a valid MANAGE frame to the part whose payload spells no request is answered UNKNOWN_REQUEST with its
request code in every mode, and nothing else changes (R123, R154, R156). -/
def Obligations.RequestsAreJudgedInOrder : Prop :=
  (∀ (s : State) (r : Request), (∀ o d, r = .loadSegment o d → segmentLengthOk d = true) →
    (s.ownFull = true →
      r.exec s = .next { s with
        desk := { s.desk with portL := { s.desk.portL with dropped := min (s.desk.portL.dropped + 1) 65535 } } }) ∧
    (s.ownFull = false → s.mdc.mode = .starting → r ≠ .readStatus →
      r.exec s = .next { s with desk := s.desk.pushOwn (makeBusFrame 0 254 kindReply [r.code, 2]) })) ∧
  (∀ (s : State) (f : BusFrame) (code : Byte) (args : List Byte), busFrameValid .L f = true → f.kind = kindManage →
    f.destination = 254 → f.payload = code :: args → parseRequest f.payload = none → s.ownFull = false →
    exec (.manageUnknownRequest f) s = .next { s with
      desk := s.desk.pushOwn (makeBusFrame 0 254 kindReply [code, 9]) })

/-- At a transmit completion the transmitter takes its next frame: on Port F the head of the drive queue before the general queue, on Port L the head
of the own queue before the general queue; with nothing waiting it is idle. A frame that leaves the own queue is followed by the hand-off test. On Port L this
holds for every frame but the DONE reply to a pending RESTART (R144, R155). -/
def Obligations.TransmitCompletionsTakeTheNextFrame : Prop :=
  ∀ s : State,
    (let p := s.yard.portF
     p.sending.isSome = true →
      ∃ q, exec (.transmitCompletion .F) s = .next { s with yard := { s.yard with portF := q } } ∧
        q = (match p.drive, p.general with
          | e :: r, _ => { p with drive := r, sending := some (.drive e) }
          | [], f :: r => { p with general := r, sending := some (.general f) }
          | [], [] => { p with sending := none })) ∧
    (let p := s.desk.portL
     p.sending.isSome = true → s.restartDue = false →
      exec (.transmitCompletion .L) s = .next { s with
        desk := (match p.own, p.general with
          | f :: r, _ => Desk.handOff { s.desk with portL := { p with own := r, sending := some (.own f) } }
          | [], f :: r => { s.desk with portL := { p with general := r, sending := some (.general f) } }
          | [], [] => { s.desk with portL := { p with sending := none } }) })

/-- At a hand-off test with the transmitter busy, notices leave the head of the notice queue for the own queue until that holds 6 or the notices run
out, as NOTICE frames to address 0 with the entry's kind, subject and level and the record's states and first-set tick (R144, R171). -/
def Obligations.NoticesAreHandedOver : Prop :=
  ∀ d : Desk, d.portL.sending.isSome = true →
    let k := min d.notices.length (6 - d.portL.ownTotal)
    d.handOff = { d with
      notices := d.notices.drop k
      portL := { d.portL with
        own := d.portL.own ++ (d.notices.take k).map (fun e =>
          makeBusFrame 0 254 kindNotice
            ([BitVec.ofNat 8 e.cond.kindCode, BitVec.ofNat 8 e.cond.subjectCode, BitVec.ofNat 8 e.level,
              BitVec.ofNat 8 ((d.record e.cond).active.toNat + 2 * (d.record e.cond).latched.toNat)] ++
             beBytes 4 ((d.record e.cond).firstSet.getD 4294967295))) } }

/-- A raise makes its record active. A record that was latched keeps its first-set tick and sends nothing more; one that was not is latched with the
present tick and may offer a notice: a notice of level 3, or of a level not below the notice mask level, is placed, any other is not, and NOTICE_LOST never has
one. No other record changes but that of NOTICE_LOST, and nothing but the Condition Unit and Port L (R139, R141). -/
def Obligations.RaisesLatchOnce : Prop :=
  ∀ (s : State) (c : Cond),
    let level := s.tables.level c
    let latched : Desk := s.desk.setRecord c { active := true, latched := true, firstSet := some s.now }
    (s.raise c) = { s with desk := (s.raise c).desk } ∧
    (s.latched c = true → (s.raise c).desk = s.desk.setRecord c { s.desk.record c with active := true }) ∧
    (s.latched c = false →
      (s.raise c).desk.record c = { active := true, latched := true, firstSet := some s.now } ∧
      (c ≠ .noticeLost → level = 3 ∨ s.tables.stationOr.noticeMask ≤ level →
        (s.raise c).desk = latched.placeNotice s.now { cond := c, level := level }) ∧
      (c = .noticeLost ∨ level ≠ 3 ∧ level < s.tables.stationOr.noticeMask → (s.raise c).desk = latched)) ∧
    (∀ d, d ≠ c → d ≠ .noticeLost → (s.raise c).desk.record d = s.desk.record d)

/-- Where a new entry stands. A waiting queue of URGENT entries followed by NORMAL ones stays so: a NORMAL entry joins at the tail, an URGENT one
after the last URGENT entry, and the others keep their order (R32). A waiting gate with a new priority moves to where it would join, with a grant check only where another
gate comes to the head; with the same priority it keeps its place (R33). A notice is placed after every entry of its level or a higher one and before every lower one, and the
hand-off test follows. Offered to a full notice queue it takes the place of the youngest entry of the lowest level if its own is above that, and is dropped if not; in both cases NOTICE_LOST is raised,
here with the own queue holding 6 frames or more, so that no hand-off follows (R142 to R144). -/
def Obligations.NewEntriesStandByRank : Prop :=
  (∀ (u n : List QueueEntry) (x : QueueEntry), (∀ a ∈ u, a.priority = .urgent) → (∀ a ∈ n, a.priority = .normal) →
    enqueue x (u ++ n) = (match x.priority with | .urgent => u ++ [x] ++ n | .normal => u ++ n ++ [x])) ∧
  (∀ (e : YardEnv) (i : Fin 16) (y : Yard) (front rest : List QueueEntry) (x : QueueEntry),
    let k := (e.cfg i).group
    let p := (y.gate i).priority
    (y.group k).queue = front ++ x :: rest → x.gate = i → (∀ a ∈ front ++ rest, a.gate ≠ i) →
    (x.priority = p → Yard.changePriority e i y = y) ∧
    (x.priority ≠ p →
      let q := enqueue { gate := i, priority := p } (front ++ rest)
      let moved := y.setGroup k { y.group k with queue := q }
      Yard.changePriority e i y =
        (if q.head?.map (·.gate) = (y.group k).queue.head?.map (·.gate) then moved else Yard.grantCheck e k moved))) ∧
  (∀ (d : Desk) (now : Tick) (e : NoticeEntry) (high low : List NoticeEntry), d.notices = high ++ low →
    (∀ a ∈ high, e.level ≤ a.level) → (∀ a ∈ low, a.level < e.level) → d.notices.length < 16 →
    d.placeNotice now e = Desk.handOff { d with notices := high ++ [e] ++ low }) ∧
  (∀ (d : Desk) (now : Tick) (e last : NoticeEntry) (front : List NoticeEntry), d.notices = front ++ [last] →
    d.notices.length = 16 → 6 ≤ d.portL.ownTotal →
    let out := d.placeNotice now e
    (out.record .noticeLost).active = true ∧ (out.record .noticeLost).latched = true ∧ out.portL = d.portL ∧
    (last.level < e.level → out.notices = insertNotice e front) ∧ (e.level ≤ last.level → out.notices = d.notices))

/-! ## Management requests -/

/-- The read requests answer with the records as they stand and change nothing but the own queue. READ_GATE of a gate above 15, READ_CHANNEL of a
channel above 7 and READ_CONDITIONS above 119 are UNKNOWN_REQUEST. READ_TABLE of a VALID table gives the image length, its CRC, the offset and up to
200 bytes from it; at or beyond the image's end it is BAD_SEGMENT, and for anything but a VALID table BAD_TABLE (R44, R146, R147, R166, R167). -/
def Obligations.ReadsAnswerAndChangeNothing : Prop :=
  ∀ s : State, s.ownFull = false →
    let answered (c : Instr) (payload : List Byte) : Prop :=
      exec c s = .next { s with desk := s.desk.pushOwn (makeBusFrame 0 254 kindReply payload) }
    answered .readStatus ([1, 0] ++ s.statusData) ∧
    (s.mdc.mode ≠ .starting →
      (∀ i : Fin 16, s.tables.gates.isValid = true → answered (.readGate (BitVec.ofNat 8 i.val)) ([2, 0] ++ s.gateData i)) ∧
      (∀ n : Byte, 15 < n.toNat → answered (.readGate n) [2, 9]) ∧
      (∀ c : Fin 8, s.tables.channels.isValid = true →
        answered (.readChannel (BitVec.ofNat 8 c.val)) ([3, 0] ++ s.channelData c)) ∧
      (∀ n : Byte, 7 < n.toNat → answered (.readChannel n) [3, 9]) ∧
      (∀ n : Byte, n.toNat ≤ 119 → answered (.readConditions n) ([4, 0] ++ s.conditionsData n.toNat)) ∧
      (∀ n : Byte, 119 < n.toNat → answered (.readConditions n) [4, 9]) ∧
      answered .readPorts ([5, 0] ++ s.portsData) ∧
      (∀ (n : Byte) (o : BitVec 16) (id : TableId) (d : TableData), n.toNat = id.code → s.tables.data? id = some d →
        answered (.readTable n o)
          (if o.toNat < d.image.length then
            [6, 0] ++ beBytes 2 d.image.length ++ beBytes 2 (crc16 d.image).toNat ++ beBytes 2 o.toNat ++
              (d.image.drop o.toNat).take 200
           else [6, 6])) ∧
      (∀ (n : Byte) (o : BitVec 16), (∀ id, n.toNat = id.code → s.tables.data? id = none) → answered (.readTable n o) [6, 5]))

/-- READ_CONDITIONS lists, from its starting number, up to 20 records that are active or latched, in ascending number, and leaves none out before the
last one listed, nor any at all where it lists fewer than 20. The number to continue from is 120 where fewer than 20 are listed, and else the one after the last
listed (R146); that it is so with exactly 20 standing records too is the model's choice (log entry 37). -/
def Obligations.ConditionWalksMissNothing : Prop :=
  ∀ (s : State) (n : Nat),
    (s.listed n).length ≤ 20 ∧
    ((s.listed n).length < 20 → continuation (s.listed n) = 120) ∧
    (∀ front last, s.listed n = front ++ [last] → (s.listed n).length = 20 → continuation (s.listed n) = last.number.val + 1) ∧
    (s.listed n).Pairwise (fun a b => a.number < b.number) ∧
    (∀ c ∈ s.listed n, n ≤ c.number.val ∧ (s.active c = true ∨ s.latched c = true)) ∧
    (∀ c, n ≤ c.number.val → (s.active c = true ∨ s.latched c = true) →
      c.number.val < continuation (s.listed n) → c ∈ s.listed n)

/-- An acknowledgement is answered DONE, with its reply placed in the own queue. The record's latch and first-set tick clear and a notice of it that waits is removed; its
active state stays with its owner, but for PORT_ERRORS, whose port's counts go to 0 with it, and NOTICE_LOST. No other record changes. A kind or subject that R136 does not
give is UNKNOWN_REQUEST (R104, R145, R149). -/
def Obligations.AcknowledgementsClearTheLatch : Prop :=
  ∀ (s : State) (kind subject : Byte), s.Routed →
    (∀ c, kind.toNat = c.kindCode → subject.toNat = c.subjectCode →
      let cleared : Desk := { s.desk.setRecord c
          { active := (s.desk.record c).active && !(c.kindCode == 13 || c.kindCode == 16), latched := false, firstSet := none } with
        notices := s.desk.notices.filter (fun e => decide (e.cond ≠ c)) }
      ∃ t, exec (.ackCondition kind subject) s = .next t ∧
        t.desk = Desk.pushOwn
          (if c = .portErrorsBus .L then { cleared with portL := { s.desk.portL with errors := 0, dropped := 0 } } else cleared)
          (makeBusFrame 0 254 kindReply [7, 0]) ∧
        (∀ d, d ≠ c → t.desk.record d = s.desk.record d) ∧
        (c.kindCode ≠ 13 ∨ c = .portErrorsBus .L → t = { s with desk := t.desk }) ∧
        (c = .portErrorsBus .F →
          t = { s with desk := t.desk, yard := { s.yard with portF := { s.yard.portF with errors := 0, dropped := 0 } } }) ∧
        (∀ p, c = .portErrorsReach p → t = { (s.setReachPort p { s.reachPort p with errors := 0 }) with desk := t.desk })) ∧
    ((∀ c : Cond, ¬(kind.toNat = c.kindCode ∧ subject.toNat = c.subjectCode)) →
      exec (.ackCondition kind subject) s = .next { s with
        desk := s.desk.pushOwn (makeBusFrame 0 254 kindReply [7, 9]) })

/-- LOAD_BEGIN, routed, is judged by the first case of R160 that holds: a SAVE in flight or an open context, an id that is no table's, a structural
table outside CONFIG, a length that no count of the table gives. Else it is answered DONE, with its reply placed in the own queue: the context opens for 300 idle ticks, a structural table
becomes LOADING, an operating table's shadow becomes LOADING with its active copy kept, and no other table changes. -/
def Obligations.LoadsOpenByTheFirstCase : Prop :=
  ∀ (s : State) (n : Byte) (len : BitVec 16), s.Routed →
    let refused (r : Byte) : Prop :=
      exec (.loadBegin n len) s = .next { s with desk := s.desk.pushOwn (makeBusFrame 0 254 kindReply [8, r]) }
    if s.saving.isSome = true ∨ s.load.isSome = true then refused 2
    else
      ((∀ id : TableId, n.toNat ≠ id.code) → refused 5) ∧
      (∀ id : TableId, n.toNat = id.code →
        if id.structural = true ∧ s.mdc.mode ≠ .config then refused 1
        else if allowedLength id len.toNat = false then refused 5
        else
          ∃ t, exec (.loadBegin n len) s = .next t ∧
            t.load = some { table := id, length := len.toNat, bytes := [], idle := s.now + 300 } ∧
            t.desk = Desk.pushOwn { s.desk with records := t.desk.records } (makeBusFrame 0 254 kindReply [8, 0]) ∧
            (∀ c, t.latched c = s.latched c) ∧
            (id.structural = true → t.tables = s.tables.setLoading id) ∧
            (id.structural = false → t = { s with
              load := t.load, tables := s.tables.shadowLoading id
              desk := s.desk.pushOwn (makeBusFrame 0 254 kindReply [8, 0]) }))

/-- What a LOAD_BEGIN that makes a structural table LOADING does to its owner, with every latch kept. GATES: every gate returns to its reset values and every queue and slot count to
empty, the grant ticks and spacing timers stay, and the active states of GATE_FAULT, GATE_UNSEEN and BYPASS_BLOCKED clear for every gate and of GATE_RUNAWAY for each that was
LOCKED. STATION: both reach ports take their reset values but for the error count, the cascade values of R120 are reset, the seen watches stop, LINK_LOST and HEAD_LOW are no longer active, and a
tailwater at the default is 0. GROUPS: every group is reset. CHANNELS: every channel is reset, headwater is invalid, tailwater at the default, head 0, and CHANNEL_STALE no longer active; the own acceptance is computed again, which gives 0, or none while the ACCEPT table is not VALID, and an ACCEPT of 0
is pending or being sent on Port U where the last one sent differs (R2, R8, R31, R43, R44, R49, R53, R103, R116, R117, R120, R140, R160). The model's choices here are that the own acceptance is computed at
the load of CHANNELS itself (log entry 33), and that no grant stays in flight after the load of GATES or GROUPS, in the model's own field (log entry 34). -/
def Obligations.GatesLoadsResetTheGates : Prop :=
  ∀ s : State, s.Routed → s.saving = none → s.load = none → s.mdc.mode = .config →
    (∃ t, exec (.loadBegin 2 576) s = .next t ∧
      t = { s with load := t.load, tables := { s.tables with gates := .loading }, yard := t.yard, desk := t.desk } ∧
      (∀ i, t.gate i = {}) ∧ (∀ k, t.group k = { s.group k with slots := 0, queue := [] }) ∧ t.yard.portF = s.yard.portF ∧
      t.yard.inFlight = [] ∧
      (∀ i, t.active (.gateFault i) = false ∧ t.active (.gateUnseen i) = false ∧ t.active (.bypassBlocked i) = false) ∧
      (∀ i, (s.gate i).state = .locked → t.active (.gateRunaway i) = false) ∧ ∀ c, t.latched c = s.latched c) ∧
    (∃ t, exec (.loadBegin 1 44) s = .next t ∧
      t = { s with
        load := t.load, tables := { s.tables with station := .loading }, yard := t.yard, lvu := t.lvu, desk := t.desk
        portU := { errors := s.portU.errors }, portD := { errors := s.portD.errors }, stationValidSince := none
        csu := { s.csu with
          lastSequence := none, received := none, lastSent := none, outSequence := 0, lastNotified := none, lastRelease := none } } ∧
      (∀ i, t.gate i = if (s.gate i).state = .unseen then { s.gate i with stateTimer := none } else s.gate i) ∧
      t.yard = { s.yard with gates := t.yard.gates } ∧
      (s.lvu.tailSource ≠ .default → t.lvu = s.lvu) ∧
      (s.lvu.tailSource = .default → t.lvu.tailwater = 0 ∧ t.lvu.headwater = s.lvu.headwater ∧
        t.lvu.head = (match s.lvu.headwater with | some h => min h 200000 | none => s.lvu.lastHead.getD 0)) ∧
      t.active (.linkLost .U) = false ∧ t.active (.linkLost .D) = false ∧ t.active .headLow = false ∧
      ∀ c, t.latched c = s.latched c) ∧
    (∃ t, exec (.loadBegin 3 16) s = .next t ∧
      t = { s with
        load := t.load, tables := { s.tables with groups := .loading }, desk := t.desk
        yard := { s.yard with groups := Vector.replicate 4 {}, inFlight := [] } } ∧
      t.desk.records = s.desk.records) ∧
    (∃ t, exec (.loadBegin 4 104) s = .next t ∧
      t = { s with
        load := t.load, tables := { s.tables with channels := .loading }, desk := t.desk, portU := t.portU, csu := t.csu
        lvu := { tailwater := s.tables.stationOr.tailwaterDefault, regime := s.lvu.regime } } ∧
      (let own : Option Nat := if s.tables.accept.active.isValid then some 0 else none
       t.csu.ownAcceptance = own ∧
       (own = none ∨ s.csu.lastSent = some 0 ∨ s.portPresent .U = false →
         t.csu = { s.csu with ownAcceptance := own } ∧ t.portU = s.portU) ∧
       (own = some 0 → s.csu.lastSent ≠ some 0 → s.portPresent .U = true → t.csu.lastSent = some 0 ∧
         (s.portU.sending.isSome = true →
           t.csu = { s.csu with ownAcceptance := own, lastSent := some 0 } ∧ t.portU = { s.portU with pendingAccept := some 0 }) ∧
         (s.portU.sending = none → s.portU.pendingRelease = none →
           t.csu = { s.csu with ownAcceptance := own, lastSent := some 0 } ∧
           t.portU = { s.portU with
             pendingAccept := none
             sending := some (makeReachFrame (BitVec.ofNat 8 s.tables.stationOr.stationNumber) 2 0 (beBytes 4 0)) }))) ∧
      (∀ c, t.active (.channelStale c) = false) ∧ ∀ c, t.latched c = s.latched c)

/-- LOAD_SEGMENT with 1 to 200 bytes is REFUSED_BUSY in STARTING. Routed, it is REFUSED_BUSY while a SAVE is in flight, and with no context REFUSED_MODE; at
another offset than the bytes received, or past the image length, it is BAD_SEGMENT and stores nothing; else its data is appended and the idle timer restarts
for 300 ticks. A reply with a context open carries the bytes received after it. The expiry of the idle timer closes the load (R161). -/
def Obligations.SegmentsAreAppended : Prop :=
  ∀ (s : State) (o : BitVec 16) (data : List Byte), 1 ≤ data.length → data.length ≤ 200 →
    let reply (payload : List Byte) : Desk := s.desk.pushOwn (makeBusFrame 0 254 kindReply payload)
    (s.ownFull = false → s.mdc.mode = .starting → exec (.loadSegment o data) s = .next { s with desk := reply [9, 2] }) ∧
    (∀ w, s.Routed → s.saving = some w →
      exec (.loadSegment o data) s = .next { s with
        desk := reply ([9, 2] ++ (match s.load with | some c => beBytes 2 c.bytes.length | none => [])) }) ∧
    (∀ c, s.load = some c → c.idle ≤ s.now → ∃ t, exec .loadIdleExpiry s = .next t ∧ t.load = none) ∧
    (s.Routed → s.saving = none → s.load = none → exec (.loadSegment o data) s = .next { s with desk := reply [9, 1] }) ∧
    (∀ c, s.Routed → s.saving = none → s.load = some c →
      if o.toNat ≠ c.bytes.length ∨ c.length < c.bytes.length + data.length then
        exec (.loadSegment o data) s = .next { s with desk := reply ([9, 6] ++ beBytes 2 c.bytes.length) }
      else
        exec (.loadSegment o data) s = .next { s with
          load := some { c with bytes := c.bytes ++ data, idle := s.now + 300 }
          desk := reply ([9, 0] ++ beBytes 2 (c.bytes.length + data.length)) })

/-- LOAD_END, routed, is REFUSED_BUSY while a SAVE is in flight and REFUSED_MODE with no context open. An image not complete is BAD_SEGMENT and changes nothing. A CRC that differs is CHECK_FAILED and
an image that fails its content check INVALID_CONTENT: the context closes, a structural table becomes INVALID, an operating table's shadow NONE, and LOAD_FAILED is raised. Else it is DONE, the context
closes and the active state of LOAD_FAILED clears: a structural table, or in CONFIG an operating one, takes the image as its contents; in other modes the image becomes the READY shadow. The owner of the table takes it: STATION starts the seen watches and the timers of the present reach
ports, without Port U resets the forecast, and gives a tailwater at the default its value; GATES starts the seen watches, CHANNELS the stale watches; in CONFIG an ACCEPT table has the own acceptance computed again and a REACH table gives an INITIAL upstream outflow its
value; no other table has an effect then. Each reply is placed in the own queue after these effects (R8, R46, R49, R103, R111, R116, R120, R156, R162). -/
def Obligations.LoadsEndByTheirChecks : Prop :=
  ∀ (s : State) (crc : BitVec 16), s.Routed →
    let reply (r : Byte) : BusFrame := makeBusFrame 0 254 kindReply [10, r]
    (s.saving.isSome = true → exec (.loadEnd crc) s = .next (s.pushOwn (reply 2))) ∧
    (s.saving = none → s.load = none → exec (.loadEnd crc) s = .next (s.pushOwn (reply 1))) ∧
    (∀ c, s.saving = none → s.load = some c →
      let dropped : State := { s with
        load := none, tables := if c.table.structural then s.tables.setInvalid c.table else s.tables.dropShadow c.table }
      if c.bytes.length < c.length then exec (.loadEnd crc) s = .next (s.pushOwn (reply 6))
      else if crc16 c.bytes ≠ crc then exec (.loadEnd crc) s = .next ((dropped.raise (.loadFailed c.table)).pushOwn (reply 7))
      else
        (parseTable c.table c.bytes = none →
          exec (.loadEnd crc) s = .next ((dropped.raise (.loadFailed c.table)).pushOwn (reply 8))) ∧
        (∀ d, parseTable c.table c.bytes = some d →
          ∃ t, exec (.loadEnd crc) s = .next t ∧ t.load = none ∧
            t.desk = (s.desk.clear (.loadFailed c.table)).pushOwn (reply 0) ∧
            (c.table.structural = true → t.tables = s.tables.setContents d) ∧
            (c.table.structural = false → s.mdc.mode = .config → t.tables = (s.tables.dropShadow c.table).setContents d) ∧
            (c.table.structural = false → s.mdc.mode ≠ .config →
              t = { s with load := none, desk := t.desk, tables := s.tables.shadowReady d }) ∧
            (let seen (i : Fin 16) : Gate :=
               if (t.cfg i).inService = true ∧ (s.gate i).state = .unseen then
                 { s.gate i with stateTimer := t.tables.station.get?.map (fun st => s.now + st.seenTimeout) }
               else s.gate i
             match d with
             | .station st =>
               let timers (p : ReachSide) : ReachPort :=
                 if t.portPresent p = true then
                   { s.reachPort p with silence := some (s.now + st.linkTimeout), period := some (s.now + st.linkPeriod) }
                 else s.reachPort p
               t = { s with
                 load := none, desk := t.desk, tables := t.tables, stationValidSince := some s.now
                 yard := { s.yard with gates := t.yard.gates }, lvu := t.lvu, portU := timers .U, portD := timers .D
                 csu := if t.portPresent .U = true then s.csu else { s.csu with
                   queue := [], upstream := t.tables.initialUpstream, upstreamSource := .initial, forecast := .tracking } } ∧
               (∀ i, t.gate i = seen i) ∧
               (s.lvu.tailSource ≠ .default → t.lvu = s.lvu) ∧
               (s.lvu.tailSource = .default → t.lvu = { s.lvu with
                 tailwater := st.tailwaterDefault, head := t.lvu.head, lastHead := t.lvu.lastHead } ∧
                 t.lvu.head = (match s.lvu.headwater with
                   | some h => min (h - st.tailwaterDefault) 200000
                   | none => s.lvu.lastHead.getD 0))
             | .gates _ =>
               t = { s with load := none, desk := t.desk, tables := t.tables, yard := { s.yard with gates := t.yard.gates } } ∧
               ∀ i, t.gate i = seen i
             | .channels _ =>
               t = { s with
                 load := none, desk := t.desk, tables := t.tables, lvu := { s.lvu with channels := t.lvu.channels } } ∧
               ∀ k : Fin 8, t.lvu.channels[k] =
                 if (t.tables.channelCfg k).role = .unused then s.lvu.channels[k]
                 else { s.lvu.channels[k] with staleWatch := some (s.now + (t.tables.channelCfg k).staleLimit) }
             | .groups _ | .conditions _ | .curve _ _ => t = { s with load := none, desk := t.desk, tables := t.tables }
             | .accept _ => s.mdc.mode = .config →
               t = { s with load := none, desk := t.desk, tables := t.tables, csu := t.csu, portU := t.portU } ∧
               t.csu.ownAcceptance = t.ownAcceptanceNow ∧
               (s.portPresent .U = true → t.csu.lastSent = t.csu.ownAcceptance) ∧
               (s.portPresent .U = false → t.csu.lastSent = s.csu.lastSent ∧ t.portU = s.portU)
             | .reach r => s.mdc.mode = .config →
               t = { s with
                 load := none, desk := t.desk, tables := t.tables
                 csu := { s.csu with upstream := if s.csu.upstreamSource = .initial then r.initial else s.csu.upstream } }
             | .ramp _ | .flood _ | .fill _ => s.mdc.mode = .config →
               t = { s with load := none, desk := t.desk, tables := t.tables })))

/-- A load given up, by LOAD_ABORT or by 300 idle ticks, closes its context and raises LOAD_FAILED; a structural table becomes INVALID, an operating table's
shadow NONE with its active copy kept. The abort is answered DONE, with its reply placed in the own queue; the idle expiry makes no reply. LOAD_ABORT is REFUSED_BUSY while a SAVE is in flight and REFUSED_MODE with no
context open (R161, R163). -/
def Obligations.LoadsGivenUpAreDropped : Prop :=
  ∀ s : State,
    let reply (r : Byte) : BusFrame := makeBusFrame 0 254 kindReply [11, r]
    (s.Routed → s.saving.isSome = true → exec .loadAbort s = .next (s.pushOwn (reply 2))) ∧
    (s.Routed → s.saving = none → s.load = none → exec .loadAbort s = .next (s.pushOwn (reply 1))) ∧
    (∀ c, s.load = some c →
      let tables := if c.table.structural then s.tables.setInvalid c.table else s.tables.dropShadow c.table
      let dropped : State := { s with load := none, tables := tables }
      let failed : Desk := s.desk.raise { now := s.now, tables := tables } (.loadFailed c.table)
      (failed.record (.loadFailed c.table)).active = true ∧ (failed.record (.loadFailed c.table)).latched = true ∧
      (s.Routed → s.saving = none → exec .loadAbort s = .next { dropped with desk := failed.pushOwn (reply 0) }) ∧
      (c.idle ≤ s.now → exec .loadIdleExpiry s = .next { dropped with desk := failed }))

/-- SAVE in CONFIG, with no restart pending, no SAVE in flight and no load open, holds the SAVE place and begins to write the VALID tables, or ends at once with
count 0 where none is VALID; with one of these it is REFUSED_BUSY; in any other mode it is REFUSED_MODE. At each completion a read-back whose CRC agrees goes on to the
next table or, after the last, ends the SAVE with the number of tables written; one whose CRC differs ends it with the table's id (R154, R168). That the read-back is an operand of the completion, and that the
slot then holds the bytes read back, is the model's choice (log entry 7). -/
def Obligations.SavesWriteTableByTable : Prop :=
  ∀ s : State,
    (s.Routed → s.mdc.mode = .config → s.mdc.restartPending = false → s.saving = none → s.load = none →
      (∀ x r, s.tables.toSave = x :: r →
        exec .save s = .next { s with
          saving := some { current := x, rest := r, written := 0 }
          desk := { s.desk with portL := { s.desk.portL with savePlace := true } } }) ∧
      (s.tables.toSave = [] →
        exec .save s = .next { s with desk := s.desk.pushOwn (makeBusFrame 0 254 kindReply [12, 0, 0]) })) ∧
    (s.Routed → s.mdc.mode = .config → s.mdc.restartPending = true ∨ s.saving.isSome = true ∨ s.load.isSome = true →
      exec .save s = .next { s with desk := s.desk.pushOwn (makeBusFrame 0 254 kindReply [12, 2]) }) ∧
    (s.Routed → s.mdc.mode ≠ .config →
      exec .save s = .next { s with desk := s.desk.pushOwn (makeBusFrame 0 254 kindReply [12, 1]) }) ∧
    (∀ (w : SaveProgress) (d : TableData) (readBack : Option (List Byte)), s.saving = some w →
      s.tables.data? w.current = some d →
      let bytes := readBack.getD (slotBytes w.current d.image)
      let flash := s.flash.set w.current.index (.holds bytes)
      let ended (r n : Nat) : State :=
        { s with
          flash := flash, saving := none
          desk := Desk.pushOwn { s.desk with portL := { s.desk.portL with savePlace := false } }
            (makeBusFrame 0 254 kindReply [12, BitVec.ofNat 8 r, BitVec.ofNat 8 n]) }
      exec (.flashWriteCompletion readBack) s = .next
        (if slotCrcOk bytes then
          (match w.rest with
           | [] => ended 0 (w.written + 1)
           | x :: r => { s with flash := flash, saving := some { current := x, rest := r, written := w.written + 1 } })
         else ended 7 w.current.code))

/-- ENTER and RESUME are REFUSED_BUSY in STARTING. ENTER outside CONFIG is REFUSED_MODE; in CONFIG it is REFUSED_BUSY with a restart pending or a SAVE in flight,
REFUSED_TABLES where the entry check fails, REFUSED_LEVEL where headwater is invalid, and else DONE: the station enters GOVERN (R127). RESUME is REFUSED_BUSY with a
restart pending, is DONE with an entry to GOVERN from FALLBACK with control present and from FROZEN with no GATE_RUNAWAY latched, and is else REFUSED_MODE (R133). At the
entry the order timer is reloaded, the round timer starts, the refresh timer is set, or with a refresh of 0 a first RELEASE goes out, control present clears, the standing target of every gate with a commanded setpoint becomes that setpoint, and from CONFIG the
regime is evaluated, with HEAD_HIGH raised at a FLOOD begun; the reply is placed in the own queue after that (R51, R97, R118, R119, R128, R129, R156). That the reason of a failed start check clears with it is the
model's choice (log entry 23). -/
def Obligations.EnterAndResumeGovern : Prop :=
  (∀ s : State, s.ownFull = false → s.mdc.mode = .starting →
    exec .enter s = .next { s with desk := s.desk.pushOwn (makeBusFrame 0 254 kindReply [13, 2]) } ∧
    exec .resume s = .next { s with desk := s.desk.pushOwn (makeBusFrame 0 254 kindReply [14, 2]) }) ∧
  ∀ s : State, s.Routed →
    let refused (c : Instr) (payload : List Byte) : Prop :=
      exec c s = .next { s with desk := s.desk.pushOwn (makeBusFrame 0 254 kindReply payload) }
    let st := s.tables.stationOr
    let governs (c : Instr) (code : Byte) (evaluated : Option Nat) : Prop :=
      let floods : Prop := ∃ h, evaluated = some h ∧ s.lvu.regime = .normal ∧ st.floodEntry ≤ h
      ∃ t, exec c s = .next t ∧ t = { s with
          mdc := t.mdc, yard := t.yard, lvu := t.lvu, rgv := t.rgv, csu := t.csu, portU := t.portU, portD := t.portD, desk := t.desk } ∧
        s.EntersGovern t ∧
        t.lvu = { s.lvu with
          regime := (match evaluated, s.lvu.regime with
            | none, r => r
            | some h, .normal => if st.floodEntry ≤ h then .flood else .normal
            | some h, .flood => if h ≤ st.floodExit then .normal else .flood) } ∧
        t.active .controlSilent = false ∧ (floods → t.Raised .headHigh) ∧
        (¬floods → t.desk = Desk.pushOwn { s.desk with records := t.desk.records } (makeBusFrame 0 254 kindReply [code, 0])) ∧
        (floods → t.desk = Desk.pushOwn { ((s.clear .controlSilent).raise .headHigh).desk with records := t.desk.records }
          (makeBusFrame 0 254 kindReply [code, 0]))
    (s.mdc.mode ≠ .config → refused .enter [13, 1]) ∧
    (s.mdc.mode = .config → s.mdc.restartPending = true ∨ s.saving ≠ none → refused .enter [13, 2]) ∧
    (s.mdc.mode = .config → s.mdc.restartPending = false → s.saving = none →
      (∀ r, s.tables.entryCheck = some r → refused .enter ([13, 4] ++ r.bytes)) ∧
      (s.tables.entryCheck = none → s.lvu.headwater = none → refused .enter [13, 3]) ∧
      (s.tables.entryCheck = none → s.lvu.headwater ≠ none → governs .enter 13 s.lvu.headwater)) ∧
    (if s.mdc.restartPending = true then refused .resume [14, 2]
     else
       match s.mdc.mode with
       | .fallback => if s.mdc.controlPresent = true then governs .resume 14 none else refused .resume [14, 1]
       | .frozen => if ∃ i, s.latched (.gateRunaway i) = true then refused .resume [14, 1] else governs .resume 14 none
       | _ => refused .resume [14, 1])

/-- The entry check passes when every required table is VALID, no two in-service gates share a drive address, and every gate of a VALID FILL table is in service. Else
it names the first failing check: the lowest required table that is not VALID, then the lowest gate that shares a drive address with the lowest other one, then the first
FILL gate not in service (R164). -/
def Obligations.EntryChecksNameTheFirstFailure : Prop :=
  ∀ t : Tables,
    (t.entryCheck = none ↔
      t.station.isValid = true ∧ t.gates.isValid = true ∧ t.groups.isValid = true ∧ t.channels.isValid = true ∧
      t.conditions.isValid = true ∧ t.ramp.active.isValid = true ∧
      (∀ i, (t.gateCfg i).inService = true → (t.curves[(t.gateCfg i).curve]).isValid = true) ∧
      (∀ i j, i ≠ j → (t.gateCfg i).inService = true → (t.gateCfg j).inService = true →
        (t.gateCfg i).driveAddress ≠ (t.gateCfg j).driveAddress) ∧
      (∀ l, t.fill.active = .valid l → ∀ i ∈ l, (t.gateCfg i).inService = true)) ∧
    (∀ id, t.entryCheck = some (.table id) →
      t.valid id = false ∧ id ∈ t.required ∧ ∀ j ∈ t.required, j.code < id.code → t.valid j = true) ∧
    (∀ i j, t.entryCheck = some (.sharedAddress i j) →
      (∀ id ∈ t.required, t.valid id = true) ∧
      i < j ∧ (t.gateCfg i).inService = true ∧ (t.gateCfg j).inService = true ∧
      (t.gateCfg i).driveAddress = (t.gateCfg j).driveAddress ∧
      (∀ k l, k < i → k ≠ l → (t.gateCfg k).inService = true → (t.gateCfg l).inService = true →
        (t.gateCfg k).driveAddress ≠ (t.gateCfg l).driveAddress) ∧
      (∀ k, k < j → k ≠ i → (t.gateCfg k).inService = true → (t.gateCfg k).driveAddress ≠ (t.gateCfg i).driveAddress)) ∧
    (∀ g, t.entryCheck = some (.fillGate g) →
      (∀ id ∈ t.required, t.valid id = true) ∧ t.sharedAddress = none ∧ (t.gateCfg g).inService = false ∧
      ∃ front rest, t.fill.active = .valid (front ++ g :: rest) ∧ ∀ i ∈ front, (t.gateCfg i).inService = true)

/-- FREEZE in GOVERN or FALLBACK, with no restart pending, is DONE and brings the station to FROZEN: timers stop, every order slot is emptied, every gate with a reported position but
UNSEEN takes it, clamped, as setpoint and target, and then acts by its state: a waiting gate is LOCKED with no motion pending, a LOCKED one stops its tCY wait and takes the pending test, a FREE one has no motion pending and its lock-allowed
instant computed again, a wicket gate in MOVING issues MOVE to its new target with the move watch restarted, a spill gate in MOVING issues STOP and enters REVERSING with trim count 2 and no motion pending, one in REVERSING takes that count with the dwell running on,
and any other goes on as it was. No gate is left in WAIT_GRANT, none of those that waited has a grant in flight, the planned outflow is that of the setpoints so set, and the reply is placed in the own queue. In CONFIG and FROZEN it is
REFUSED_MODE, with a restart pending REFUSED_BUSY (R6, R14, R29, R65, R132, R156). That a gate that waited has no grant in flight after the freeze is the model's choice (log entry 34), and so is that a wicket gate in MOVING keeps motion pending as it was
(log entry 45). -/
def Obligations.FreezeStopsTheStation : Prop :=
  ∀ s : State, s.Routed →
    let refused (r : Byte) : Prop :=
      exec .freeze s = .next { s with desk := s.desk.pushOwn (makeBusFrame 0 254 kindReply [15, r]) }
    (s.mdc.mode.governing = false → refused 1) ∧
    (s.mdc.mode.governing = true → s.mdc.restartPending = true → refused 2) ∧
    (s.mdc.mode.governing = true → s.mdc.restartPending = false →
      ∃ t, exec .freeze s = .next t ∧
        t = { s with mdc := t.mdc, yard := t.yard, rgv := t.rgv, csu := t.csu, desk := t.desk } ∧
        t.mdc = { s.mdc with mode := .frozen, orderTimer := none, controlPresent := false } ∧
        t.rgv = { s.rgv with roundTimer := none, planned := t.plannedSum } ∧
        t.csu = { s.csu with refreshTimer := none } ∧
        t.desk = (s.desk.clear .rampHeld).pushOwn (makeBusFrame 0 254 kindReply [15, 0]) ∧ t.active .rampHeld = false ∧
        (∀ i, (t.gate i).slot = none ∧ (t.gate i).standing = (s.gate i).standing) ∧
        (∀ i p, (s.gate i).state ≠ .unseen → (s.gate i).position = some p →
          (t.gate i).commanded = some ((s.cfg i).clamp p) ∧ (t.gate i).target = some ((s.cfg i).clamp p)) ∧
        (∀ i, (t.gate i).state ≠ .waitGrant ∧ ((s.gate i).state = .waitGrant → i ∉ t.yard.inFlight)) ∧
        (∀ i, (s.gate i).state = .unseen → t.gate i = { s.gate i with slot := none }) ∧
        (∀ i p, (s.gate i).position = some p →
          let g := s.gate i
          let c := s.cfg i
          let q := c.clamp p
          let set : Gate := { g with commanded := some q, target := some q, slot := none }
          (g.state = .waitGrant → t.gate i = { set with state := .locked, pending := false, stateTimer := none }) ∧
          (∀ l, g.state = .locked → g.positionAtLock = some l →
            t.gate i = { set with pending := decide (c.band < gap q l), stateTimer := none }) ∧
          (g.state = .free → (t.gate i).state = .free ∧ (t.gate i).pending = false ∧
            ((s.group c.group).queue = [] →
              let u := g.unlockCompletion.getD 0
              let settled := max (u + c.tFM) ((g.lastMoveEnd.map (· + c.tST)).getD 0)
              t.gate i = { set with
                pending := false
                stateTimer := some (max s.now
                  (if g.lockAfter || g.earlyLock then settled else max settled (max u (g.lastMoveEnd.getD 0) + c.tID))) })) ∧
          (g.state = .moving → c.kind = .wicket →
            t.gate i = { set with moveSetpoint := some q, moveWatch := some (s.now + c.moveTimeout) } ∧
            t.yard.portF.Carries (s.command i .move q)) ∧
          (g.state = .moving → c.kind = .spill →
            t.gate i = { set with
              state := .reversing, stateTimer := some (s.now + c.reversalDwell), trimCount := 2, pending := false } ∧
            t.yard.portF.Carries (s.command i .stop 0)) ∧
          (g.state = .reversing → t.gate i = { set with trimCount := 2, pending := false }) ∧
          (g.state = .recovering ∨ g.state = .unlocking ∨ g.state = .locking ∨ g.state = .faulted → t.gate i = set)))

/-- CONFIGURE is REFUSED_BUSY in STARTING. In GOVERN, FALLBACK or FROZEN, with no restart pending, it is DONE and brings the station to CONFIG when every in-service gate is LOCKED, FAULTED or UNSEEN, and is else
REFUSED_BUSY, as it is with a restart pending; in CONFIG it is REFUSED_MODE. At the entry the timers stop, the regime is NORMAL, the order slots are emptied, LOCKED gates are re-seated, lag supervision ends
and the active states of HEAD_HIGH, RAMP_HELD, CONTROL_SILENT, GATE_LAG and BYPASS_BLOCKED clear; the reply is placed in the own queue (R11, R126, R134, R156). -/
def Obligations.ConfigureReturnsToConfig : Prop :=
  (∀ s : State, s.ownFull = false → s.mdc.mode = .starting →
    exec .configure s = .next { s with desk := s.desk.pushOwn (makeBusFrame 0 254 kindReply [16, 2]) }) ∧
  ∀ s : State, s.Routed →
    let refused (r : Byte) : Prop :=
      exec .configure s = .next { s with desk := s.desk.pushOwn (makeBusFrame 0 254 kindReply [16, r]) }
    let rest : Prop := ∀ i, (s.cfg i).inService = true →
      (s.gate i).state = .locked ∨ (s.gate i).state = .faulted ∨ (s.gate i).state = .unseen
    (s.mdc.mode = .config → refused 1) ∧
    (s.mdc.mode ≠ .config → s.mdc.restartPending = true → refused 2) ∧
    (s.mdc.mode ≠ .config → s.mdc.restartPending = false → ¬rest → refused 2) ∧
    (s.mdc.mode ≠ .config → s.mdc.restartPending = false → rest →
      ∃ t, exec .configure s = .next t ∧
        t.desk = Desk.pushOwn { s.desk with records := t.desk.records } (makeBusFrame 0 254 kindReply [16, 0]) ∧
        (∀ c, t.latched c = s.latched c) ∧
        t.mdc = { s.mdc with mode := .config, phase := none, orderTimer := none, startWait := none, controlPresent := false } ∧
        t.rgv = { s.rgv with roundTimer := none } ∧ t.csu.refreshTimer = none ∧ t.lvu.regime = .normal ∧
        (∀ i, (t.gate i).slot = none ∧ (t.gate i).lagStart = none ∧ (t.gate i).state = (s.gate i).state) ∧
        (∀ i p, (s.gate i).state = .locked → (s.gate i).position = some p →
          (t.gate i).positionAtLock = some p ∧ (t.gate i).commanded = some ((s.cfg i).clamp p) ∧
          (t.gate i).target = some ((s.cfg i).clamp p) ∧ (t.gate i).pending = false) ∧
        t.active .headHigh = false ∧ t.active .rampHeld = false ∧ t.active .controlSilent = false ∧
        (∀ i, t.active (.gateLag i) = false ∧ t.active (.bypassBlocked i) = false) ∧
        t.yard.portF = s.yard.portF ∧ t.yard.groups = s.yard.groups)

/-- RESTORE_FORECAST is REFUSED_BUSY in STARTING. Routed, it is REFUSED_MODE while a present Port U is LOST; else it is answered DONE and the forecast state becomes TRACKING, with neither the queue nor
the effective upstream outflow changed (R113). -/
def Obligations.ForecastsAreRestored : Prop :=
  (∀ s : State, s.ownFull = false → s.mdc.mode = .starting →
    exec .restoreForecast s = .next { s with desk := s.desk.pushOwn (makeBusFrame 0 254 kindReply [17, 2]) }) ∧
  (∀ s : State, s.Routed →
    exec .restoreForecast s = .next
      (if s.portPresent .U = true ∧ s.portU.link = .lost then
        { s with desk := s.desk.pushOwn (makeBusFrame 0 254 kindReply [17, 1]) }
       else
        { s with
          csu := { s.csu with forecast := .tracking }
          desk := s.desk.pushOwn (makeBusFrame 0 254 kindReply [17, 0]) }))

/-- CLEAR_GATE is REFUSED_BUSY in STARTING. Routed, for a FAULTED in-service gate it is DONE: the gate returns to UNSEEN with the reset values of its record and its seen watch running, the active states of GATE_FAULT,
GATE_UNSEEN and BYPASS_BLOCKED for it clear while their latches stay, and the reply is placed in the own queue. A gate not FAULTED or not in service is REFUSED_MODE, a gate number above 15 UNKNOWN_REQUEST (R8, R28, R100, R156). The
reset values of the three fields of the record that the rules only imply are the model's choice (log entry 16). -/
def Obligations.ClearGateReturnsToUnseen : Prop :=
  (∀ (s : State) (n : Byte), s.ownFull = false → s.mdc.mode = .starting →
    exec (.clearGate n) s = .next { s with desk := s.desk.pushOwn (makeBusFrame 0 254 kindReply [18, 2]) }) ∧
  ∀ s : State, s.Routed →
    let refused (n r : Byte) : Prop :=
      exec (.clearGate n) s = .next { s with desk := s.desk.pushOwn (makeBusFrame 0 254 kindReply [18, r]) }
    (∀ n : Byte, 15 < n.toNat → refused n 9) ∧
    (∀ i : Fin 16, (s.gate i).state ≠ .faulted ∨ (s.cfg i).inService = false → refused (BitVec.ofNat 8 i.val) 1) ∧
    (∀ i : Fin 16, (s.gate i).state = .faulted → (s.cfg i).inService = true →
      ∃ t, exec (.clearGate (BitVec.ofNat 8 i.val)) s = .next t ∧ t = { s with yard := t.yard, desk := t.desk } ∧
        t.desk = Desk.pushOwn { s.desk with records := t.desk.records } (makeBusFrame 0 254 kindReply [18, 0]) ∧
        (∀ st, s.tables.station = .valid st → t.gate i = { stateTimer := some (s.now + st.seenTimeout) }) ∧
        (s.tables.station.isValid = false → t.gate i = {}) ∧ (∀ j, j ≠ i → t.gate j = s.gate j) ∧
        t.yard.groups = s.yard.groups ∧ t.yard.portF = s.yard.portF ∧
        t.active (.gateFault i) = false ∧ t.active (.gateUnseen i) = false ∧ t.active (.bypassBlocked i) = false ∧
        ∀ c, t.latched c = s.latched c)

/-- RESTART, routed, is answered DONE and becomes pending, or REFUSED_BUSY where one is pending. At the transmit completion of that reply the part restarts as one event. The tables keep their states and contents, but that the
table of an open load becomes INVALID, or its shadow NONE, and that READY shadows are taken into use where the start ends in CONFIG; the flash (but a slot being written), the start source and the station tick are kept; every queue, record and reach
port takes its reset value, the VALID tables starting the seen and stale watches, the port timers and the own acceptance of 0; and the start is decided at once: CONFIG for FLASH_HOLD and BUS, and for FLASH_AUTO where the entry check fails,
else a wait of one seen timeout, which fails at once with LEVEL_LOST where that is 0 (R3, R8, R31, R43, R103, R116, R120, R121, R124, R125, R135, R158). -/
def Obligations.RestartsFollowTheirReply : Prop :=
  ∀ s : State,
    (s.Routed → exec .restart s = .next
      (if s.mdc.restartPending then { s with desk := s.desk.pushOwn (makeBusFrame 0 254 kindReply [19, 2]) }
       else { s with
        mdc := { s.mdc with restartPending := true }
        desk := s.desk.pushOwn (makeBusFrame 0 254 kindReply [19, 0]) })) ∧
    (s.mdc.restartPending = true →
      s.desk.portL.sending = some (.own (makeBusFrame 0 254 kindReply [19, 0])) →
      let kept : Tables := match s.load with
        | some c => if c.table.structural then s.tables.setInvalid c.table else s.tables.dropShadow c.table
        | none => s.tables
      let st := kept.stationOr
      let present (n : Nat) : Prop := 1 ≤ n ∧ n ≤ 63
      let levelFails : Prop := s.mdc.source = .flashAuto ∧ kept.entryCheck = none ∧ st.seenTimeout = 0
      let timers : ReachPort := { silence := some (s.now + st.linkTimeout), period := some (s.now + st.linkPeriod) }
      ∃ t, exec (.transmitCompletion .L) s = .next t ∧
        t = {
          now := s.now, mdc := t.mdc, yard := { gates := t.yard.gates }
          lvu := { channels := t.lvu.channels, tailwater := st.tailwaterDefault }
          csu := { upstream := t.tables.initialUpstream, ownAcceptance := t.csu.ownAcceptance, lastSent := t.csu.lastSent }
          portU := t.portU, portD := t.portD, desk := t.desk, tables := t.tables
          stationValidSince := if kept.station.isValid then some s.now else none
          flash := s.cutSave, draws := s.draws, pending := s.pending } ∧
        (∀ i, t.gate i =
          if kept.station.isValid = true ∧ (kept.gateCfg i).inService = true then { stateTimer := some (s.now + st.seenTimeout) } else {}) ∧
        (∀ c : Fin 8, t.lvu.channels[c] =
          if (kept.channelCfg c).role = .unused then {} else { staleWatch := some (s.now + (kept.channelCfg c).staleLimit) }) ∧
        t.csu.ownAcceptance = (if t.tables.accept.active.isValid then some 0 else none) ∧
        (present st.upstream → t.csu.lastSent = t.csu.ownAcceptance ∧
          t.portU = { timers with
            sending := t.csu.ownAcceptance.map (fun a => makeReachFrame (BitVec.ofNat 8 st.stationNumber) 2 0 (beBytes 4 a)) }) ∧
        (¬present st.upstream → t.csu.lastSent = none ∧ t.portU = {}) ∧
        (present st.downstream → t.portD = timers) ∧ (¬present st.downstream → t.portD = {}) ∧
        (¬levelFails → t.desk = {}) ∧
        (levelFails → t.Raised .levelLost ∧ ∀ c, c ≠ .levelLost → t.desk.record c = {}) ∧
        (∀ id, id.structural = true → t.tables.stateCode id = kept.stateCode id ∧ t.tables.data? id = kept.data? id) ∧
        (kept.readyShadows = [] ∨ t.mdc.mode ≠ .config → t.tables = kept) ∧
        (t.mdc.mode = .config → t.tables.readyShadows = [] ∧ ∀ p ∈ kept.readyShadows, t.tables.data? p.1 = some p.2) ∧
        t.mdc =
          (if s.mdc.source ≠ .flashAuto then { mode := .config, source := s.mdc.source }
           else
             match kept.entryCheck with
             | some r => { mode := .config, source := s.mdc.source, startReason := some r }
             | none =>
               if st.seenTimeout = 0 then { mode := .config, source := s.mdc.source }
               else { source := s.mdc.source, phase := some .startWait, startWait := some (s.now + st.seenTimeout) }))

/-! ## Cascade -/

/-- A frame that passes the checks of a present reach port restarts its silence timer and brings the port UP, clearing LINK_LOST where it was LOST (R104, R105). A LINKCHECK does nothing
more. An ACCEPT on Port D becomes the acceptance in use, at most 1,000,000 (R115). A RELEASE on Port U becomes the last received sequence, raises NOTICE_GAP out of order and clears it in
order. It joins the forecast queue at the tail with its due tick held back to the tail's; an empty queue takes it with its own due tick, or lets it mature at once where that has been reached; a queue of 32 raises FORECAST_QUEUE_FULL and matures its head
early to make room, where else FORECAST_QUEUE_FULL is no longer active (R107 to R111). -/
def Obligations.ReachFramesAreTaken : Prop :=
  ∀ (s : State) (p : ReachSide) (f : ReachFrame), s.portPresent p = true → reachFrameValid p (s.neighbour p) f = true →
    let heard (t : State) : Prop :=
      t.reachPort p = { s.reachPort p with
        link := .up, lastValid := some s.now, silence := some (s.now + s.tables.stationOr.linkTimeout) } ∧
      ((s.reachPort p).link = .lost → t.active (.linkLost p) = false)
    (f.kind = reachLinkcheck → ∃ t, exec (.linkcheckReceived p f) s = .next t ∧ heard t ∧
      t = { (s.setReachPort p (t.reachPort p)) with desk := t.desk } ∧
      ((s.reachPort p).link ≠ .lost → t.desk = s.desk)) ∧
    (p = .D → f.kind = reachAccept → ∃ t, exec (.acceptReceived f) s = .next t ∧ heard t ∧
      t.csu = { s.csu with received := some (min (beAt f.payload 0 4) 1000000) } ∧
      t = { s with portD := t.portD, csu := t.csu, desk := t.desk }) ∧
    (p = .U → f.kind = reachRelease → s.csu.queue.length ≤ 32 →
      let out := min (beAt f.payload 0 4) 134215680
      let delay := match s.tables.reach.active with | .valid r => reachDelay out r.bands | _ => 0
      let raw := s.now + 10 * delay
      let heardRelease : Csu := { s.csu with lastSequence := some f.sequence.toNat }
      ∃ t, exec (.releaseReceived f) s = .next t ∧ heard t ∧ t = { s with portU := t.portU, csu := t.csu, desk := t.desk } ∧
        (∀ last, s.csu.lastSequence = some last →
          (f.sequence.toNat = (last + 1) % 256 → t.active .noticeGap = false) ∧
          (f.sequence.toNat ≠ (last + 1) % 256 → t.Raised .noticeGap)) ∧
        (s.csu.lastSequence = none → t.active .noticeGap = s.active .noticeGap) ∧
        (s.csu.queue.length < 32 → t.active .forecastQueueFull = false) ∧
        (s.csu.queue.length = 32 → t.Raised .forecastQueueFull) ∧
        (s.csu.queue = [] →
          t.csu = (if delay = 0 then { heardRelease with upstream := out, upstreamSource := .notice }
            else { heardRelease with queue := [{ outflow := out, due := raw }] })) ∧
        (∀ e tail, s.csu.queue = e ++ [tail] → s.csu.queue.length < 32 →
          t.csu = { heardRelease with queue := s.csu.queue ++ [{ outflow := out, due := max raw tail.due }] }) ∧
        (∀ head e tail, s.csu.queue = head :: (e ++ [tail]) → s.csu.queue.length = 32 →
          t.csu = { heardRelease with
            queue := e ++ [tail] ++ [{ outflow := out, due := max raw tail.due }]
            upstream := head.outflow, upstreamSource := .notice }))

/-- The timers and transmitters of the reach ports. At the silence expiry the port is LOST with its timer stopped and LINK_LOST raised; Port U degrades the forecast, Port D drops the received
acceptance (R105, R112, R115). At a link period the timer restarts and a LINKCHECK becomes pending, and on Port U with a VALID ACCEPT table an ACCEPT with the own acceptance too; a busy port keeps them pending, an idle one sends the first pending
kind at once (R106, R117). At a transmit completion an idle port sends RELEASE before ACCEPT before
LINKCHECK, a RELEASE with the outgoing sequence, which goes up by 1 modulo 256 (R106, R119). The own acceptance, where it is computed, is 0 in FLOOD or without headwater, else that of the first row of the ACCEPT table at or above the
headwater, or of the last row; an ACCEPT becomes pending on a present Port U where it differs from the last sent one, and is sent at once by an idle port (R116, R117). -/
def Obligations.ReachPortsKeepTheirTimers : Prop :=
  (∀ (s : State) (p : ReachSide) (e : Tick), e ≤ s.now →
    let r := s.reachPort p
    let station : Byte := BitVec.ofNat 8 s.tables.stationOr.stationNumber
    let release (q : Nat) : ReachFrame := makeReachFrame station 1 (BitVec.ofNat 8 s.csu.outSequence) (beBytes 4 q)
    let accept (a : Nat) : ReachFrame := makeReachFrame station 2 0 (beBytes 4 a)
    let linkcheck : ReachFrame := makeReachFrame station 3 0 []
    (s.portPresent p = true → r.silence = some e →
      ∃ t, exec (.reachSilenceExpiry p) s = .next t ∧
        t.reachPort p = { r with link := .lost, silence := none } ∧ t.Raised (.linkLost p) ∧
        t.csu = (match p with
          | .U => { s.csu with forecast := .degraded }
          | .D => { s.csu with received := none }) ∧
        t = { (s.setReachPort p (t.reachPort p)) with csu := t.csu, desk := t.desk }) ∧
    (s.portPresent p = true → r.period = some e →
      let own : Option Nat := match p, s.tables.accept.active with | .U, .valid _ => s.csu.ownAcceptance | _, _ => none
      let due : ReachPort := { r with
        period := some (s.now + s.tables.stationOr.linkPeriod), pendingLinkcheck := true
        pendingAccept := match own with | some a => some a | none => r.pendingAccept }
      let csu : Csu := match own with | some a => { s.csu with lastSent := some a } | none => s.csu
      ∃ t, exec (.linkPeriodExpiry p) s = .next t ∧ t = { (s.setReachPort p (t.reachPort p)) with csu := t.csu } ∧
        (r.sending.isSome = true → t.reachPort p = due ∧ t.csu = csu) ∧
        (r.sending = none →
          (∀ q, r.pendingRelease = some q →
            t.reachPort p = { due with pendingRelease := none, sending := some (release q) } ∧
            t.csu = { csu with outSequence := (s.csu.outSequence + 1) % 256 }) ∧
          (∀ a, r.pendingRelease = none → due.pendingAccept = some a →
            t.reachPort p = { due with pendingAccept := none, sending := some (accept a) } ∧ t.csu = csu) ∧
          (r.pendingRelease = none → due.pendingAccept = none →
            t.reachPort p = { due with pendingLinkcheck := false, sending := some linkcheck } ∧ t.csu = csu))) ∧
    (r.sending.isSome = true →
      ∃ t, exec (.reachTransmitCompletion p) s = .next t ∧
        t = { (s.setReachPort p (t.reachPort p)) with csu := t.csu } ∧
        (∀ q, r.pendingRelease = some q →
          t.reachPort p = { r with pendingRelease := none, sending := some (release q) } ∧
          t.csu = { s.csu with outSequence := (s.csu.outSequence + 1) % 256 }) ∧
        (∀ a, r.pendingRelease = none → r.pendingAccept = some a →
          t.reachPort p = { r with pendingAccept := none, sending := some (accept a) } ∧ t.csu = s.csu) ∧
        (r.pendingRelease = none → r.pendingAccept = none →
          t.reachPort p = { r with pendingLinkcheck := false, sending := if r.pendingLinkcheck then some linkcheck else none } ∧
          t.csu = s.csu))) ∧
  (∀ (s : State) (front rest : List AcceptRow) (row : AcceptRow), s.tables.accept.active = .valid (front ++ row :: rest) →
    (∀ h, s.lvu.headwater = some h → (∀ x ∈ front, x.threshold < h) ∧ (h ≤ row.threshold ∨ rest = [])) →
    let a := if s.lvu.regime = .flood ∨ s.lvu.headwater = none then 0 else row.acceptance
    let t := s.computeOwnAcceptance
    t = { s with portU := t.portU, csu := t.csu } ∧ t.csu.ownAcceptance = some a ∧
    (s.csu.lastSent = some a ∨ s.portPresent .U = false → t.csu.lastSent = s.csu.lastSent ∧ t.portU = s.portU) ∧
    (s.csu.lastSent ≠ some a → s.portPresent .U = true → t.csu.lastSent = some a ∧
      (s.portU.sending.isSome = true → t.portU = { s.portU with pendingAccept := some a }) ∧
      (s.portU.sending = none → s.portU.pendingRelease = none →
        t.portU = { s.portU with
          pendingAccept := none
          sending := some (makeReachFrame (BitVec.ofNat 8 s.tables.stationOr.stationNumber) 2 0 (beBytes 4 a)) })))

/-- At the due tick of the forecast queue's head, every entry due by then leaves from the head and the last of them gives the effective upstream
outflow with source NOTICE (R110, R111). At the expiry of the refresh timer in GOVERN or FALLBACK with Port D present, a RELEASE with the planned
outflow is pending or being sent, the planned outflow is the last notified outflow, the present tick the last RELEASE tick, and the timer restarts
where the notice refresh is above 0 (R118, R119). At a round that swaps in an ACCEPT table the own acceptance is computed again, and at one that swaps in a REACH table an upstream outflow with source INITIAL becomes the initial one
of that table; a round that swaps in neither leaves both as they were (R71, R111, R116). -/
def Obligations.CascadeTimersTakeEffect : Prop :=
  (∀ (s : State) (front rest : List ForecastEntry) (last : ForecastEntry),
    s.csu.queue = front ++ [last] ++ rest → (∀ x ∈ front, x.due ≤ s.now) → last.due ≤ s.now →
    (∀ x ∈ rest.head?, s.now < x.due) →
    exec .forecastDueExpiry s = .next { s with
      csu := { s.csu with queue := rest, upstream := last.outflow, upstreamSource := .notice } }) ∧
  (∀ (s : State) (e : Tick), s.csu.refreshTimer = some e → e ≤ s.now → s.mdc.mode.governing = true → s.portPresent .D = true →
    ∃ t, exec .refreshTimerExpiry s = .next t ∧ t = { s with portD := t.portD, csu := t.csu } ∧
      t.csu.lastNotified = some s.rgv.planned ∧ t.csu.lastRelease = some s.now ∧
      t.csu.refreshTimer =
        (if 0 < s.tables.stationOr.noticeRefresh then some (s.now + s.tables.stationOr.noticeRefresh) else none) ∧
      (s.portD.sending.isSome = true → t.portD = { s.portD with pendingRelease := some s.rgv.planned }) ∧
      (s.portD.sending = none →
        t.portD = { s.portD with
          pendingRelease := none
          sending := some (makeReachFrame (BitVec.ofNat 8 s.tables.stationOr.stationNumber) 1
            (BitVec.ofNat 8 s.csu.outSequence) (beBytes 4 s.rgv.planned)) } ∧
        t.csu.outSequence = (s.csu.outSequence + 1) % 256)) ∧
  (∀ (s : State) (e : Tick), s.rgv.roundTimer = some e → e ≤ s.now →
    ∃ t, exec .governingRound s = .next t ∧
      (∀ rows, s.tables.accept.shadow = .ready rows →
        t.csu.ownAcceptance = t.ownAcceptanceNow ∧ (s.portPresent .U = true → t.csu.lastSent = t.csu.ownAcceptance)) ∧
      ((∀ rows, s.tables.accept.shadow ≠ .ready rows) →
        t.csu.ownAcceptance = s.csu.ownAcceptance ∧ t.csu.lastSent = s.csu.lastSent ∧ t.portU = s.portU) ∧
      (∀ r, s.tables.reach.shadow = .ready r → s.csu.upstreamSource = .initial → t.csu.upstream = r.initial) ∧
      ((∀ r, s.tables.reach.shadow ≠ .ready r) ∨ s.csu.upstreamSource = .notice → t.csu.upstream = s.csu.upstream))

/-! ## Mode timers and the governing round -/

/-- At the expiry of the order timer CONTROL_SILENT is raised. In GOVERN the station enters FALLBACK: timer stopped, control present clear, every order slot empty, the round timer
restarted and the refresh timer set, or with a refresh of 0 a first RELEASE placed pending. In FALLBACK control present is cleared and the timer stays stopped (R96, R118, R119, R129, R130). At the expiry of the start wait LEVEL_LOST is raised and the station enters CONFIG (R125). -/
def Obligations.ModeTimersChangeTheMode : Prop :=
  ∀ (s : State) (e : Tick), e ≤ s.now →
    (s.mdc.orderTimer = some e → s.mdc.mode = .govern →
      ∃ t, exec .orderTimerExpiry s = .next t ∧ t.Raised .controlSilent ∧
        t.mdc = { s.mdc with mode := .fallback, orderTimer := none, controlPresent := false } ∧
        t.rgv = { s.rgv with roundTimer := some (s.now + s.tables.stationOr.roundInterval) } ∧
        (∀ i, (t.gate i).slot = none) ∧ t.tables = s.tables ∧ t.lvu = s.lvu ∧ s.RefreshSet t ∧ t.portU = s.portU) ∧
    (s.mdc.orderTimer = some e → s.mdc.mode = .fallback →
      ∃ t, exec .orderTimerExpiry s = .next t ∧ t.Raised .controlSilent ∧
        t.mdc = { s.mdc with orderTimer := none, controlPresent := false } ∧ t = { s with mdc := t.mdc, desk := t.desk }) ∧
    (s.mdc.mode = .starting → s.mdc.phase = some .startWait → s.mdc.startWait = some e →
      ∃ t, exec .startWaitExpiry s = .next t ∧ t.Raised .levelLost ∧
        t.mdc = { s.mdc with mode := .config, phase := none, startWait := none, orderTimer := none, controlPresent := false })

/-- A round, at the expiry of the round timer, restarts the timer and commits a planned outflow that differs from the one at its start by at most its rise limit upward
and its fall limit downward: the planned sum at the committed setpoints. Each eligible gate's commanded setpoint moves by at most its slew and never away from its target; no other gate's changes. RAMP_HELD is active exactly
after a round that is HELD (R69, R72, R79, R83, R86, R88). A gate whose setpoint changed takes it as its motion target, with lock-after flag and priority, and acts by its state: LOCKED, it is tested and may join its queue; waiting, it stays or withdraws
unless granted; FREE, it moves or stays; moving or reversing, it keeps, changes or defers its move; any other stores it (R4, R5, R10, R12, R17 to R21, R87). In GOVERN a visible order is adopted first. A target is the standing target in GOVERN, in FALLBACK the opening that the fill walk
gives a listed gate for the residual flow, else the commanded setpoint; a wicket target is capped under HEAD_LOW, a spill target raised to the flood floor in FLOOD, each is clamped (R73 to R78). At stage 1 every READY shadow becomes active (R71). A gate's step is its target less its setpoint,
bounded by its slew; a trial with a fraction of 65,536ths proposes the step cut toward zero. The first trial is the whole step: where its change of the planned sum lies within the limits every eligible gate commits it, APPLIED. Else the limit's share of that change, and three
halvings of it, are tried in turn, and the first that fits is committed, SCALED where it moves a gate, else HELD; where none fits every gate and the planned sum hold, HELD (R79, R83 to R86, R88). In GOVERN and FALLBACK with
Port D present a RELEASE is placed pending where none was notified before or the change reaches the notice threshold; else nothing of the last one changes (R89, R118). The model's choice is that a
wicket gate in MOVING judges an equal target first, and keeps motion pending and the move watch at it, and motion pending at a re-issue (log entry 21). -/
def Obligations.RoundsStayWithinTheLimits : Prop :=
  (∀ (s : State) (e : Tick), s.rgv.roundTimer = some e → e ≤ s.now →
    let s1 := s.roundStart
    let limits := s1.limits s1.plannedSum
    ∃ t, exec .governingRound s = .next t ∧
      t.rgv.roundTimer = some (s.now + s.tables.stationOr.roundInterval) ∧ t.mdc = s.mdc ∧ t.lvu = s.lvu ∧ t.tables = s1.tables ∧
      t.tables = s.tables.swapped ∧
      t.rgv.planned ≤ s1.plannedSum + limits.1 ∧ s1.plannedSum ≤ t.rgv.planned + limits.2 ∧
      ((∀ i, s1.eligible i = true → (s1.gate i).commanded ≠ none) → t.rgv.planned = t.plannedSum) ∧
      (∀ i, s1.eligible i = false → (t.gate i).commanded = (s.gate i).commanded ∧ (t.gate i).target = (s.gate i).target) ∧
      (∀ i, s1.eligible i = true →
        let g := s1.gate i
        let c := s.cfg i
        let sp := g.commanded.getD 0
        let goal := s1.roundTarget s1.fallbackFill i
        ∃ q, (t.gate i).commanded = some q ∧ gap q sp ≤ c.slew ∧
          ((sp ≤ q ∧ q ≤ goal.opening) ∨ (goal.opening ≤ q ∧ q ≤ sp)) ∧
          (q = sp → (t.gate i).target = g.target ∧ (t.gate i).lockAfter = g.lockAfter ∧ (t.gate i).priority = g.priority) ∧
          (q ≠ sp →
            let urgent : Prop := s1.lvu.regime = .flood ∧ c.kind = .spill ∧ g.positionAtLock.getD sp < q
            let priority : Priority := if s1.lvu.regime = .flood ∧ c.kind = .spill ∧ g.positionAtLock.getD sp < q then .urgent else .normal
            let taken : Gate := { g with commanded := some q, target := some q, lockAfter := goal.lockAfter, priority := priority }
            (t.gate i).target = some q ∧ (t.gate i).lockAfter = goal.lockAfter ∧ (t.gate i).priority = priority ∧
            ((t.gate i).priority = .urgent ↔ urgent) ∧
            (g.state = .recovering ∨ g.state = .unlocking ∨ g.state = .locking → t.gate i = taken) ∧
            (g.state = .reversing → t.gate i = { taken with pending := true }) ∧
            (∀ l, g.state = .locked → g.positionAtLock = some l →
              (gap q l ≤ c.band → t.gate i = { taken with pending := false, stateTimer := none }) ∧
              (c.band < gap q l → s.mdc.mode.governing = true →
                (∀ u, g.lastUnlock = some u → s.now < u + c.tCY →
                  t.gate i = { taken with pending := true, stateTimer := some (u + c.tCY) }) ∧
                ((∀ u, g.lastUnlock = some u → u + c.tCY ≤ s.now) →
                  (t.gate i).pending = true ∧ ((t.gate i).state = .waitGrant ∨ (t.gate i).state = .unlocking)))) ∧
            (∀ l, g.state = .waitGrant → g.positionAtLock = some l →
              (gap q l ≤ c.band →
                (t.gate i).state = .locked ∧ (t.gate i).pending = false ∨ (t.gate i).state = .unlocking) ∧
              (c.band < gap q l → (t.gate i).state = .waitGrant ∧ (t.gate i).pending = true ∨ (t.gate i).state = .unlocking)) ∧
            (∀ p, g.state = .free → g.position = some p →
              (gap q p ≤ c.band → (t.gate i).state = .free ∧ (t.gate i).pending = false) ∧
              (c.band < gap q p → c.kind = .wicket →
                t.gate i = { taken with
                  state := .moving, pending := false, earlyLock := false, moveSetpoint := some q, stateTimer := none
                  moveWatch := some (s.now + c.moveTimeout) } ∧
                t.yard.portF.Carries (s.command i .move q)) ∧
              (c.band < gap q p → c.kind = .spill →
                t.gate i = { taken with
                  state := .moving, pending := false, earlyLock := false, moveSetpoint := some q, trimCount := 0
                  raising := decide (p < q), stateTimer := some (s.now + runLength c (gap q p))
                  moveWatch := some (s.now + c.moveTimeout) } ∧
                t.yard.portF.Carries (s.command i (if p < q then .runRaise else .runLower) 0))) ∧
            (∀ p m, g.state = .moving → c.kind = .wicket → g.position = some p → g.moveSetpoint = some m →
              if q = m then t.gate i = taken
              else if (p < m ∧ p + c.band < q) ∨ (m < p ∧ q + c.band < p) then
                t.gate i = { taken with moveSetpoint := some q, moveWatch := some (s.now + c.moveTimeout) } ∧
                t.yard.portF.Carries (s.command i .move q)
              else t.gate i = { taken with pending := true }) ∧
            (∀ p, g.state = .moving → c.kind = .spill → g.position = some p →
              if (g.raising = true ∧ p + c.band < q) ∨ (g.raising = false ∧ q + c.band < p) then
                t.gate i = { taken with
                  moveSetpoint := some q, trimCount := 0, stateTimer := some (s.now + runLength c (gap q p))
                  moveWatch := some (s.now + c.moveTimeout) }
              else
                t.gate i = { taken with state := .reversing, pending := true, stateTimer := some (s.now + c.reversalDwell) } ∧
                t.yard.portF.Carries (s.command i .stop 0)))) ∧
      t.active .rampHeld = decide (t.rgv.lastResult = .held)) ∧
  (∀ (s : State) (e : Tick), s.rgv.roundTimer = some e → e ≤ s.now →
    let s1 := s.roundStart
    let limits := s1.limits s1.plannedSum
    let sp (i : Fin 16) : Nat := (s1.gate i).commanded.getD 0
    let step (i : Fin 16) : Int :=
      max (-((s.cfg i).slew : Int)) (min (((s1.roundTarget s1.fallbackFill i).opening : Int) - (sp i : Int)) ((s.cfg i).slew : Int))
    let proposed (f : Nat) (i : Fin 16) : Nat := ((sp i : Int) + (step i * (f : Int)).tdiv 65536).toNat
    let sum (f : Nat) : Nat := (allGates.map (fun j =>
      (contribution s1.tables s1.lvu.head j (s1.gate j) (if s1.eligible j = true then some (proposed f j) else (s1.gate j).commanded)).1)).sum
    let change (f : Nat) : Int := (sum f : Int) - (s1.plannedSum : Int)
    let fits (f : Nat) : Bool := decide (-(limits.2 : Int) ≤ change f ∧ change f ≤ (limits.1 : Int))
    let second : Nat := 65536 * (if 0 < change 65536 then limits.1 else limits.2) / (change 65536).natAbs
    ∃ t, exec .governingRound s = .next t ∧
      (let committed (f : Nat) : Prop :=
         (∀ i, s1.eligible i = true → (t.gate i).commanded = some (proposed f i)) ∧ t.rgv.planned = sum f
       let scaled (f : Nat) : Prop := committed f ∧
         t.rgv.lastResult = (if ∃ i, s1.eligible i = true ∧ proposed f i ≠ sp i then .scaled else .held)
       if fits 65536 = true then committed 65536 ∧ t.rgv.lastResult = .applied
       else if fits second = true then scaled second
       else if fits (second / 2) = true then scaled (second / 2)
       else if fits (second / 4) = true then scaled (second / 4)
       else if fits (second / 8) = true then scaled (second / 8)
       else
         (∀ i, s1.eligible i = true → (t.gate i).commanded = some (sp i)) ∧ t.rgv.planned = s1.plannedSum ∧
         t.rgv.lastResult = .held) ∧
      (let notifies : Prop := s.mdc.mode.governing = true ∧ s.portPresent .D = true ∧
         ∀ last, s1.csu.lastNotified = some last → s.tables.stationOr.noticeThreshold ≤ gap t.rgv.planned last
       t.portU = s1.portU ∧
       (notifies → s1.Notified t t.rgv.planned s1.csu.outSequence ∧
         t.csu = { s1.csu with
           lastNotified := t.csu.lastNotified, lastRelease := t.csu.lastRelease, refreshTimer := t.csu.refreshTimer
           outSequence := t.csu.outSequence }) ∧
       (¬notifies → t.csu = s1.csu ∧ t.portD = s.portD))) ∧
  (∀ (s : State) (i : Fin 16), s.roundStart.gate i =
    (match s.mdc.mode, s.eligible i, (s.gate i).slot with
     | .govern, true, some o =>
       if o.visible then
         { s.gate i with slot := none, standing := { opening := some o.opening, lockAfter := o.lockAfter, origin := .order } }
       else s.gate i
     | _, _, _ => s.gate i)) ∧
  (∀ (s : State) (fill : List (Fin 16 × Nat)) (i : Fin 16),
    let g := s.gate i
    let c := s.cfg i
    let sp := g.commanded.getD 0
    let asked : Nat := if s.mdc.mode = .govern then g.standing.opening.getD sp else (openingIn fill i).getD sp
    let capped : Nat := if s.active .headLow = true ∧ c.kind = .wicket then min asked sp else asked
    let floods : Prop := s.lvu.regime = .flood ∧ c.kind = .spill ∧ capped < s.floor
    (s.roundTarget fill i).opening = max c.minOpening (min (if capped < s.floor ∧ s.lvu.regime = .flood ∧ c.kind = .spill then s.floor else capped) c.maxOpening) ∧
    (floods → (s.roundTarget fill i).lockAfter = true) ∧
    (¬floods → (s.roundTarget fill i).lockAfter =
      (if s.mdc.mode = .govern ∧ g.standing.opening.isSome = true then g.standing.lockAfter else true))) ∧
  (∀ (s : State) (front rest : List FloodRow) (h : Nat), s.tables.flood.active = .valid (front ++ rest) →
    (s.lvu.headwater = some h ∨ s.lvu.headwater = none ∧ s.lvu.lastHeadwater = some h) → (∀ x ∈ rest, h < x.threshold) →
    (front = [] → s.floor = 0) ∧ (∀ f row, front = f ++ [row] → row.threshold ≤ h → s.floor = row.opening)) ∧
  (∀ (s : State) (list before after : List (Fin 16)) (i : Fin 16), s.tables.fill.active = .valid list → list.Nodup →
    list.filter s.eligible = before ++ i :: after →
    let walked := list.filter s.eligible
    let flow (j : Fin 16) : Nat := (s.tables.gateFlow j ((openingIn s.fallbackFill j).getD 0) s.lvu.head).getD 0
    let others : Nat := (allGates.map (fun j =>
      if walked.contains j then 0 else (contribution s.tables s.lvu.head j (s.gate j) (s.gate j).commanded).1)).sum
    if s.csu.forecast = .tracking then
      openingIn s.fallbackFill i =
        some (s.tables.openingForFlow i (s.forecastInflow - others - (before.map flow).sum) s.lvu.head)
    else s.fallbackFill = [])

/-- A per-minute limit L over a round of T ticks becomes floor(L × T / 600), but 1 where that is 0 and L is not; 0 stays 0. The rise and the fall limit of
a round are so converted over the round interval (R82). The per-minute limits are those of the band for the planned outflow at the round's start: the first whose upper bound reaches it, or the last one (R80). The fall limit is the band's. The rise limit is the flood rise limit in FLOOD; in
NORMAL it is the band's, or the acceptance in use where that is smaller: the one received on a present Port D, else the default one, and no bound without Port D (R81, R114). -/
def Obligations.LimitsAreConvertedPerRound : Prop :=
  (∀ (s : State) (q : Nat) (r : Ramp) (front rest : List RampBand) (b : RampBand), s.tables.ramp.active = .valid r →
    r.bands = front ++ b :: rest → (∀ x ∈ front, x.upper < q) → (q ≤ b.upper ∨ rest = []) →
    let l := s.limitsPerMinute q
    l.2 = b.fall ∧ (s.lvu.regime = .flood → l.1 = r.floodRise) ∧
    (s.lvu.regime = .normal →
      (∀ a, s.portPresent .D = true → s.csu.received = some a → l.1 = min b.rise a) ∧
      (s.portPresent .D = true → s.csu.received = none → l.1 = min b.rise s.tables.stationOr.defaultAcceptance) ∧
      (s.portPresent .D = false → l.1 = b.rise))) ∧
  (∀ (s : State) (q : Nat),
    s.limits q =
      (perRound (s.limitsPerMinute q).1 s.tables.stationOr.roundInterval, perRound (s.limitsPerMinute q).2 s.tables.stationOr.roundInterval)) ∧
  ∀ l t : Nat,
    (l * t / 600 = 0 → perRound l t = (if l = 0 then 0 else 1)) ∧
    (l * t / 600 ≠ 0 → 600 * perRound l t ≤ l * t ∧ l * t < 600 * (perRound l t + 1)) ∧ perRound 0 t = 0

/-- Gate flow is the value of R59 times 2 to the scale shift. For a curve that passes its content check it never falls as the opening or the head rises, and is
at most 8,388,480 fu (R60). -/
def Obligations.FlowRisesWithOpeningAndHead : Prop :=
  (∀ (c : Curve) (o h : Nat), c.flow o h = c.valueFrom o h 0 c.heads * 2 ^ c.shift) ∧
  ∀ (c : Curve), curveOk c = true → ∀ o o' h h' : Nat, o ≤ o' → o' ≤ 1000 → h ≤ h' →
    c.flow o h ≤ c.flow o' h' ∧ c.flow o h ≤ 8388480

/-- The opening for a flow is the smallest within the gate's bounds that passes it, or the maximum opening where none does; the minimum opening where that passes it
already. On a VALID curve every opening above the answer passes the flow too, where the maximum does (R62). -/
def Obligations.OpeningsForFlowsAreSmallest : Prop :=
  ∀ (t : Tables) (i : Fin 16) (r head : Nat),
    let c := t.gateCfg i
    let q (o : Nat) : Nat := (t.gateFlow i o head).getD 0
    let a := t.openingForFlow i r head
    c.minOpening ≤ c.maxOpening →
    c.minOpening ≤ a ∧ a ≤ c.maxOpening ∧ (∀ o, c.minOpening ≤ o → o < a → q o < r) ∧ (r ≤ q a ∨ a = c.maxOpening) ∧
    (r ≤ q c.minOpening → a = c.minOpening) ∧
    (∀ x, t.curves[c.curve] = .valid x → curveOk x = true → c.maxOpening ≤ 1000 →
      (q c.maxOpening < r → a = c.maxOpening) ∧ (r ≤ q c.maxOpening → ∀ o, a ≤ o → o ≤ c.maxOpening → r ≤ q o))

/-! ## Invariants -/

/-- Every step keeps the port queues within their places. -/
def Obligations.QueuesStayBounded : Prop :=
  ∀ s t : State, s.QueuesOk → step s = .next t → t.QueuesOk

/-- Every step keeps the notice queue in its order, of latched records, one for each, at most 16. -/
def Obligations.NoticesStayInOrder : Prop :=
  ∀ s t : State, s.NoticesOk → step s = .next t → t.NoticesOk

/-- Every step keeps the forecast queue at most 32 long with due ticks that never fall. -/
def Obligations.ForecastsStayInOrder : Prop :=
  ∀ s t : State, s.ForecastOk → step s = .next t → t.ForecastOk

/-- Every step keeps timers, flags, order slots and loads to the modes that allow them. -/
def Obligations.TimersFollowTheMode : Prop :=
  ∀ s t : State, s.ModeOk → step s = .next t → t.ModeOk

/-- The reset state meets the four invariants. -/
def Obligations.ResetMeetsTheInvariants : Prop :=
  State.reset.QueuesOk ∧ State.reset.NoticesOk ∧ State.reset.ForecastOk ∧ State.reset.ModeOk
end

