-- ==== Sys2Proof/Laws/State.lean ====
section
/-! SUPPORT. One lemma for each field and each update of the state: what the named updates leave alone, and what reading back what
they wrote gives. All hold by unfolding, so later proofs need not unfold an update. -/

namespace Sys2Proof.Machine

/-! ## raise -/

@[simp] theorem State.raise_now (s : State) (c : Cond) : (s.raise c).now = s.now := rfl
@[simp] theorem State.raise_mdc (s : State) (c : Cond) : (s.raise c).mdc = s.mdc := rfl
@[simp] theorem State.raise_yard (s : State) (c : Cond) : (s.raise c).yard = s.yard := rfl
@[simp] theorem State.raise_lvu (s : State) (c : Cond) : (s.raise c).lvu = s.lvu := rfl
@[simp] theorem State.raise_rgv (s : State) (c : Cond) : (s.raise c).rgv = s.rgv := rfl
@[simp] theorem State.raise_csu (s : State) (c : Cond) : (s.raise c).csu = s.csu := rfl
@[simp] theorem State.raise_portU (s : State) (c : Cond) : (s.raise c).portU = s.portU := rfl
@[simp] theorem State.raise_portD (s : State) (c : Cond) : (s.raise c).portD = s.portD := rfl
@[simp] theorem State.raise_tables (s : State) (c : Cond) : (s.raise c).tables = s.tables := rfl
@[simp] theorem State.raise_stationValidSince (s : State) (c : Cond) : (s.raise c).stationValidSince = s.stationValidSince := rfl
@[simp] theorem State.raise_load (s : State) (c : Cond) : (s.raise c).load = s.load := rfl
@[simp] theorem State.raise_saving (s : State) (c : Cond) : (s.raise c).saving = s.saving := rfl
@[simp] theorem State.raise_boot (s : State) (c : Cond) : (s.raise c).boot = s.boot := rfl
@[simp] theorem State.raise_flash (s : State) (c : Cond) : (s.raise c).flash = s.flash := rfl
@[simp] theorem State.raise_draws (s : State) (c : Cond) : (s.raise c).draws = s.draws := rfl
@[simp] theorem State.raise_pending (s : State) (c : Cond) : (s.raise c).pending = s.pending := rfl

/-! ## clear -/

@[simp] theorem State.clear_now (s : State) (c : Cond) : (s.clear c).now = s.now := rfl
@[simp] theorem State.clear_mdc (s : State) (c : Cond) : (s.clear c).mdc = s.mdc := rfl
@[simp] theorem State.clear_yard (s : State) (c : Cond) : (s.clear c).yard = s.yard := rfl
@[simp] theorem State.clear_lvu (s : State) (c : Cond) : (s.clear c).lvu = s.lvu := rfl
@[simp] theorem State.clear_rgv (s : State) (c : Cond) : (s.clear c).rgv = s.rgv := rfl
@[simp] theorem State.clear_csu (s : State) (c : Cond) : (s.clear c).csu = s.csu := rfl
@[simp] theorem State.clear_portU (s : State) (c : Cond) : (s.clear c).portU = s.portU := rfl
@[simp] theorem State.clear_portD (s : State) (c : Cond) : (s.clear c).portD = s.portD := rfl
@[simp] theorem State.clear_tables (s : State) (c : Cond) : (s.clear c).tables = s.tables := rfl
@[simp] theorem State.clear_stationValidSince (s : State) (c : Cond) : (s.clear c).stationValidSince = s.stationValidSince := rfl
@[simp] theorem State.clear_load (s : State) (c : Cond) : (s.clear c).load = s.load := rfl
@[simp] theorem State.clear_saving (s : State) (c : Cond) : (s.clear c).saving = s.saving := rfl
@[simp] theorem State.clear_boot (s : State) (c : Cond) : (s.clear c).boot = s.boot := rfl
@[simp] theorem State.clear_flash (s : State) (c : Cond) : (s.clear c).flash = s.flash := rfl
@[simp] theorem State.clear_draws (s : State) (c : Cond) : (s.clear c).draws = s.draws := rfl
@[simp] theorem State.clear_pending (s : State) (c : Cond) : (s.clear c).pending = s.pending := rfl

/-! ## clearAll -/

@[simp] theorem State.clearAll_now (s : State) (l : List Cond) : (s.clearAll l).now = s.now := rfl
@[simp] theorem State.clearAll_mdc (s : State) (l : List Cond) : (s.clearAll l).mdc = s.mdc := rfl
@[simp] theorem State.clearAll_yard (s : State) (l : List Cond) : (s.clearAll l).yard = s.yard := rfl
@[simp] theorem State.clearAll_lvu (s : State) (l : List Cond) : (s.clearAll l).lvu = s.lvu := rfl
@[simp] theorem State.clearAll_rgv (s : State) (l : List Cond) : (s.clearAll l).rgv = s.rgv := rfl
@[simp] theorem State.clearAll_csu (s : State) (l : List Cond) : (s.clearAll l).csu = s.csu := rfl
@[simp] theorem State.clearAll_portU (s : State) (l : List Cond) : (s.clearAll l).portU = s.portU := rfl
@[simp] theorem State.clearAll_portD (s : State) (l : List Cond) : (s.clearAll l).portD = s.portD := rfl
@[simp] theorem State.clearAll_tables (s : State) (l : List Cond) : (s.clearAll l).tables = s.tables := rfl
@[simp] theorem State.clearAll_stationValidSince (s : State) (l : List Cond) : (s.clearAll l).stationValidSince = s.stationValidSince := rfl
@[simp] theorem State.clearAll_load (s : State) (l : List Cond) : (s.clearAll l).load = s.load := rfl
@[simp] theorem State.clearAll_saving (s : State) (l : List Cond) : (s.clearAll l).saving = s.saving := rfl
@[simp] theorem State.clearAll_boot (s : State) (l : List Cond) : (s.clearAll l).boot = s.boot := rfl
@[simp] theorem State.clearAll_flash (s : State) (l : List Cond) : (s.clearAll l).flash = s.flash := rfl
@[simp] theorem State.clearAll_draws (s : State) (l : List Cond) : (s.clearAll l).draws = s.draws := rfl
@[simp] theorem State.clearAll_pending (s : State) (l : List Cond) : (s.clearAll l).pending = s.pending := rfl

/-! ## pushOwn -/

@[simp] theorem State.pushOwn_now (s : State) (f : BusFrame) : (s.pushOwn f).now = s.now := rfl
@[simp] theorem State.pushOwn_mdc (s : State) (f : BusFrame) : (s.pushOwn f).mdc = s.mdc := rfl
@[simp] theorem State.pushOwn_yard (s : State) (f : BusFrame) : (s.pushOwn f).yard = s.yard := rfl
@[simp] theorem State.pushOwn_lvu (s : State) (f : BusFrame) : (s.pushOwn f).lvu = s.lvu := rfl
@[simp] theorem State.pushOwn_rgv (s : State) (f : BusFrame) : (s.pushOwn f).rgv = s.rgv := rfl
@[simp] theorem State.pushOwn_csu (s : State) (f : BusFrame) : (s.pushOwn f).csu = s.csu := rfl
@[simp] theorem State.pushOwn_portU (s : State) (f : BusFrame) : (s.pushOwn f).portU = s.portU := rfl
@[simp] theorem State.pushOwn_portD (s : State) (f : BusFrame) : (s.pushOwn f).portD = s.portD := rfl
@[simp] theorem State.pushOwn_tables (s : State) (f : BusFrame) : (s.pushOwn f).tables = s.tables := rfl
@[simp] theorem State.pushOwn_stationValidSince (s : State) (f : BusFrame) : (s.pushOwn f).stationValidSince = s.stationValidSince := rfl
@[simp] theorem State.pushOwn_load (s : State) (f : BusFrame) : (s.pushOwn f).load = s.load := rfl
@[simp] theorem State.pushOwn_saving (s : State) (f : BusFrame) : (s.pushOwn f).saving = s.saving := rfl
@[simp] theorem State.pushOwn_boot (s : State) (f : BusFrame) : (s.pushOwn f).boot = s.boot := rfl
@[simp] theorem State.pushOwn_flash (s : State) (f : BusFrame) : (s.pushOwn f).flash = s.flash := rfl
@[simp] theorem State.pushOwn_draws (s : State) (f : BusFrame) : (s.pushOwn f).draws = s.draws := rfl
@[simp] theorem State.pushOwn_pending (s : State) (f : BusFrame) : (s.pushOwn f).pending = s.pending := rfl

/-! ## reply -/

@[simp] theorem State.reply_now (s : State) (k : Byte) (r : Result) (d : List Byte) : (s.reply k r d).now = s.now := rfl
@[simp] theorem State.reply_mdc (s : State) (k : Byte) (r : Result) (d : List Byte) : (s.reply k r d).mdc = s.mdc := rfl
@[simp] theorem State.reply_yard (s : State) (k : Byte) (r : Result) (d : List Byte) : (s.reply k r d).yard = s.yard := rfl
@[simp] theorem State.reply_lvu (s : State) (k : Byte) (r : Result) (d : List Byte) : (s.reply k r d).lvu = s.lvu := rfl
@[simp] theorem State.reply_rgv (s : State) (k : Byte) (r : Result) (d : List Byte) : (s.reply k r d).rgv = s.rgv := rfl
@[simp] theorem State.reply_csu (s : State) (k : Byte) (r : Result) (d : List Byte) : (s.reply k r d).csu = s.csu := rfl
@[simp] theorem State.reply_portU (s : State) (k : Byte) (r : Result) (d : List Byte) : (s.reply k r d).portU = s.portU := rfl
@[simp] theorem State.reply_portD (s : State) (k : Byte) (r : Result) (d : List Byte) : (s.reply k r d).portD = s.portD := rfl
@[simp] theorem State.reply_tables (s : State) (k : Byte) (r : Result) (d : List Byte) : (s.reply k r d).tables = s.tables := rfl
@[simp] theorem State.reply_stationValidSince (s : State) (k : Byte) (r : Result) (d : List Byte) : (s.reply k r d).stationValidSince = s.stationValidSince := rfl
@[simp] theorem State.reply_load (s : State) (k : Byte) (r : Result) (d : List Byte) : (s.reply k r d).load = s.load := rfl
@[simp] theorem State.reply_saving (s : State) (k : Byte) (r : Result) (d : List Byte) : (s.reply k r d).saving = s.saving := rfl
@[simp] theorem State.reply_boot (s : State) (k : Byte) (r : Result) (d : List Byte) : (s.reply k r d).boot = s.boot := rfl
@[simp] theorem State.reply_flash (s : State) (k : Byte) (r : Result) (d : List Byte) : (s.reply k r d).flash = s.flash := rfl
@[simp] theorem State.reply_draws (s : State) (k : Byte) (r : Result) (d : List Byte) : (s.reply k r d).draws = s.draws := rfl
@[simp] theorem State.reply_pending (s : State) (k : Byte) (r : Result) (d : List Byte) : (s.reply k r d).pending = s.pending := rfl

/-! ## dropOwn -/

@[simp] theorem State.dropOwn_now (s : State) : (s.dropOwn).now = s.now := rfl
@[simp] theorem State.dropOwn_mdc (s : State) : (s.dropOwn).mdc = s.mdc := rfl
@[simp] theorem State.dropOwn_yard (s : State) : (s.dropOwn).yard = s.yard := rfl
@[simp] theorem State.dropOwn_lvu (s : State) : (s.dropOwn).lvu = s.lvu := rfl
@[simp] theorem State.dropOwn_rgv (s : State) : (s.dropOwn).rgv = s.rgv := rfl
@[simp] theorem State.dropOwn_csu (s : State) : (s.dropOwn).csu = s.csu := rfl
@[simp] theorem State.dropOwn_portU (s : State) : (s.dropOwn).portU = s.portU := rfl
@[simp] theorem State.dropOwn_portD (s : State) : (s.dropOwn).portD = s.portD := rfl
@[simp] theorem State.dropOwn_tables (s : State) : (s.dropOwn).tables = s.tables := rfl
@[simp] theorem State.dropOwn_stationValidSince (s : State) : (s.dropOwn).stationValidSince = s.stationValidSince := rfl
@[simp] theorem State.dropOwn_load (s : State) : (s.dropOwn).load = s.load := rfl
@[simp] theorem State.dropOwn_saving (s : State) : (s.dropOwn).saving = s.saving := rfl
@[simp] theorem State.dropOwn_boot (s : State) : (s.dropOwn).boot = s.boot := rfl
@[simp] theorem State.dropOwn_flash (s : State) : (s.dropOwn).flash = s.flash := rfl
@[simp] theorem State.dropOwn_draws (s : State) : (s.dropOwn).draws = s.draws := rfl
@[simp] theorem State.dropOwn_pending (s : State) : (s.dropOwn).pending = s.pending := rfl

/-! ## setGate -/

@[simp] theorem State.setGate_now (s : State) (i : Fin 16) (g : Gate) : (s.setGate i g).now = s.now := rfl
@[simp] theorem State.setGate_mdc (s : State) (i : Fin 16) (g : Gate) : (s.setGate i g).mdc = s.mdc := rfl
@[simp] theorem State.setGate_lvu (s : State) (i : Fin 16) (g : Gate) : (s.setGate i g).lvu = s.lvu := rfl
@[simp] theorem State.setGate_rgv (s : State) (i : Fin 16) (g : Gate) : (s.setGate i g).rgv = s.rgv := rfl
@[simp] theorem State.setGate_csu (s : State) (i : Fin 16) (g : Gate) : (s.setGate i g).csu = s.csu := rfl
@[simp] theorem State.setGate_portU (s : State) (i : Fin 16) (g : Gate) : (s.setGate i g).portU = s.portU := rfl
@[simp] theorem State.setGate_portD (s : State) (i : Fin 16) (g : Gate) : (s.setGate i g).portD = s.portD := rfl
@[simp] theorem State.setGate_desk (s : State) (i : Fin 16) (g : Gate) : (s.setGate i g).desk = s.desk := rfl
@[simp] theorem State.setGate_tables (s : State) (i : Fin 16) (g : Gate) : (s.setGate i g).tables = s.tables := rfl
@[simp] theorem State.setGate_stationValidSince (s : State) (i : Fin 16) (g : Gate) : (s.setGate i g).stationValidSince = s.stationValidSince := rfl
@[simp] theorem State.setGate_load (s : State) (i : Fin 16) (g : Gate) : (s.setGate i g).load = s.load := rfl
@[simp] theorem State.setGate_saving (s : State) (i : Fin 16) (g : Gate) : (s.setGate i g).saving = s.saving := rfl
@[simp] theorem State.setGate_boot (s : State) (i : Fin 16) (g : Gate) : (s.setGate i g).boot = s.boot := rfl
@[simp] theorem State.setGate_flash (s : State) (i : Fin 16) (g : Gate) : (s.setGate i g).flash = s.flash := rfl
@[simp] theorem State.setGate_draws (s : State) (i : Fin 16) (g : Gate) : (s.setGate i g).draws = s.draws := rfl
@[simp] theorem State.setGate_pending (s : State) (i : Fin 16) (g : Gate) : (s.setGate i g).pending = s.pending := rfl

/-! ## setChannel -/

@[simp] theorem State.setChannel_now (s : State) (c : Fin 8) (r : Channel) : (s.setChannel c r).now = s.now := rfl
@[simp] theorem State.setChannel_mdc (s : State) (c : Fin 8) (r : Channel) : (s.setChannel c r).mdc = s.mdc := rfl
@[simp] theorem State.setChannel_yard (s : State) (c : Fin 8) (r : Channel) : (s.setChannel c r).yard = s.yard := rfl
@[simp] theorem State.setChannel_rgv (s : State) (c : Fin 8) (r : Channel) : (s.setChannel c r).rgv = s.rgv := rfl
@[simp] theorem State.setChannel_csu (s : State) (c : Fin 8) (r : Channel) : (s.setChannel c r).csu = s.csu := rfl
@[simp] theorem State.setChannel_portU (s : State) (c : Fin 8) (r : Channel) : (s.setChannel c r).portU = s.portU := rfl
@[simp] theorem State.setChannel_portD (s : State) (c : Fin 8) (r : Channel) : (s.setChannel c r).portD = s.portD := rfl
@[simp] theorem State.setChannel_desk (s : State) (c : Fin 8) (r : Channel) : (s.setChannel c r).desk = s.desk := rfl
@[simp] theorem State.setChannel_tables (s : State) (c : Fin 8) (r : Channel) : (s.setChannel c r).tables = s.tables := rfl
@[simp] theorem State.setChannel_stationValidSince (s : State) (c : Fin 8) (r : Channel) : (s.setChannel c r).stationValidSince = s.stationValidSince := rfl
@[simp] theorem State.setChannel_load (s : State) (c : Fin 8) (r : Channel) : (s.setChannel c r).load = s.load := rfl
@[simp] theorem State.setChannel_saving (s : State) (c : Fin 8) (r : Channel) : (s.setChannel c r).saving = s.saving := rfl
@[simp] theorem State.setChannel_boot (s : State) (c : Fin 8) (r : Channel) : (s.setChannel c r).boot = s.boot := rfl
@[simp] theorem State.setChannel_flash (s : State) (c : Fin 8) (r : Channel) : (s.setChannel c r).flash = s.flash := rfl
@[simp] theorem State.setChannel_draws (s : State) (c : Fin 8) (r : Channel) : (s.setChannel c r).draws = s.draws := rfl
@[simp] theorem State.setChannel_pending (s : State) (c : Fin 8) (r : Channel) : (s.setChannel c r).pending = s.pending := rfl

/-! ## computeHead -/

@[simp] theorem State.computeHead_now (s : State) : (s.computeHead).now = s.now := rfl
@[simp] theorem State.computeHead_mdc (s : State) : (s.computeHead).mdc = s.mdc := rfl
@[simp] theorem State.computeHead_yard (s : State) : (s.computeHead).yard = s.yard := rfl
@[simp] theorem State.computeHead_rgv (s : State) : (s.computeHead).rgv = s.rgv := rfl
@[simp] theorem State.computeHead_csu (s : State) : (s.computeHead).csu = s.csu := rfl
@[simp] theorem State.computeHead_portU (s : State) : (s.computeHead).portU = s.portU := rfl
@[simp] theorem State.computeHead_portD (s : State) : (s.computeHead).portD = s.portD := rfl
@[simp] theorem State.computeHead_desk (s : State) : (s.computeHead).desk = s.desk := rfl
@[simp] theorem State.computeHead_tables (s : State) : (s.computeHead).tables = s.tables := rfl
@[simp] theorem State.computeHead_stationValidSince (s : State) : (s.computeHead).stationValidSince = s.stationValidSince := rfl
@[simp] theorem State.computeHead_load (s : State) : (s.computeHead).load = s.load := rfl
@[simp] theorem State.computeHead_saving (s : State) : (s.computeHead).saving = s.saving := rfl
@[simp] theorem State.computeHead_boot (s : State) : (s.computeHead).boot = s.boot := rfl
@[simp] theorem State.computeHead_flash (s : State) : (s.computeHead).flash = s.flash := rfl
@[simp] theorem State.computeHead_draws (s : State) : (s.computeHead).draws = s.draws := rfl
@[simp] theorem State.computeHead_pending (s : State) : (s.computeHead).pending = s.pending := rfl

/-! ## stopRefresh -/

@[simp] theorem State.stopRefresh_now (s : State) : (s.stopRefresh).now = s.now := rfl
@[simp] theorem State.stopRefresh_mdc (s : State) : (s.stopRefresh).mdc = s.mdc := rfl
@[simp] theorem State.stopRefresh_yard (s : State) : (s.stopRefresh).yard = s.yard := rfl
@[simp] theorem State.stopRefresh_lvu (s : State) : (s.stopRefresh).lvu = s.lvu := rfl
@[simp] theorem State.stopRefresh_rgv (s : State) : (s.stopRefresh).rgv = s.rgv := rfl
@[simp] theorem State.stopRefresh_portU (s : State) : (s.stopRefresh).portU = s.portU := rfl
@[simp] theorem State.stopRefresh_portD (s : State) : (s.stopRefresh).portD = s.portD := rfl
@[simp] theorem State.stopRefresh_desk (s : State) : (s.stopRefresh).desk = s.desk := rfl
@[simp] theorem State.stopRefresh_tables (s : State) : (s.stopRefresh).tables = s.tables := rfl
@[simp] theorem State.stopRefresh_stationValidSince (s : State) : (s.stopRefresh).stationValidSince = s.stationValidSince := rfl
@[simp] theorem State.stopRefresh_load (s : State) : (s.stopRefresh).load = s.load := rfl
@[simp] theorem State.stopRefresh_saving (s : State) : (s.stopRefresh).saving = s.saving := rfl
@[simp] theorem State.stopRefresh_boot (s : State) : (s.stopRefresh).boot = s.boot := rfl
@[simp] theorem State.stopRefresh_flash (s : State) : (s.stopRefresh).flash = s.flash := rfl
@[simp] theorem State.stopRefresh_draws (s : State) : (s.stopRefresh).draws = s.draws := rfl
@[simp] theorem State.stopRefresh_pending (s : State) : (s.stopRefresh).pending = s.pending := rfl

/-! ## restartRound -/

@[simp] theorem State.restartRound_now (s : State) : (s.restartRound).now = s.now := rfl
@[simp] theorem State.restartRound_mdc (s : State) : (s.restartRound).mdc = s.mdc := rfl
@[simp] theorem State.restartRound_yard (s : State) : (s.restartRound).yard = s.yard := rfl
@[simp] theorem State.restartRound_lvu (s : State) : (s.restartRound).lvu = s.lvu := rfl
@[simp] theorem State.restartRound_csu (s : State) : (s.restartRound).csu = s.csu := rfl
@[simp] theorem State.restartRound_portU (s : State) : (s.restartRound).portU = s.portU := rfl
@[simp] theorem State.restartRound_portD (s : State) : (s.restartRound).portD = s.portD := rfl
@[simp] theorem State.restartRound_desk (s : State) : (s.restartRound).desk = s.desk := rfl
@[simp] theorem State.restartRound_tables (s : State) : (s.restartRound).tables = s.tables := rfl
@[simp] theorem State.restartRound_stationValidSince (s : State) : (s.restartRound).stationValidSince = s.stationValidSince := rfl
@[simp] theorem State.restartRound_load (s : State) : (s.restartRound).load = s.load := rfl
@[simp] theorem State.restartRound_saving (s : State) : (s.restartRound).saving = s.saving := rfl
@[simp] theorem State.restartRound_boot (s : State) : (s.restartRound).boot = s.boot := rfl
@[simp] theorem State.restartRound_flash (s : State) : (s.restartRound).flash = s.flash := rfl
@[simp] theorem State.restartRound_draws (s : State) : (s.restartRound).draws = s.draws := rfl
@[simp] theorem State.restartRound_pending (s : State) : (s.restartRound).pending = s.pending := rfl

/-! ## setReachPort -/

@[simp] theorem State.setReachPort_now (s : State) (p : ReachSide) (r : ReachPort) : (s.setReachPort p r).now = s.now := by cases p <;> rfl
@[simp] theorem State.setReachPort_mdc (s : State) (p : ReachSide) (r : ReachPort) : (s.setReachPort p r).mdc = s.mdc := by cases p <;> rfl
@[simp] theorem State.setReachPort_yard (s : State) (p : ReachSide) (r : ReachPort) : (s.setReachPort p r).yard = s.yard := by cases p <;> rfl
@[simp] theorem State.setReachPort_lvu (s : State) (p : ReachSide) (r : ReachPort) : (s.setReachPort p r).lvu = s.lvu := by cases p <;> rfl
@[simp] theorem State.setReachPort_rgv (s : State) (p : ReachSide) (r : ReachPort) : (s.setReachPort p r).rgv = s.rgv := by cases p <;> rfl
@[simp] theorem State.setReachPort_csu (s : State) (p : ReachSide) (r : ReachPort) : (s.setReachPort p r).csu = s.csu := by cases p <;> rfl
@[simp] theorem State.setReachPort_desk (s : State) (p : ReachSide) (r : ReachPort) : (s.setReachPort p r).desk = s.desk := by cases p <;> rfl
@[simp] theorem State.setReachPort_tables (s : State) (p : ReachSide) (r : ReachPort) : (s.setReachPort p r).tables = s.tables := by cases p <;> rfl
@[simp] theorem State.setReachPort_stationValidSince (s : State) (p : ReachSide) (r : ReachPort) : (s.setReachPort p r).stationValidSince = s.stationValidSince := by cases p <;> rfl
@[simp] theorem State.setReachPort_load (s : State) (p : ReachSide) (r : ReachPort) : (s.setReachPort p r).load = s.load := by cases p <;> rfl
@[simp] theorem State.setReachPort_saving (s : State) (p : ReachSide) (r : ReachPort) : (s.setReachPort p r).saving = s.saving := by cases p <;> rfl
@[simp] theorem State.setReachPort_boot (s : State) (p : ReachSide) (r : ReachPort) : (s.setReachPort p r).boot = s.boot := by cases p <;> rfl
@[simp] theorem State.setReachPort_flash (s : State) (p : ReachSide) (r : ReachPort) : (s.setReachPort p r).flash = s.flash := by cases p <;> rfl
@[simp] theorem State.setReachPort_draws (s : State) (p : ReachSide) (r : ReachPort) : (s.setReachPort p r).draws = s.draws := by cases p <;> rfl
@[simp] theorem State.setReachPort_pending (s : State) (p : ReachSide) (r : ReachPort) : (s.setReachPort p r).pending = s.pending := by cases p <;> rfl
@[simp] theorem State.setReachPort_reachPort (s : State) (p : ReachSide) (r : ReachPort) : (s.setReachPort p r).reachPort p = r := by
  cases p <;> rfl

/-! ## Reading back -/

@[simp] theorem State.raise_desk (s : State) (c : Cond) : (s.raise c).desk = s.desk.raise s.raiseEnv c := rfl
@[simp] theorem State.clear_desk (s : State) (c : Cond) : (s.clear c).desk = s.desk.clear c := rfl
@[simp] theorem State.clearAll_desk (s : State) (l : List Cond) : (s.clearAll l).desk = s.desk.clearAll l := rfl
@[simp] theorem State.pushOwn_desk (s : State) (f : BusFrame) : (s.pushOwn f).desk = s.desk.pushOwn f := rfl
@[simp] theorem State.setGate_yard (s : State) (i : Fin 16) (g : Gate) : (s.setGate i g).yard = s.yard.setGate i g := rfl

@[simp] theorem Yard.gate_setGate (y : Yard) (i : Fin 16) (g : Gate) : (y.setGate i g).gate i = g := by
  simp [Yard.gate, Yard.setGate]

theorem Yard.gate_setGate_ne (y : Yard) {i j : Fin 16} (g : Gate) (h : j ≠ i) : (y.setGate i g).gate j = y.gate j := by
  have : i.val ≠ j.val := fun e => h (Fin.ext e.symm)
  simp [Yard.gate, Yard.setGate, this]

@[simp] theorem Yard.setGate_groups (y : Yard) (i : Fin 16) (g : Gate) : (y.setGate i g).groups = y.groups := rfl
@[simp] theorem Yard.setGate_portF (y : Yard) (i : Fin 16) (g : Gate) : (y.setGate i g).portF = y.portF := rfl
@[simp] theorem Yard.group_setGate (y : Yard) (i : Fin 16) (g : Gate) (k : Fin 4) : (y.setGate i g).group k = y.group k := rfl

@[simp] theorem Yard.group_setGroup (y : Yard) (k : Fin 4) (g : Group) : (y.setGroup k g).group k = g := by
  simp [Yard.group, Yard.setGroup]

theorem Yard.group_setGroup_ne (y : Yard) {k l : Fin 4} (g : Group) (h : l ≠ k) : (y.setGroup k g).group l = y.group l := by
  have : k.val ≠ l.val := fun e => h (Fin.ext e.symm)
  simp [Yard.group, Yard.setGroup, this]

@[simp] theorem Yard.setGroup_gates (y : Yard) (k : Fin 4) (g : Group) : (y.setGroup k g).gates = y.gates := rfl
@[simp] theorem Yard.setGroup_portF (y : Yard) (k : Fin 4) (g : Group) : (y.setGroup k g).portF = y.portF := rfl
@[simp] theorem Yard.gate_setGroup (y : Yard) (k : Fin 4) (g : Group) (i : Fin 16) : (y.setGroup k g).gate i = y.gate i := rfl

@[simp] theorem Yard.setGate_inFlight (y : Yard) (i : Fin 16) (g : Gate) : (y.setGate i g).inFlight = y.inFlight := rfl
@[simp] theorem Yard.setGroup_inFlight (y : Yard) (k : Fin 4) (g : Group) : (y.setGroup k g).inFlight = y.inFlight := rfl
@[simp] theorem Yard.landGrant_gates (y : Yard) (i : Fin 16) : (y.landGrant i).gates = y.gates := rfl
@[simp] theorem Yard.landGrant_groups (y : Yard) (i : Fin 16) : (y.landGrant i).groups = y.groups := rfl
@[simp] theorem Yard.landGrant_portF (y : Yard) (i : Fin 16) : (y.landGrant i).portF = y.portF := rfl
@[simp] theorem Yard.gate_landGrant (y : Yard) (i j : Fin 16) : (y.landGrant i).gate j = y.gate j := rfl
@[simp] theorem Yard.group_landGrant (y : Yard) (i : Fin 16) (k : Fin 4) : (y.landGrant i).group k = y.group k := rfl

@[simp] theorem State.gate_setGate (s : State) (i : Fin 16) (g : Gate) : (s.setGate i g).gate i = g := Yard.gate_setGate ..

theorem State.gate_setGate_ne (s : State) {i j : Fin 16} (g : Gate) (h : j ≠ i) : (s.setGate i g).gate j = s.gate j :=
  Yard.gate_setGate_ne _ _ h

@[simp] theorem State.channel_setChannel (s : State) (c : Fin 8) (r : Channel) : (s.setChannel c r).channel c = r := by
  simp [State.channel, State.setChannel]

theorem State.channel_setChannel_ne (s : State) {c d : Fin 8} (r : Channel) (h : d ≠ c) :
    (s.setChannel c r).channel d = s.channel d := by
  have : c.val ≠ d.val := fun e => h (Fin.ext e.symm)
  simp [State.channel, State.setChannel, this]

end Sys2Proof.Machine
end

