-- ==== Sys2Proof/Laws/Desk.lean ====
section
/-! SUPPORT. What each operation of the Condition Unit and Port L can do, once for each: provers cite these instead of unfolding. -/

namespace Sys2Proof.Machine

/-! ## Numbers of conditions -/

/-- A condition stands in the list of all conditions at its number (R136). -/
theorem Cond.allConds_number (c : Cond) : allConds[c.number.val]? = some c := by
  cases c with
  | gateRunaway g => revert g; decide
  | gateFault g => revert g; decide
  | gateUnseen g => revert g; decide
  | gateLag g => revert g; decide
  | channelStale c => revert c; decide
  | linkLost p => cases p <;> decide
  | loadFailed t =>
    cases t with
    | curve k => revert k; decide
    | _ => decide
  | portErrorsBus p => cases p <;> decide
  | portErrorsReach p => cases p <;> decide
  | bypassBlocked g => revert g; decide
  | _ => decide

/-- Two conditions with one number are one. -/
theorem Cond.number_injective {c d : Cond} (h : c.number = d.number) : c = d := by
  have hc := c.allConds_number
  rw [h, d.allConds_number] at hc
  exact (Option.some.inj hc).symm

/-! ## Records -/

@[simp] theorem Desk.record_setRecord (d : Desk) (c : Cond) (r : CondRecord) : (d.setRecord c r).record c = r := by
  simp [Desk.record, Desk.setRecord]

theorem Desk.record_setRecord_ne (d : Desk) {c c' : Cond} (r : CondRecord) (h : c' ≠ c) :
    (d.setRecord c r).record c' = d.record c' := by
  have : c.number.val ≠ c'.number.val := fun e => h (Cond.number_injective (Fin.ext e.symm))
  simp [Desk.record, Desk.setRecord, this]

@[simp] theorem Desk.setRecord_notices (d : Desk) (c : Cond) (r : CondRecord) : (d.setRecord c r).notices = d.notices := rfl
@[simp] theorem Desk.setRecord_portL (d : Desk) (c : Cond) (r : CondRecord) : (d.setRecord c r).portL = d.portL := rfl

/-! ## Port L: frames leave the records alone -/

@[simp] theorem Desk.handOff_records (d : Desk) : d.handOff.records = d.records := rfl

@[simp] theorem Desk.kick_records (d : Desk) : d.kick.records = d.records := by
  unfold Desk.kick; split <;> rfl

@[simp] theorem Desk.pushOwn_records (d : Desk) (f : BusFrame) : (d.pushOwn f).records = d.records := by
  simp [Desk.pushOwn]

@[simp] theorem Desk.forward_records (d : Desk) (f : BusFrame) : (d.forward f).records = d.records := by
  unfold Desk.forward; split <;> simp

@[simp] theorem Desk.handOff_record (d : Desk) (c : Cond) : d.handOff.record c = d.record c := rfl

@[simp] theorem Desk.pushOwn_record (d : Desk) (f : BusFrame) (c : Cond) : (d.pushOwn f).record c = d.record c := by
  simp [Desk.record]

@[simp] theorem Desk.forward_record (d : Desk) (f : BusFrame) (c : Cond) : (d.forward f).record c = d.record c := by
  simp [Desk.record]

/-- A frame for a busy transmitter only joins the tail of the own queue (R154). -/
theorem PortL.pushOwn_busy {p : PortL} {x : SendingL} (f : BusFrame) (h : p.sending = some x) :
    p.pushOwn f = { p with own := p.own ++ [f] } := by
  simp [PortL.pushOwn, PortL.start, h]

/-- What an idle transmitter takes: its own queue before the general one (R155). -/
theorem PortL.start_sending (p : PortL) :
    p.start.sending =
      match p.sending, p.own, p.general with
      | some x, _, _ => some x
      | none, f :: _, _ => some (.own f)
      | none, [], f :: _ => some (.general f)
      | none, [], [] => none := by
  cases h : p.sending <;> cases ho : p.own <;> cases hg : p.general <;> simp [PortL.start, h, ho, hg]

/-- A start moves at most the head of one queue into transmission, so no queue grows by it. -/
theorem PortL.start_lengths (p : PortL) :
    p.start.own.length ≤ p.own.length ∧ p.start.general.length ≤ p.general.length ∧ p.start.savePlace = p.savePlace := by
  cases h : p.sending <;> cases ho : p.own <;> cases hg : p.general <;> simp [PortL.start, h, ho, hg]

/-- A frame pushed adds at most one to what the own queue holds. -/
theorem PortL.pushOwn_ownTotal (p : PortL) (f : BusFrame) : (p.pushOwn f).ownTotal ≤ p.ownTotal + 1 := by
  have h := ({ p with own := p.own ++ [f] } : PortL).start_lengths
  simp only [List.length_append, List.length_cons, List.length_nil] at h
  simp only [PortL.ownTotal, PortL.pushOwn]
  rw [h.2.2]
  omega

/-- The hand-off never fills the own queue beyond six, where it held more already it adds nothing (R144). -/
theorem handOff_ownTotal (records : Vector CondRecord 120) (l : List NoticeEntry) (p : PortL) :
    (handOff records l p).2.ownTotal ≤ max 6 p.ownTotal := by
  induction l generalizing p with
  | nil => simp [handOff]
  | cons e r ih =>
    unfold handOff
    split
    · have h := ih (p.pushOwn (noticeFrame e records[e.cond.number]))
      have h' := p.pushOwn_ownTotal (noticeFrame e records[e.cond.number])
      omega
    · simp

/-- The hand-off takes entries from the head of the notice queue and from nowhere else (R144). -/
theorem handOff_drops (records : Vector CondRecord 120) (l : List NoticeEntry) (p : PortL) :
    ∃ n, (handOff records l p).1 = l.drop n := by
  induction l generalizing p with
  | nil => exact ⟨0, rfl⟩
  | cons e r ih =>
    unfold handOff
    split
    · obtain ⟨n, hn⟩ := ih (p.pushOwn (noticeFrame e records[e.cond.number]))
      exact ⟨n + 1, by simpa using hn⟩
    · exact ⟨0, rfl⟩

/-! ## Notices -/

/-- A notice placed by its level: the same entries and the new one (R142). -/
theorem insertNotice_perm (e : NoticeEntry) (l : List NoticeEntry) : (insertNotice e l).Perm (e :: l) := by
  induction l with
  | nil => exact .refl _
  | cons x r ih =>
    unfold insertNotice
    split
    · exact (ih.cons x).trans (List.Perm.swap e x r)
    · exact .refl _

/-- A queue in falling order of level stays so (R142). -/
theorem insertNotice_sorted (e : NoticeEntry) {l : List NoticeEntry} (h : l.Pairwise (fun a b => b.level ≤ a.level)) :
    (insertNotice e l).Pairwise (fun a b => b.level ≤ a.level) := by
  induction l with
  | nil => simp [insertNotice]
  | cons x r ih =>
    rw [List.pairwise_cons] at h
    unfold insertNotice
    split
    · rename_i hx
      refine List.pairwise_cons.2 ⟨fun y hy => ?_, ih h.2⟩
      have := (insertNotice_perm e r).mem_iff.1 hy
      rcases List.mem_cons.1 this with rfl | hr
      · exact hx
      · exact h.1 y hr
    · rename_i hx
      refine List.pairwise_cons.2 ⟨fun y hy => ?_, List.pairwise_cons.2 h⟩
      rcases List.mem_cons.1 hy with rfl | hr
      · omega
      · have := h.1 y hr; omega

/-- An offer leaves every record but that of NOTICE_LOST (R141, R143). -/
theorem Desk.offer_record (d : Desk) (e : RaiseEnv) (c c' : Cond) (h : c' ≠ .noticeLost) :
    (d.offer e c).record c' = d.record c' := by
  have lost : ∀ d : Desk, (d.raiseNoticeLost e.now).record c' = d.record c' := fun d => d.record_setRecord_ne _ h
  unfold Desk.offer Desk.placeNotice
  dsimp only
  split
  · rfl
  · split
    · split
      · rfl
      · split
        · rfl
        · split
          · simp only [Desk.handOff_record, lost]; rfl
          · exact lost d
    · rfl

/-- After a raise the record is active and latched (R139). -/
theorem Desk.raise_record (d : Desk) (e : RaiseEnv) (c : Cond) :
    (d.raise e c).record c = (d.record c).raised e.now := by
  unfold Desk.raise
  dsimp only
  split
  · simp
  · by_cases hc : c = .noticeLost
    · subst hc; simp [Desk.offer]
    · rw [Desk.offer_record _ _ _ _ hc, Desk.record_setRecord]

/-- A raise leaves every other record but that of NOTICE_LOST (R139). -/
theorem Desk.raise_record_ne (d : Desk) (e : RaiseEnv) {c c' : Cond} (h : c' ≠ c) (hl : c' ≠ .noticeLost) :
    (d.raise e c).record c' = d.record c' := by
  unfold Desk.raise
  dsimp only
  split
  · exact d.record_setRecord_ne _ h
  · rw [Desk.offer_record _ _ _ _ hl, d.record_setRecord_ne _ h]

/-- Clearing touches one active state (R140). -/
@[simp] theorem Desk.clear_record (d : Desk) (c : Cond) : (d.clear c).record c = { d.record c with active := false } :=
  d.record_setRecord c _

theorem Desk.clear_record_ne (d : Desk) {c c' : Cond} (h : c' ≠ c) : (d.clear c).record c' = d.record c' :=
  d.record_setRecord_ne _ h

@[simp] theorem Desk.clear_notices (d : Desk) (c : Cond) : (d.clear c).notices = d.notices := rfl
@[simp] theorem Desk.clear_portL (d : Desk) (c : Cond) : (d.clear c).portL = d.portL := rfl

/-- Clearing several touches nothing but their active states: the latch and the first-set tick of every record stay (R140). -/
theorem Desk.clearAll_spec (d : Desk) (l : List Cond) :
    (d.clearAll l).notices = d.notices ∧ (d.clearAll l).portL = d.portL ∧
    ∀ c, (d.clearAll l).record c = if c ∈ l then { d.record c with active := false } else d.record c := by
  induction l generalizing d with
  | nil => simp [Desk.clearAll]
  | cons x r ih =>
    obtain ⟨h1, h2, h3⟩ := ih (d.clear x)
    have e : d.clearAll (x :: r) = (d.clear x).clearAll r := rfl
    refine ⟨by rw [e, h1]; rfl, by rw [e, h2]; rfl, fun c => ?_⟩
    rw [e, h3 c]
    by_cases hx : c = x
    · subst hx; by_cases hr : c ∈ r <;> simp [hr]
    · rw [d.clear_record_ne hx]; simp [hx]

/-! ## On the whole state -/

@[simp] theorem State.active_clear (s : State) (c : Cond) : (s.clear c).active c = false := by
  simp [State.active]

theorem State.active_clear_ne (s : State) {c d : Cond} (h : d ≠ c) : (s.clear c).active d = s.active d := by
  simp [State.active, Desk.clear_record_ne _ h]

@[simp] theorem State.latched_clear (s : State) (c d : Cond) : (s.clear c).latched d = s.latched d := by
  by_cases h : d = c
  · subst h; simp [State.latched]
  · simp [State.latched, Desk.clear_record_ne _ h]

/-- A raised condition stands active and latched (R139). -/
theorem State.raised_raise (s : State) (c : Cond) : (s.raise c).active c = true ∧ (s.raise c).latched c = true := by
  simp only [State.active, State.latched, State.raise_desk, Desk.raise_record]
  unfold CondRecord.raised
  split <;> simp_all

theorem State.active_raise_ne (s : State) {c d : Cond} (h : d ≠ c) (hl : d ≠ .noticeLost) :
    (s.raise c).active d = s.active d := by
  simp [State.active, Desk.raise_record_ne _ _ h hl]

@[simp] theorem State.active_pushOwn (s : State) (f : BusFrame) (c : Cond) : (s.pushOwn f).active c = s.active c := by
  simp [State.active]

@[simp] theorem State.latched_pushOwn (s : State) (f : BusFrame) (c : Cond) : (s.pushOwn f).latched c = s.latched c := by
  simp [State.latched]

end Sys2Proof.Machine
end

