-- ==== Sys2Proof/Laws/Yard.lean ====
section
/-! SUPPORT. What each operation of the Gate Sequencer, the Group Arbiter and Port F can do, once for each. -/

namespace Sys2Proof.Machine

/-! ## Folds over gates -/

/-- What every step of a fold keeps, the fold keeps. -/
theorem foldl_keeps {α β : Type} (P : β → Prop) (f : β → α → β) (h : ∀ b a, P b → P (f b a)) (l : List α) (b : β) (hb : P b) :
    P (l.foldl f b) := by
  induction l generalizing b with
  | nil => exact hb
  | cons a r ih => exact ih _ (h b a hb)

/-- What no step of a fold changes, the fold does not change. -/
theorem foldl_frame {α β γ : Type} (p : β → γ) (f : β → α → β) (h : ∀ b a, p (f b a) = p b) (l : List α) (b : β) :
    p (l.foldl f b) = p b :=
  foldl_keeps (fun x => p x = p b) f (fun x a hx => (h x a).trans hx) l b rfl

/-- Every gate stands in the list of gates. -/
theorem mem_allGates (i : Fin 16) : i ∈ allGates := by revert i; decide

/-- No gate stands twice in the list of gates. -/
theorem allGates_nodup : allGates.Nodup := by decide

/-! ## Port F -/

/-- A drive frame placed is in the queue (R153). -/
theorem placeDrive_mem (e : DriveEntry) (l : List DriveEntry) : e ∈ placeDrive e l := by
  induction l with
  | nil => simp [placeDrive]
  | cons x r ih => unfold placeDrive; split <;> simp [ih]

/-- The waiting frames of other gates stay (R153). -/
theorem placeDrive_keeps {e x : DriveEntry} {l : List DriveEntry} (hx : x ∈ l) (h : x.gate ≠ e.gate) : x ∈ placeDrive e l := by
  induction l with
  | nil => simp at hx
  | cons a r ih =>
    unfold placeDrive
    rcases List.mem_cons.1 hx with rfl | hr
    · simp [h]
    · split
      · simp [hr]
      · simp [ih hr]

/-- The gates of a drive queue after a frame is placed: as before, or one more at the tail (R153). -/
theorem placeDrive_gates (e : DriveEntry) (l : List DriveEntry) :
    (placeDrive e l).map (·.gate) = if e.gate ∈ l.map (·.gate) then l.map (·.gate) else l.map (·.gate) ++ [e.gate] := by
  induction l with
  | nil => simp [placeDrive]
  | cons x r ih =>
    unfold placeDrive
    by_cases h : x.gate = e.gate
    · simp [h]
    · have h' : e.gate ≠ x.gate := fun q => h q.symm
      simp only [h, if_false, List.map_cons, ih, List.mem_cons, h', false_or]
      split <;> simp

/-- A start loses no drive frame: what waited still waits or is being sent (R155). -/
theorem PortF.start_carries {p : PortF} {e : DriveEntry} (h : p.Carries e) : p.start.Carries e := by
  unfold PortF.Carries at *
  cases hs : p.sending <;> cases hd : p.drive <;> cases hg : p.general <;> simp_all [PortF.start] <;> tauto

/-- A start moves at most the head of one queue into transmission (R155). -/
theorem PortF.start_lengths (p : PortF) :
    p.start.general.length ≤ p.general.length ∧ p.start.drive.length ≤ p.drive.length := by
  cases h : p.sending <;> cases ho : p.drive <;> cases hg : p.general <;> simp [PortF.start, h, ho, hg]

/-! ## Issuing a DRIVE frame (R6, R153) -/

@[simp] theorem Yard.issue_gates (e : YardEnv) (i : Fin 16) (c : DriveCommand) (n : Nat) (y : Yard) :
    (Yard.issue e i c n y).gates = y.gates := rfl
@[simp] theorem Yard.issue_groups (e : YardEnv) (i : Fin 16) (c : DriveCommand) (n : Nat) (y : Yard) :
    (Yard.issue e i c n y).groups = y.groups := rfl
@[simp] theorem Yard.issue_gate (e : YardEnv) (i j : Fin 16) (c : DriveCommand) (n : Nat) (y : Yard) :
    (Yard.issue e i c n y).gate j = y.gate j := rfl
@[simp] theorem Yard.issue_group (e : YardEnv) (i : Fin 16) (k : Fin 4) (c : DriveCommand) (n : Nat) (y : Yard) :
    (Yard.issue e i c n y).group k = y.group k := rfl

/-- The frame issued waits or is being sent. -/
theorem Yard.issue_carries (e : YardEnv) (i : Fin 16) (c : DriveCommand) (n : Nat) (y : Yard) :
    (Yard.issue e i c n y).portF.Carries { gate := i, frame := driveFrame (e.cfg i).driveAddress c n } :=
  PortF.start_carries (.inl (placeDrive_mem _ _))

/-- The frames of other gates still wait or are being sent. -/
theorem Yard.issue_keeps (e : YardEnv) (i : Fin 16) (c : DriveCommand) (n : Nat) (y : Yard) {x : DriveEntry}
    (h : y.portF.Carries x) (hx : x.gate ≠ i) : (Yard.issue e i c n y).portF.Carries x :=
  PortF.start_carries (h.imp (fun m => placeDrive_keeps m hx) id)

/-! ## Early lock (R15, R40, R41) -/

/-- An early-lock request touches its gate alone, and only where it is FREE with no motion pending (R15). -/
theorem Yard.earlyLockRequest_spec (e : YardEnv) (i : Fin 16) (y : Yard) :
    Yard.earlyLockRequest e i y = y ∨
    ((y.gate i).state = .free ∧ (y.gate i).pending = false ∧
      ∃ t, Yard.earlyLockRequest e i y = y.setGate i { y.gate i with earlyLock := true, stateTimer := some t }) := by
  unfold Yard.earlyLockRequest
  dsimp only
  split
  · rename_i h
    refine .inr ⟨h.1, h.2, max e.now (lockAllowedInstant (e.cfg i) { y.gate i with earlyLock := true }), ?_⟩
    simp only [Yard.armLock, Yard.gate_setGate]
    simp only [Yard.setGate, Vector.set_set]
  · exact .inl rfl

/-- What an early-lock request can do to each gate. -/
theorem Yard.earlyLockRequest_gate (e : YardEnv) (i j : Fin 16) (y : Yard) :
    (Yard.earlyLockRequest e i y).gate j = y.gate j ∨
    ((y.gate j).state = .free ∧ (y.gate j).pending = false ∧
      ∃ t, (Yard.earlyLockRequest e i y).gate j = { y.gate j with earlyLock := true, stateTimer := some t }) := by
  rcases Yard.earlyLockRequest_spec e i y with h | ⟨h1, h2, t, h⟩
  · exact .inl (by rw [h])
  · by_cases hj : j = i
    · subst hj; exact .inr ⟨h1, h2, t, by rw [h, Yard.gate_setGate]⟩
    · exact .inl (by rw [h, Yard.gate_setGate_ne _ _ hj])

@[simp] theorem Yard.earlyLockRequest_groups (e : YardEnv) (i : Fin 16) (y : Yard) :
    (Yard.earlyLockRequest e i y).groups = y.groups := by
  unfold Yard.earlyLockRequest; dsimp only; split <;> rfl

@[simp] theorem Yard.earlyLockRequest_portF (e : YardEnv) (i : Fin 16) (y : Yard) :
    (Yard.earlyLockRequest e i y).portF = y.portF := by
  unfold Yard.earlyLockRequest; dsimp only; split <;> rfl

@[simp] theorem Yard.earlyLockTest_groups (e : YardEnv) (k : Fin 4) (y : Yard) : (Yard.earlyLockTest e k y).groups = y.groups := by
  unfold Yard.earlyLockTest
  split
  · refine foldl_frame (fun y : Yard => y.groups) _ (fun y i => ?_) _ _
    split <;> simp
  · rfl

@[simp] theorem Yard.earlyLockTest_portF (e : YardEnv) (k : Fin 4) (y : Yard) : (Yard.earlyLockTest e k y).portF = y.portF := by
  unfold Yard.earlyLockTest
  split
  · refine foldl_frame (fun y : Yard => y.portF) _ (fun y i => ?_) _ _
    split <;> simp
  · rfl

/-- What an early-lock test can do to each gate: nothing, or an early lock of a gate FREE with no motion pending (R40). -/
theorem Yard.earlyLockTest_gate (e : YardEnv) (k : Fin 4) (y : Yard) (j : Fin 16) :
    (Yard.earlyLockTest e k y).gate j = y.gate j ∨
    ((y.gate j).state = .free ∧ (y.gate j).pending = false ∧
      ∃ t, (Yard.earlyLockTest e k y).gate j = { y.gate j with earlyLock := true, stateTimer := some t }) := by
  unfold Yard.earlyLockTest
  split
  · refine foldl_keeps (fun z : Yard => z.gate j = y.gate j ∨ ((y.gate j).state = .free ∧ (y.gate j).pending = false ∧
      ∃ t, z.gate j = { y.gate j with earlyLock := true, stateTimer := some t })) _ (fun z i hz => ?_) _ _ (.inl rfl)
    dsimp only
    split
    · rcases Yard.earlyLockRequest_gate e i j z with h | ⟨h1, h2, t, h⟩
      · rw [h]; exact hz
      · rcases hz with hz | ⟨g1, g2, u, hz⟩
        · rw [hz] at h h1 h2; exact .inr ⟨h1, h2, t, h⟩
        · rw [hz] at h; exact .inr ⟨g1, g2, t, h⟩
    · exact hz
  · exact .inl rfl

/-! ## Grants (R12, R35, R36) -/

/-- A gate that takes a grant: its new record (R12). -/
theorem Yard.takeGrant_gate (e : YardEnv) (i : Fin 16) (y : Yard) :
    (Yard.takeGrant e i y).gate i = { y.gate i with
      state := .unlocking, lastUnlock := some e.now, lastMoveEnd := none, earlyLock := false, trimCount := 0
      stateTimer := some (e.now + (e.cfg i).tUL), reportSinceGrant := false } := by
  simp [Yard.takeGrant]

theorem Yard.takeGrant_gate_ne (e : YardEnv) {i j : Fin 16} (y : Yard) (h : j ≠ i) :
    (Yard.takeGrant e i y).gate j = y.gate j := by
  simp [Yard.takeGrant, Yard.gate_setGate_ne _ _ h]

@[simp] theorem Yard.takeGrant_group (e : YardEnv) (i : Fin 16) (k : Fin 4) (y : Yard) :
    (Yard.takeGrant e i y).group k = y.group k := rfl

@[simp] theorem Yard.issue_inFlight (e : YardEnv) (i : Fin 16) (c : DriveCommand) (n : Nat) (y : Yard) :
    (Yard.issue e i c n y).inFlight = y.inFlight := rfl

/-- A gate told of its grant: the grant is in flight and nothing else changes, or the gate takes it (R36, R39). -/
theorem Yard.tellGranted_spec (e : YardEnv) (i : Fin 16) (y : Yard) :
    (Config.grantCrosses e.draws e.now i.val = true ∧ Yard.tellGranted e i y = { y with inFlight := y.inFlight ++ [i] }) ∨
    (Config.grantCrosses e.draws e.now i.val = false ∧ Yard.tellGranted e i y = Yard.takeGrant e i y) := by
  unfold Yard.tellGranted
  cases h : Config.grantCrosses e.draws e.now i.val <;> simp

@[simp] theorem Yard.tellGranted_group (e : YardEnv) (i : Fin 16) (k : Fin 4) (y : Yard) :
    (Yard.tellGranted e i y).group k = y.group k := by
  rcases Yard.tellGranted_spec e i y with ⟨-, h⟩ | ⟨-, h⟩ <;> rw [h] <;> rfl

theorem Yard.tellGranted_gate_ne (e : YardEnv) {i j : Fin 16} (y : Yard) (h : j ≠ i) :
    (Yard.tellGranted e i y).gate j = y.gate j := by
  rcases Yard.tellGranted_spec e i y with ⟨-, g⟩ | ⟨-, g⟩ <;> rw [g]
  · rfl
  · exact Yard.takeGrant_gate_ne e y h

/-- While the spacing timer of a group runs after a grant, nothing may be granted (R35, R37). -/
theorem grantAllowed_spacing (e : YardEnv) (k : Fin 4) {g : Group} {t u : Tick} (h : g.lastGrant = some t)
    (hs : g.spacingTimer = some u) : grantAllowed e k g = false := by
  simp [grantAllowed, h, hs]

/-- Grant checks of a group leave every other group alone (R35). -/
theorem Yard.grantChecks_group_ne (e : YardEnv) {k l : Fin 4} (h : l ≠ k) (n : Nat) (y : Yard) :
    (Yard.grantChecks e k n y).group l = y.group l := by
  have test : ∀ y : Yard, (Yard.earlyLockTest e k y).group l = y.group l := fun y => by simp [Yard.group]
  induction n generalizing y with
  | zero => exact test y
  | succ n ih =>
    unfold Yard.grantChecks
    dsimp only
    split
    · rfl
    · split
      · split
        · rw [ih, Yard.tellGranted_group, Yard.group_setGroup_ne _ _ h]
        · rw [ih, Yard.group_setGroup_ne _ _ h]
      · exact test y

/-- Grant checks on an empty queue do nothing (R35). -/
theorem Yard.grantCheck_empty (e : YardEnv) (k : Fin 4) (y : Yard) (h : (y.group k).queue = []) : Yard.grantCheck e k y = y := by
  simp [Yard.grantCheck, h, Yard.grantChecks, Yard.earlyLockTest, earlyLockCondition]

/-- A grant check of a group while its spacing timer runs after a grant makes the early-lock test at most (R35, R37). -/
theorem Yard.grantCheck_spacing (e : YardEnv) (k : Fin 4) (y : Yard) {t u : Tick} (h : (y.group k).lastGrant = some t)
    (hs : (y.group k).spacingTimer = some u) : Yard.grantCheck e k y = Yard.earlyLockTest e k y := by
  unfold Yard.grantCheck
  cases hq : (y.group k).queue with
  | nil => rfl
  | cons x r =>
    simp only [List.length_cons, Yard.grantChecks, hq, grantAllowed_spacing e k h hs]
    rfl

/-- A gate that leaves WAIT_GRANT gives up its place, or its slot where the grant has crossed its leaving (R34, R39). -/
theorem Yard.leaveQueue_spec (e : YardEnv) (i : Fin 16) (y : Yard) :
    (i ∈ y.inFlight ∧ Yard.leaveQueue e i y = Yard.releaseSlot e i (y.landGrant i)) ∨
    (i ∉ y.inFlight ∧ Yard.leaveQueue e i y = Yard.removeEntry e i y) := by
  unfold Yard.leaveQueue
  split
  · rename_i h; exact .inl ⟨h, rfl⟩
  · rename_i h; exact .inr ⟨h, rfl⟩

/-- A gate that leaves WAIT_GRANT leaves every other group alone. -/
theorem Yard.leaveQueue_group_ne (e : YardEnv) {i : Fin 16} {l : Fin 4} (y : Yard) (h : l ≠ (e.cfg i).group) :
    (Yard.leaveQueue e i y).group l = y.group l := by
  rcases Yard.leaveQueue_spec e i y with ⟨-, g⟩ | ⟨-, g⟩ <;> rw [g]
  · unfold Yard.releaseSlot Yard.grantCheck
    rw [Yard.grantChecks_group_ne e h, Yard.group_setGroup_ne _ _ h, Yard.group_landGrant]
  · unfold Yard.removeEntry
    dsimp only
    split
    · rw [Yard.grantCheck, Yard.grantChecks_group_ne e h, Yard.group_setGroup_ne _ _ h]
    · rw [Yard.group_setGroup_ne _ _ h]

/-- A grant that reaches its gate in WAIT_GRANT is taken (R12). -/
theorem Yard.deliverGrant_waiting (e : YardEnv) {i : Fin 16} (y : Yard) (h : (y.gate i).state = .waitGrant) :
    Yard.deliverGrant e i y = Yard.takeGrant e i (y.landGrant i) := by
  simp [Yard.deliverGrant, h]

/-- A grant that reaches its gate in another state is handed back (R39). -/
theorem Yard.deliverGrant_gone (e : YardEnv) {i : Fin 16} (y : Yard) (h : (y.gate i).state ≠ .waitGrant) :
    Yard.deliverGrant e i y = Yard.releaseSlot e i (y.landGrant i) := by
  simp [Yard.deliverGrant, h]

/-! ## The end of a move (R17, R20, R29) -/

/-- A gate that rests in FREE is FREE with no motion pending. -/
theorem Yard.rest_gate (e : YardEnv) (i : Fin 16) (y : Yard) :
    ((Yard.rest e i y).gate i).state = .free ∧ ((Yard.rest e i y).gate i).pending = false := by
  have arm (z : Yard) (h : (z.gate i).state = .free ∧ (z.gate i).pending = false) :
      ((Yard.armLock e i z).gate i).state = .free ∧ ((Yard.armLock e i z).gate i).pending = false := by
    simpa [Yard.armLock] using h
  have set : ((y.setGate i { y.gate i with state := .free, pending := false }).gate i).state = .free ∧
      ((y.setGate i { y.gate i with state := .free, pending := false }).gate i).pending = false := by simp
  unfold Yard.rest Yard.restFree Yard.idleSignal Yard.earlyLockRequest
  split
  · dsimp only
    split
    · exact arm _ (by simpa using arm _ set)
    · exact arm _ set
  · exact arm _ set

/-- A rest issues no frame to a drive (R14). -/
@[simp] theorem Yard.rest_portF (e : YardEnv) (i : Fin 16) (y : Yard) : (Yard.rest e i y).portF = y.portF := by
  unfold Yard.rest Yard.restFree Yard.idleSignal
  split <;> simp [Yard.armLock, Yard.setGate]

/-- In FROZEN a spill gate rests at the end of its move (R29). -/
theorem Yard.endMove_frozen {e : YardEnv} {i : Fin 16} (y : Yard) (h : e.mode = .frozen) (hk : (e.cfg i).kind = .spill) :
    Yard.endMove e i y =
      Yard.rest e i (y.setGate i { y.gate i with lastMoveEnd := some e.now, moveSetpoint := none, moveWatch := none }) := by
  simp [Yard.endMove, h, hk]

/-- In every other mode, and for a wicket gate, the pending test follows (R17, R20). -/
theorem Yard.endMove_tested {e : YardEnv} {i : Fin 16} (y : Yard) (h : e.mode ≠ .frozen ∨ (e.cfg i).kind ≠ .spill) :
    Yard.endMove e i y =
      Yard.enterFree e i (y.setGate i { y.gate i with lastMoveEnd := some e.now, moveSetpoint := none, moveWatch := none }) := by
  unfold Yard.endMove
  exact if_neg (fun q => h.elim (fun n => n q.1) (fun n => n q.2))

/-! ## Operations on the whole state -/

/-- An operation on gates and groups within an event changes the yard, and at most the active state of one GATE_RUNAWAY (R27). -/
theorem State.onYard_spec (s : State) (i : Fin 16) (f : YardEnv → Yard → Yard) :
    (s.onYard i f = { s with yard := f s.yardEnv s.yard } ∧
      ¬((s.gate i).state = .locked ∧ ((f s.yardEnv s.yard).gate i).state ≠ .locked)) ∨
    s.onYard i f = { s with yard := f s.yardEnv s.yard, desk := s.desk.clear (.gateRunaway i) } := by
  unfold State.onYard
  dsimp only
  split
  · exact .inr rfl
  · rename_i h; exact .inl ⟨rfl, h⟩

@[simp] theorem State.onYard_yard (s : State) (i : Fin 16) (f : YardEnv → Yard → Yard) :
    (s.onYard i f).yard = f s.yardEnv s.yard := by
  rcases s.onYard_spec i f with ⟨h, -⟩ | h <;> rw [h]

/-- What `onYard` leaves alone. -/
theorem State.onYard_frame (s : State) (i : Fin 16) (f : YardEnv → Yard → Yard) :
    s.onYard i f = { s with yard := f s.yardEnv s.yard, desk := (s.onYard i f).desk } := by
  rcases s.onYard_spec i f with ⟨h, -⟩ | h <;> rw [h]

end Sys2Proof.Machine
end

