-- ==== Sys2Proof/Laws/Blocks.lean ====
section
/-! SUPPORT. What the operations of the Cascade Unit, the Level Unit, the rating, the round and the Mode Controller can do: for each, the
blocks it leaves alone, and what it answers. -/

namespace Sys2Proof.Machine

/-! ## Cascade (chapter 7) -/

/-- Maturing drops the entries that are due from the head, and touches nothing else but the effective outflow and its source (R110). -/
theorem mature_spec (now : Tick) (q : List ForecastEntry) (c : Csu) :
    mature now q c = { c with
      queue := q.dropWhile (fun e => decide (e.due ≤ now))
      upstream := ((q.takeWhile (fun e => decide (e.due ≤ now))).getLast?.map (·.outflow)).getD c.upstream
      upstreamSource := if (q.takeWhile (fun e => decide (e.due ≤ now))) = [] then c.upstreamSource else .notice } := by
  induction q generalizing c with
  | nil => simp [mature]
  | cons e r ih =>
    unfold mature
    by_cases h : e.due ≤ now
    · rw [if_pos h, ih]
      simp only [h, decide_true, List.dropWhile_cons_of_pos, List.takeWhile_cons_of_pos]
      cases hr : r.takeWhile (fun e => decide (e.due ≤ now)) with
      | nil => simp
      | cons x l =>
        have : (e :: x :: l).getLast? = (x :: l).getLast? := by simp
        simp [this]
        cases h2 : (x :: l).getLast? <;> simp_all
    · simp [h]

/-- A reach transmitter that begins changes its port and the outgoing sequence (R106, R119). -/
theorem State.startReach_frame (s : State) (p : ReachSide) :
    s.startReach p = { (s.setReachPort p ((s.startReach p).reachPort p)) with
      csu := { s.csu with outSequence := (s.startReach p).csu.outSequence } } := by
  cases p <;> rfl

/-- A reach port that is sending begins nothing (R106). -/
theorem ReachPort.start_busy {r : ReachPort} {f : ReachFrame} (h : r.sending = some f) (n q : Nat) : r.start n q = (r, q) := by
  simp [ReachPort.start, h]

/-- The own acceptance touches the Cascade Unit and Port U alone (R116, R117). -/
theorem State.placeAccept_frame (s : State) (a : Nat) :
    s.placeAccept a = { s with csu := (s.placeAccept a).csu, portU := (s.placeAccept a).portU } := by
  unfold State.placeAccept
  split <;> rfl

theorem State.computeOwnAcceptance_frame (s : State) :
    s.computeOwnAcceptance = { s with csu := s.computeOwnAcceptance.csu, portU := s.computeOwnAcceptance.portU } := by
  unfold State.computeOwnAcceptance
  dsimp only
  split
  · split
    · rfl
    · rw [State.placeAccept_frame]
  · rfl

/-- A release notice touches the Cascade Unit and Port D alone (R118). -/
theorem State.placeRelease_frame (s : State) :
    s.placeRelease = { s with csu := s.placeRelease.csu, portD := s.placeRelease.portD } := rfl

theorem State.handOverPlanned_frame (s : State) :
    s.handOverPlanned = { s with csu := s.handOverPlanned.csu, portD := s.handOverPlanned.portD } := by
  unfold State.handOverPlanned
  split
  · split
    · rfl
    · split <;> rfl
  · rfl

theorem State.setRefresh_frame (s : State) :
    s.setRefresh = { s with csu := s.setRefresh.csu, portD := s.setRefresh.portD } := by
  unfold State.setRefresh
  dsimp only
  split
  · rfl
  · split <;> rfl

/-- A release notice is placed pending with the planned outflow, and takes the outgoing sequence where it begins (R118, R119). -/
theorem State.placeRelease_notified (s : State) : s.Notified s.placeRelease s.rgv.planned s.csu.outSequence := by
  cases h : s.portD.sending <;>
    simp [State.Notified, State.placeRelease, State.startReach, State.setReachPort, State.reachPort, ReachPort.start, h]

/-- A release notice takes all it changes from the Cascade Unit's last notice and Port D (R118). -/
theorem State.placeRelease_csu (s : State) :
    s.placeRelease.csu = { s.csu with
      lastNotified := s.placeRelease.csu.lastNotified, lastRelease := s.placeRelease.csu.lastRelease
      refreshTimer := s.placeRelease.csu.refreshTimer, outSequence := s.placeRelease.csu.outSequence } := rfl

/-- The refresh timer at an entry to GOVERN or FALLBACK (R118). -/
theorem State.setRefresh_set (s : State) : s.RefreshSet s.setRefresh := by
  by_cases h : 0 < s.tables.stationOr.noticeRefresh
  · let at_ : Tick := match s.csu.lastRelease with
      | some r => max s.now (r + s.tables.stationOr.noticeRefresh)
      | none => s.now
    have e : s.setRefresh = { s with csu := { s.csu with refreshTimer := some at_ } } := if_pos h
    rw [e]
    exact ⟨fun _ => ⟨⟨rfl, rfl, rfl⟩, rfl⟩, fun z => absurd z (Nat.pos_iff_ne_zero.1 h), fun z => absurd z (Nat.pos_iff_ne_zero.1 h)⟩
  · by_cases w : s.csu.lastRelease = none ∧ s.portPresent .D = true
    · have e : s.setRefresh = s.placeRelease := (if_neg h).trans (if_pos w)
      rw [e]
      exact ⟨fun z => absurd z h, fun _ _ _ => ⟨_, s.placeRelease_notified, fun _ => rfl⟩,
        fun _ q => q.elim (fun a => absurd w.1 a) (fun a => absurd (w.2.symm.trans a) Bool.noConfusion)⟩
    · have e : s.setRefresh = s := (if_neg h).trans (if_neg w)
      rw [e]
      exact ⟨fun z => absurd z h, fun _ hl hp => absurd ⟨hl, hp⟩ w, fun _ _ => ⟨⟨rfl, rfl, rfl⟩, rfl⟩⟩

/-! ## Levels (chapter 3) -/

/-- A regime set touches the regime, the Cascade Unit and Port U alone (R51, R116). -/
theorem State.setRegime_frame (s : State) (r : Regime) :
    s.setRegime r = { s with
      lvu := { s.lvu with regime := r }, csu := (s.setRegime r).csu, portU := (s.setRegime r).portU } := by
  unfold State.setRegime
  split
  · rename_i h; subst h; rfl
  · rw [State.computeOwnAcceptance_frame]

/-- The evaluation of the regime touches it, the Cascade Unit, Port U and the Condition Unit alone (R51). -/
theorem State.evaluateRegime_frame (s : State) (h : Nat) :
    s.evaluateRegime h = { s with
      lvu := (s.evaluateRegime h).lvu, csu := (s.evaluateRegime h).csu, portU := (s.evaluateRegime h).portU
      desk := (s.evaluateRegime h).desk } := by
  unfold State.evaluateRegime
  dsimp only
  split <;> split <;> first | rfl | (unfold State.raise; rw [State.setRegime_frame]) | (unfold State.clear; rw [State.setRegime_frame])

/-- Ascending insertion keeps the values. -/
theorem insertSorted_perm (a : Nat) (l : List Nat) : (insertSorted a l).Perm (a :: l) := by
  induction l with
  | nil => exact .refl _
  | cons b r ih =>
    unfold insertSorted
    split
    · exact .refl _
    · exact (ih.cons b).trans (List.Perm.swap a b r)

/-- Ascending insertion keeps the order. -/
theorem insertSorted_sorted (a : Nat) {l : List Nat} (h : l.Pairwise (· ≤ ·)) : (insertSorted a l).Pairwise (· ≤ ·) := by
  induction l with
  | nil => simp [insertSorted]
  | cons b r ih =>
    rw [List.pairwise_cons] at h
    unfold insertSorted
    split
    · rename_i hab
      refine List.pairwise_cons.2 ⟨fun x hx => ?_, List.pairwise_cons.2 h⟩
      rcases List.mem_cons.1 hx with rfl | hr
      · exact hab
      · exact hab.trans (h.1 x hr)
    · rename_i hab
      refine List.pairwise_cons.2 ⟨fun x hx => ?_, ih h.2⟩
      rcases List.mem_cons.1 ((insertSorted_perm a r).mem_iff.1 hx) with rfl | hr
      · omega
      · exact h.1 x hr

/-! ## Rating (chapter 4) -/

/-- The search for an opening stays within its run, passes over only openings that fail, and stops at one that passes or at the end (R62). -/
theorem smallestOpening_spec (q : Nat → Nat) (r o n : Nat) :
    o ≤ smallestOpening q r o n ∧ smallestOpening q r o n ≤ o + n ∧
    (∀ x, o ≤ x → x < smallestOpening q r o n → q x < r) ∧
    (r ≤ q (smallestOpening q r o n) ∨ smallestOpening q r o n = o + n) := by
  induction n generalizing o with
  | zero => simp only [smallestOpening]; refine ⟨le_refl _, le_refl _, fun x h1 h2 => by omega, .inr rfl⟩
  | succ n ih =>
    unfold smallestOpening
    split
    · rename_i h; exact ⟨le_refl _, by omega, fun x h1 h2 => by omega, .inl h⟩
    · rename_i h
      obtain ⟨h1, h2, h3, h4⟩ := ih (o + 1)
      refine ⟨by omega, by omega, fun x hx1 hx2 => ?_, h4.imp id (fun e => by omega)⟩
      by_cases hx : x = o
      · subst hx; omega
      · exact h3 x (by omega) hx2

/-! ## The round (chapter 5) -/

/-- A slewed step lies within the slew and between 0 and the step asked for (R79). -/
theorem slewed_spec (slew : Nat) (d : Int) :
    -(slew : Int) ≤ slewed slew d ∧ slewed slew d ≤ slew ∧ (0 ≤ d → 0 ≤ slewed slew d ∧ slewed slew d ≤ d) ∧
    (d ≤ 0 → d ≤ slewed slew d ∧ slewed slew d ≤ 0) := by
  unfold slewed
  omega

/-- The later trials propose at a fraction no larger than the one they start from, and what they settle on lies within the limits; failing all,
nothing changes (R84, R85). -/
theorem State.laterTrials_spec (s : State) (plans : List Plan) (qNow : Nat) (limits : Nat × Nat) (n f : Nat) :
    (s.laterTrials plans qNow limits n f).first = false ∧
    (∃ g, g ≤ f ∧ (s.laterTrials plans qNow limits n f).setpoints = proposals plans g) ∧
    withinLimits limits (((s.laterTrials plans qNow limits n f).planned : Int) - (qNow : Int)) = true := by
  induction n generalizing f with
  | zero => exact ⟨rfl, ⟨0, Nat.zero_le _, rfl⟩, by simp [State.laterTrials, withinLimits]⟩
  | succ n ih =>
    unfold State.laterTrials
    dsimp only
    split
    · rename_i h; exact ⟨rfl, ⟨f, le_refl _, rfl⟩, h⟩
    · obtain ⟨h1, ⟨g, hg, hs⟩, h2⟩ := ih (f / 2)
      exact ⟨h1, ⟨g, by omega, hs⟩, h2⟩

/-- A change beyond the limits gives trial 2 a fraction of at most the whole (R84). -/
theorem secondFraction_le (limits : Nat × Nat) (change : Int) (h : withinLimits limits change = false) :
    secondFraction limits change ≤ 65536 := by
  unfold withinLimits at h
  simp only [decide_eq_false_iff_not] at h
  unfold secondFraction
  apply Nat.div_le_of_le_mul
  rw [Nat.mul_comm]
  apply Nat.mul_le_mul_right
  split <;> omega

/-- The hand-over of targets changes the yard and the Condition Unit alone (R87). -/
theorem State.handTargets_frame (s : State) (plans : List Plan) (l : List (Fin 16 × Nat)) :
    s.handTargets plans l = { s with yard := (s.handTargets plans l).yard, desk := (s.handTargets plans l).desk } := by
  unfold State.handTargets
  refine foldl_keeps (fun t : State => t = { s with yard := t.yard, desk := t.desk }) _ (fun t p ht => ?_) _ _ rfl
  dsimp only
  split
  · exact ht
  · rw [State.onYard_frame, ht]

/-! ## Gates at the entries to the modes (R10, R11, R26, R29, R96, R97) -/

theorem State.emptySlots_frame (s : State) : s.emptySlots = { s with yard := s.emptySlots.yard } := by
  unfold State.emptySlots
  refine foldl_keeps (fun t : State => t = { s with yard := t.yard }) _ (fun t i ht => ?_) _ _ rfl
  rw [ht]; rfl

theorem State.reseatLocked_frame (s : State) : s.reseatLocked = { s with yard := s.reseatLocked.yard } := by
  unfold State.reseatLocked
  refine foldl_keeps (fun t : State => t = { s with yard := t.yard }) _ (fun t i ht => ?_) _ _ rfl
  split
  · rw [ht]; rfl
  · exact ht

theorem State.setStandings_frame (s : State) : s.setStandings = { s with yard := s.setStandings.yard } := by
  unfold State.setStandings
  refine foldl_keeps (fun t : State => t = { s with yard := t.yard }) _ (fun t i ht => ?_) _ _ rfl
  dsimp only
  split
  · rw [ht]; rfl
  · exact ht

theorem State.endLag_frame (s : State) : s.endLag = { s with yard := s.endLag.yard, desk := s.endLag.desk } := by
  unfold State.endLag State.clearAll
  have h := foldl_keeps (fun t : State => t = { s with yard := t.yard })
    (fun s i => s.setGate i { s.gate i with lagStart := none, lagReported := false }) (fun t i ht => by rw [ht]; rfl) allGates s rfl
  rw [h]

theorem State.freezeGates_frame (s : State) : s.freezeGates = { s with yard := s.freezeGates.yard, desk := s.freezeGates.desk } := by
  unfold State.freezeGates
  refine foldl_keeps (fun t : State => t = { s with yard := t.yard, desk := t.desk }) _ (fun t i ht => ?_) _ _ ?_
  · rw [State.onYard_frame, ht]
  · refine foldl_keeps (fun t : State => t = { s with yard := t.yard, desk := t.desk }) _ (fun t i ht => ?_) _ _ rfl
    rw [State.onYard_frame, ht]

theorem State.testLockedGates_frame (s : State) :
    s.testLockedGates = { s with yard := s.testLockedGates.yard, desk := s.testLockedGates.desk } := by
  unfold State.testLockedGates
  refine foldl_keeps (fun t : State => t = { s with yard := t.yard, desk := t.desk }) _ (fun t i ht => ?_) _ _ rfl
  rw [State.onYard_frame, ht]

/-- The mode registers after the entries to FALLBACK and FROZEN (R130, R132). -/
theorem State.enterFallback_mdc (s : State) :
    s.enterFallback.mdc = { s.mdc with mode := .fallback, controlPresent := false, orderTimer := none } := by
  unfold State.enterFallback
  dsimp only
  rw [State.testLockedGates_frame, State.setRefresh_frame, State.emptySlots_frame]

theorem State.enterFrozen_mdc (s : State) :
    s.enterFrozen.mdc = { s.mdc with mode := .frozen, orderTimer := none, controlPresent := false } := by
  unfold State.enterFrozen State.stopRefresh State.clear
  dsimp only
  rw [State.handOverPlanned_frame, State.emptySlots_frame, State.freezeGates_frame]

end Sys2Proof.Machine
end

