-- ==== Sys2Proof/Laws/Codec.lean ====
section
/-! SUPPORT. Bytes and numbers: the fields of frames and images written most significant byte first and read back (chapter 12). -/

namespace Sys2Proof.Machine

@[simp] theorem beBytes_length (w n : Nat) : (beBytes w n).length = w := by
  induction w generalizing n with
  | zero => rfl
  | succ w ih => simp [beBytes, ih]

theorem beNat_append_one (b : List Byte) (x : Byte) : beNat (b ++ [x]) = beNat b * 256 + x.toNat := by
  simp [beNat, List.foldl_append]

/-- A number that fits its field is read back (chapter 12). -/
theorem beNat_beBytes (w n : Nat) (h : n < 256 ^ w) : beNat (beBytes w n) = n := by
  induction w generalizing n with
  | zero => simp at h; subst h; rfl
  | succ w ih =>
    have h1 : n / 256 < 256 ^ w := by
      rw [Nat.div_lt_iff_lt_mul (by decide)]
      rw [pow_succ] at h
      exact h
    rw [beBytes, beNat_append_one, ih _ h1, BitVec.toNat_ofNat]
    omega

/-- A run of bytes is a number below 256 to its length. -/
theorem beNat_lt (b : List Byte) : beNat b < 256 ^ b.length := by
  induction b using List.reverseRecOn with
  | nil => simp [beNat]
  | append_singleton b x ih =>
    rw [beNat_append_one, List.length_append, List.length_singleton, pow_succ]
    have := x.isLt
    omega

/-- The bytes of the number a run of bytes carries are that run. -/
theorem beBytes_beNat (b : List Byte) : beBytes b.length (beNat b) = b := by
  induction b using List.reverseRecOn with
  | nil => rfl
  | append_singleton b x ih =>
    have hx := x.isLt
    have h1 : (beNat b * 256 + x.toNat) / 256 = beNat b := by omega
    have h2 : BitVec.ofNat 8 (beNat b * 256 + x.toNat) = x := by
      apply BitVec.eq_of_toNat_eq
      rw [BitVec.toNat_ofNat]
      omega
    rw [List.length_append, List.length_singleton, beBytes, beNat_append_one, h1, h2, ih]

@[simp] theorem crcBytes_length (c : BitVec 16) : (crcBytes c).length = 2 := by simp [crcBytes]

/-- A CRC's two bytes carry it (R170). -/
theorem beNat_crcBytes (c : BitVec 16) : beNat (crcBytes c) = c.toNat := beNat_beBytes 2 _ (by have := c.isLt; omega)

/-- A frame the part makes carries the CRC of what it covers and the length of its payload (R170, R171). -/
theorem makeBusFrame_check (d s k : Byte) (p : List Byte) :
    (makeBusFrame d s k p).check = crc16 (busCovered (makeBusFrame d s k p)) := rfl

theorem makeReachFrame_check (s k q : Byte) (p : List Byte) :
    (makeReachFrame s k q p).check = crc16 (reachCovered (makeReachFrame s k q p)) := rfl

end Sys2Proof.Machine
end

