-- ==== Sys2Proof/Tests/Slice0.lean ====
section
/-! SUPPORT. Our own tests: the smoke of the well-formedness checks, the worked examples of the manual, and for every statement with
hypotheses a concrete state that meets them. Expected numbers are the manual's, or reckoned by hand from its rules. -/

namespace Sys2Proof.Tests

open Sys2Proof Sys2Proof.Machine

set_option Elab.async false

/-! ## A small station -/

/-- The state an outcome leaves; the reset state where it stops. -/
def after (o : Host.Outcome State Fault Refusal) : State :=
  match o with
  | .next t => t
  | _ => .reset

/-- The state a command leaves. -/
def run (c : Instr) (s : State) : State := after (exec c s)

/-- A station-bus frame with a good check. -/
def bus (destination source kind : Byte) (payload : List Byte) : BusFrame := makeBusFrame destination source kind payload

/-- A curve with a flow of `a` fu for each 100 per-mille at every head, as in section 5.10. -/
def straight (a : Nat) : Curve :=
  { shift := 0, heads := [0, 100000], rows := (List.range 11).map (fun i => [a * i, a * i]) }

/-- A wicket gate; the timers are those of section 1.8. -/
def wicketCfg (drive : Nat) : GateCfg :=
  { inService := true, kind := .wicket, driveAddress := drive, group := 0, curve := 0, minOpening := 50, maxOpening := 950
    slew := 150, band := 5, moveTimeout := 400, tUL := 20, tFM := 50, tST := 30, tLK := 25, tCY := 600, tID := 100
    lagTolerance := 100, lagTime := 40, runawayTolerance := 50 }

/-- A spill gate; the travel time, band and dwell are those of section 1.5.1. -/
def spillCfg (drive : Nat) : GateCfg :=
  { inService := true, kind := .spill, driveAddress := drive, group := 1, curve := 1, minOpening := 0, maxOpening := 1000
    slew := 100, band := 4, moveTimeout := 3000, tUL := 20, tFM := 50, tST := 30, tLK := 25, tCY := 600, tID := 100
    travelTime := 25, reversalDwell := 30, lagTolerance := 100, lagTime := 40, runawayTolerance := 50 }

/-- A gate out of service. -/
def idleCfg (drive : Nat) : GateCfg := { wicketCfg drive with inService := false }

/-- A STATION table. -/
def station : Station :=
  { stationNumber := 5, upstream := 4, downstream := 6, roundInterval := 50, floodEntry := 412000, floodExit := 409500
    minimumLevel := 395000, orderTimeout := 600, seenTimeout := 200, reportTimeout := 900, linkPeriod := 100
    linkTimeout := 600, noticeThreshold := 200, noticeRefresh := 3000, defaultAcceptance := 1200, tailwaterDefault := 361230
    noticeMask := 1, portErrorThreshold := 3 }

/-- The RAMP table of sections 5.10 and 5.11. -/
def ramp : Ramp :=
  { floodRise := 12000, bands := [{ upper := 5000, rise := 3000, fall := 4800 }, { upper := 8000, rise := 2400, fall := 3000 }] }

/-- The FLOOD table of section 5.13. -/
def floodRows : List FloodRow :=
  [{ threshold := 409000, opening := 150 }, { threshold := 412000, opening := 300 }, { threshold := 415000, opening := 500 }]

/-- The REACH table of section 7.8. -/
def reach : Reach :=
  { lateral := 300, initial := 700
    bands := [{ upper := 2000, delay := 1800 }, { upper := 6000, delay := 1200 }, { upper := 134215680, delay := 900 }] }

/-- The tables of the small station: gates 0 and 1 wicket, gate 5 spill; channels 0 to 2 headwater, 4 tailwater. -/
def tables : Tables :=
  { station := .valid station
    gates := .valid
      ([wicketCfg 10, wicketCfg 11, idleCfg 12, idleCfg 13, idleCfg 14, spillCfg 15] ++ (List.range 10).map (fun i => idleCfg (16 + i)))
    groups := .valid
      [{ capacity := 2, spacing := 40 }, { capacity := 1, spacing := 40 }, { capacity := 1 }, { capacity := 1 }]
    channels := .valid
      [{ role := .headwater, source := 101, point := 1, validMin := 380000, validMax := 430000, staleLimit := 3000 },
       { role := .headwater, source := 101, point := 2, validMin := 380000, validMax := 430000, staleLimit := 3000 },
       { role := .headwater, source := 102, point := 1, validMin := 380000, validMax := 430000, staleLimit := 3000 },
       {}, { role := .tailwater, source := 103, point := 1, validMin := 350000, validMax := 370000, staleLimit := 3000 },
       {}, {}, {}]
    conditions := .valid [2, 2, 1, 1, 1, 2, 1, 1, 1, 0, 1, 0, 0]
    curves := ((Vector.replicate 8 TableSlot.absent).set 0 (.valid (straight 200))).set 1 (.valid (straight 500))
    ramp := { active := .valid ramp }
    flood := { active := .valid floodRows }
    accept := { active := .valid [{ threshold := 405000, acceptance := 3000 }, { threshold := 420000, acceptance := 900 }] }
    reach := { active := .valid reach }
    fill := { active := .valid [0, 1, 5] } }

/-- A gate LOCKED at an opening, with it as setpoint and target, its minimum cycle not over at tick 1000. -/
def lockedAt (p : Nat) : Gate :=
  { state := .locked, commanded := some p, target := some p, position := some p, positionAtLock := some p
    brake := some .engaged, running := some false, fault := some false, lastReport := some 900, lastUnlock := some 900 }

/-- The small station in GOVERN at tick 1000, gates 0, 1 and 5 LOCKED, nothing waiting. -/
def govern : State :=
  { now := 1000
    mdc := { mode := .govern, orderTimer := some 1500 }
    yard := { gates := (((Vector.replicate 16 {}).set 0 (lockedAt 400)).set 1 (lockedAt 300)).set 5 (lockedAt 0) }
    lvu :=
      { channels := (Vector.replicate 8 {}).set 0
          { value := some 400000, quality := .good, lastGood := some 900, staleWatch := some 3900 }
        headwater := some 400000, lastHeadwater := some 400000, tailwater := 361230, head := 38770, lastHead := some 38770 }
    rgv := { roundTimer := some 1000 }
    csu := { received := some 1200, refreshTimer := some 4000 }
    tables := tables, stationValidSince := some 100 }

/-- The small station in another mode, with the timers that mode stops. -/
def inMode (m : Mode) : State :=
  { govern with
    mdc := { mode := m }
    rgv := { roundTimer := if m.governing then some 1000 else none }
    csu := { govern.csu with refreshTimer := none } }

/-- The small station with one gate replaced. -/
def withGate (i : Fin 16) (g : Gate) (s : State := govern) : State := s.setGate i g

/-- The small station with Port L sending and its own queue full. -/
def fullOwn (s : State) : State :=
  { s with desk := { s.desk with portL :=
    { own := List.replicate 8 (bus 0 254 8 [1, 0]), sending := some (.general (bus 0 10 1 [])) } } }

/-! ## Well-formedness: each check refuses an ill-formed command -/

theorem test_wf_sample_kind : ¬WellFormed (.sampleReceived (bus 0 101 kindReport [0, 0, 0, 0, 0])) := by decide
theorem test_wf_report_kind : ¬WellFormed (.reportReceived (bus 0 10 kindSample [1, 0, 0, 0, 0, 0])) := by decide
theorem test_wf_order_kind : ¬WellFormed (.orderReceived (bus 10 0 kindDrive [])) := by decide
theorem test_wf_keepalive_destination : ¬WellFormed (.keepaliveReceived (bus 255 0 kindKeepalive [])) := by decide
theorem test_wf_drive_kind : ¬WellFormed (.driveFrameReceived (bus 10 0 kindOrder [])) := by decide
theorem test_wf_forward_manage : ¬WellFormed (.frameForward .L (bus 254 0 kindManage [1])) := by decide
theorem test_wf_unknown_known : ¬WellFormed (.manageUnknownRequest (bus 254 0 kindManage [1])) := by decide
theorem test_wf_segment_empty : ¬WellFormed (.loadSegment 0 []) := by decide
theorem test_wf_segment_long : ¬WellFormed (.loadSegment 0 (List.replicate 201 0)) := by decide +kernel
theorem test_wf_read_back_short : ¬WellFormed (.flashWriteCompletion (some [1, 2, 3, 4])) := by decide
theorem test_wf_release_kind : ¬WellFormed (.releaseReceived (makeReachFrame 4 reachAccept 0 [])) := by decide
theorem test_wf_accept_kind : ¬WellFormed (.acceptReceived (makeReachFrame 6 reachRelease 0 [])) := by decide
theorem test_wf_linkcheck_kind : ¬WellFormed (.linkcheckReceived .U (makeReachFrame 4 reachRelease 0 [])) := by decide
theorem test_wf_discard_of_valid : ¬WellFormed (.receiveErrorDiscard .L (busWire (bus 0 10 kindAnswer []))) := by
  decide +kernel
theorem test_wf_good_frames :
    WellFormed (.sampleReceived (bus 0 101 kindSample [])) ∧ WellFormed (.manageUnknownRequest (bus 254 0 kindManage [77])) ∧
    WellFormed (.receiveErrorDiscard .F [1, 2, 3]) ∧ WellFormed (.loadSegment 0 [1]) := by decide +kernel

/-! ## Codes, checks and layouts (R136, R170, R171) -/

/-- R170: the check of the nine digits. -/
theorem test_check_of_the_nine_digits :
    crc16 [0x31, 0x32, 0x33, 0x34, 0x35, 0x36, 0x37, 0x38, 0x39] = 0x29B1#16 := by decide +kernel

/-- R136: the conditions stand in the order of their numbers, 0 to 119. -/
theorem test_conditions_numbered : allConds.map (fun c => c.number.val) = List.range 120 := by decide +kernel

/-- R171: PORT_ERRORS is kind 13, its subject 2 for Port U. -/
theorem test_condition_codes : Cond.ofCodes 13 2 = some (.portErrorsReach .U) ∧ Cond.ofCodes 13 4 = none := by decide +kernel

/-- R171: the widths of the read replies, reckoned from the field table. -/
theorem test_reply_lengths :
    govern.statusData.length = 85 ∧ (govern.gateData 0).length = 95 ∧ (govern.channelData 0).length = 21 ∧
    govern.portsData.length = 26 ∧ (govern.conditionsData 0).length = 4 := by decide +kernel

/-- R171: READ_TABLE at offset 3 of table 2 is request 6 with three argument bytes. -/
theorem test_request_read_table : parseRequest [6, 2, 0, 3] = some (.readTable 2 3) ∧ parseRequest [6, 2, 0] = none := by decide

/-- No row of the opcode table has bits. -/
theorem test_no_words : decodeTableWord 8 5 = none := rfl

/-! ## Worked computations of the rating chapter -/

/-- Section 4.2.1. -/
theorem test_flow_interior :
    headStep 456 526 20000 30000 24500 * 2 ^ 2 = 1952 ∧
    Curve.column { shift := 2, heads := [], rows := [[], [], [], [0, 400, 460], [0, 520, 600]] } 347 2 = 526 := by decide

/-- Curve 5 of section 4.2.2. -/
def curve5 : Curve :=
  { shift := 3, heads := [10000, 30000, 50000]
    rows := [[0, 0, 0], [40, 70, 90], [85, 145, 190], [130, 225, 290], [175, 305, 395], [220, 380, 495], [260, 450, 585],
      [295, 515, 665], [325, 565, 735], [345, 600, 780], [355, 615, 800]] }

theorem test_flow_edges :
    curve5.flow 1000 55000 = 6400 ∧ curve5.flow 655 8000 = 2232 ∧ curve5.flow 250 10000 = 864 ∧ curve5.flow 250 20000 = 1176 := by
  decide

/-- Curve 0 of section 4.3.1, with a gate of bounds 50 to 950 on it. -/
def curve0 : Curve :=
  { shift := 1, heads := [40000, 60000]
    rows := [[0, 0], [300, 380], [700, 880], [1150, 1440], [1600, 2000], [2050, 2560], [2480, 3100], [2880, 3600],
      [3230, 4040], [3520, 4400], [3700, 4620]] }

/-- Section 4.3.1: 4,000 fu takes opening 437, and 10,000 fu the maximum opening. -/
theorem test_opening_for_flow :
    let t : Tables := { tables with curves := (Vector.replicate 8 TableSlot.absent).set 0 (.valid curve0) }
    t.openingForFlow 0 4000 50615 = 437 ∧ t.openingForFlow 0 10000 50615 = 950 := by decide +kernel

/-- Section 5.6: limits made per round. -/
theorem test_limits_per_round : perRound 1200 50 = 100 ∧ perRound 4800 50 = 400 ∧ perRound 11 50 = 1 ∧ perRound 0 50 = 0 := by decide

/-- Section 1.5.1: the lengths of spill runs. -/
theorem test_spill_runs :
    runLength (spillCfg 15) 130 = 325 ∧ runLength (spillCfg 15) 12 = 30 ∧ runLength (spillCfg 15) 93 = 233 ∧
    runLength (spillCfg 15) 57 = 143 := by decide

/-! ## Worked rounds and examples -/

/-- Section 5.10: gate 0 at 400 with an order to 600 and gate 5 at 0 with standing target 200; no other gate in service. -/
def scaling : State :=
  let slot : OrderSlot := { opening := 600, holdEnd := 900, visible := true, lockAfter := false, tag := 1 }
  withGate 5 { lockedAt 0 with standing := { opening := some 200 } }
    (withGate 0 { lockedAt 400 with slot := some slot } (withGate 1 {}))

/-- Section 5.10: the round commits 418 and 12 with planned outflow 896, SCALED. -/
theorem test_round_scaled :
    let t := run .governingRound scaling
    (t.gate 0).commanded = some 418 ∧ (t.gate 0).target = some 418 ∧ (t.gate 0).lockAfter = false ∧ (t.gate 0).slot = none ∧
    (t.gate 5).commanded = some 12 ∧ t.rgv.planned = 896 ∧ t.rgv.lastResult = .scaled := by decide +kernel

/-- Section 5.10: in FLOOD it commits 550 and 100 with 1,600, APPLIED, and gate 5 goes URGENT. The flood floor of the small station is 0
below its first threshold. -/
theorem test_round_flood :
    let t := run .governingRound { scaling with lvu := { scaling.lvu with regime := .flood } }
    (t.gate 0).commanded = some 550 ∧ (t.gate 5).commanded = some 100 ∧ t.rgv.planned = 1600 ∧ t.rgv.lastResult = .applied ∧
    (t.gate 5).priority = .urgent := by decide +kernel

/-- Section 5.11: the fill. Gate 6 is a FAULTED spill gate reported at 120. -/
def filling : State :=
  let gates := [{ wicketCfg 10 with slew := 200 }, { wicketCfg 11 with slew := 200 }, idleCfg 12, idleCfg 13, idleCfg 14,
    spillCfg 15, spillCfg 16] ++ (List.range 9).map (fun i => idleCfg (17 + i))
  let t : Tables := { tables with gates := .valid gates, station := .valid { station with roundInterval := 100 } }
  withGate 6 { (lockedAt 120) with state := .faulted } (withGate 5 (lockedAt 100) (withGate 0 (lockedAt 800)
    { inMode .fallback with tables := t, csu := { received := some 1800, upstream := 4700, upstreamSource := .notice } }))

theorem test_round_fill :
    let t := run .governingRound filling
    (t.gate 0).commanded = some 856 ∧ (t.gate 1).commanded = some 375 ∧ (t.gate 5).commanded = some 107 ∧
    t.rgv.planned = 3597 ∧ t.rgv.lastResult = .scaled := by decide +kernel

/-- Section 5.12: opposing steps are halved at trial 3; with acceptance 0 the round is HELD. -/
def opposing (acceptance : Nat) : State :=
  let t : Tables := { tables with
    gates := .valid ([{ wicketCfg 10 with slew := 300 }, idleCfg 11, idleCfg 12, idleCfg 13, idleCfg 14, spillCfg 15] ++
      (List.range 10).map (fun i => idleCfg (16 + i)))
    station := .valid { station with roundInterval := 60 } }
  withGate 5 { lockedAt 300 with standing := { opening := some 200 } }
    (withGate 0 { lockedAt 300 with standing := { opening := some 560 } }
      { govern with tables := t, csu := { govern.csu with received := some acceptance } })

theorem test_round_halved :
    let t := run .governingRound (opposing 30)
    (t.gate 5).commanded = some 293 ∧ (t.gate 0).commanded = some 319 ∧ t.rgv.planned = 2103 ∧ t.rgv.lastResult = .scaled := by
  decide +kernel

theorem test_round_held :
    let t := run .governingRound (opposing 0)
    (t.gate 5).commanded = some 300 ∧ t.rgv.lastResult = .held ∧ t.Raised .rampHeld := by decide +kernel

/-- Section 5.13: a flood floor of 300 raises gate 5's target, bounded to 220 by its slew. -/
theorem test_round_flood_floor :
    let s := withGate 1 {} (withGate 5 { lockedAt 120 with standing := { opening := some 100, lockAfter := false } }
      (withGate 0 (lockedAt 500)))
    let t := run .governingRound { s with lvu := { s.lvu with regime := .flood, headwater := some 413200 } }
    (t.gate 5).commanded = some 220 ∧ (t.gate 5).lockAfter = true ∧ (t.gate 5).priority = .urgent ∧ t.rgv.planned = 2100 := by
  decide +kernel

/-- Section 1.8: the cycle of a wicket gate, from the UNLOCKING expiry to the lock-allowed instant. -/
theorem test_wicket_move_end :
    let moving : Gate := { lockedAt 301 with
      state := .moving, commanded := some 420, target := some 420, lockAfter := false, moveSetpoint := some 420
      moveWatch := some 1420, lastUnlock := some 1000, unlockCompletion := some 1020 }
    let t := run (.reportReceived (bus 0 10 kindReport [1, 161, 1, 0, 0])) { withGate 0 moving with now := 1180 }
    (t.gate 0).state = .free ∧ (t.gate 0).lastMoveEnd = some 1180 ∧ (t.gate 0).stateTimer = some 1280 ∧
    (t.gate 0).moveSetpoint = none := by decide +kernel

/-- Section 1.5.1: the first trim run of gate 9's move. -/
theorem test_spill_trim :
    let g : Gate := { lockedAt 318 with
      state := .reversing, target := some 330, moveSetpoint := some 330, stateTimer := some 5355, moveWatch := some 8000 }
    let t := run (.reversalDwellExpiry 5) { withGate 5 g with now := 5355 }
    (t.gate 5).state = .moving ∧ (t.gate 5).stateTimer = some 5385 ∧ (t.gate 5).trimCount = 1 := by decide +kernel

/-- Section 2.8, tick 2050: an URGENT gate that finds the slots full has the idle NORMAL gate of its group lock at once. -/
theorem test_early_lock :
    let waiting : Gate := { lockedAt 0 with target := some 100, pending := true, priority := .urgent, stateTimer := some 2050, lastUnlock := some 1000 }
    let idle : Gate := { lockedAt 400 with
      state := .free, lockAfter := false, unlockCompletion := some 1950, lastMoveEnd := some 1990, stateTimer := some 2190 }
    let t := run (.tcyWaitExpiry 0) { (withGate 0 waiting (withGate 1 idle)).setGate 5 {} with
      now := 2050
      yard := { (withGate 0 waiting (withGate 1 idle)).yard with
        groups := (Vector.replicate 4 {}).set 0 { slots := 2, lastGrant := some 2000 } } }
    (t.gate 1).earlyLock = true ∧ (t.gate 1).stateTimer = some 2050 ∧ (t.gate 0).state = .waitGrant ∧
    (t.group 0).queue = [{ gate := 0, priority := .urgent }] := by decide +kernel

/-- Section 7.8: notices held back by the travel delay of the one before. -/
theorem test_notice_held_back :
    let s : State := { govern with
      now := 102000, portU := { link := .up }
      csu := { govern.csu with
        lastSequence := some 40, queue := [{ outflow := 1800, due := 118000 }], upstream := 1500, upstreamSource := .notice } }
    let t := run (.releaseReceived (makeReachFrame 4 reachRelease 41 (beBytes 4 4000))) s
    t.csu.queue = [{ outflow := 1800, due := 118000 }, { outflow := 4000, due := 118000 }] ∧ t.forecastInflow = 1800 ∧
    t.active .noticeGap = false := by decide +kernel

/-- Section 7.8, tick 118,000: the last of the due entries gives the forecast 7,800. -/
theorem test_notices_mature :
    let s : State := { govern with
      now := 118000
      csu := { govern.csu with queue :=
        [{ outflow := 1800, due := 118000 }, { outflow := 4000, due := 118000 }, { outflow := 7500, due := 118000 },
         { outflow := 7000, due := 119000 }] } }
    let t := run .forecastDueExpiry s
    t.csu.queue = [{ outflow := 7000, due := 119000 }] ∧ t.forecastInflow = 7800 := by decide +kernel

/-- Chapter 6: an order for 1200 to a gate with maximum 950 is taken at 950, CLAMPED (R93). -/
theorem test_order_clamped :
    let t := run (.orderReceived (bus 10 0 kindOrder (beBytes 2 1200 ++ beBytes 2 30 ++ [1, 17]))) govern
    (t.gate 0).slot = some { opening := 950, holdEnd := 1030, visible := false, lockAfter := true, tag := 17 } ∧
    t.mdc.orderTimer = some 1600 ∧
    t.desk.portL.sending = some (.own (bus 0 254 kindAnswer ([17, 0, 1] ++ beBytes 2 950))) := by decide +kernel

/-- Section 3.6, tick 10,200: the mean of two GOOD gauges brings the regime to FLOOD. -/
theorem test_flood_entry :
    let ch (v : Nat) (q : Quality) : Channel := { value := some v, quality := q, lastGood := some 10100, staleWatch := some 13100 }
    let s : State := { govern with
      now := 10200
      lvu := { govern.lvu with
        channels := (((Vector.replicate 8 {}).set 0 (ch 411820 .good)).set 1 (ch 412140 .good)).set 2 (ch 411790 .questionable) } }
    let t := run (.sampleReceived (bus 0 101 kindSample ([1] ++ beBytes 4 412050 ++ [0]))) s
    t.lvu.headwater = some 412095 ∧ t.lvu.head = 50865 ∧ t.lvu.regime = .flood ∧ t.Raised .headHigh ∧ t.csu.ownAcceptance = some 0 := by
  decide +kernel

/-! ## States that meet the hypotheses of the statements, one theorem a statement -/

/-- A REPORT frame from drive 10: position 400, brake, running no, fault no. -/
def report (position : Nat) (brake : Byte) : BusFrame := bus 0 10 kindReport (beBytes 2 position ++ [brake, 0, 0])

/-- A SAMPLE frame of gauge 101 point 1. -/
def sample (value : Nat) (quality : Byte) : BusFrame := bus 0 101 kindSample ([1] ++ beBytes 4 value ++ [quality])

/-- The small station in CONFIG, gate 0 at a record, nothing due. -/
def configWith (g : Gate) : State := withGate 0 g (inMode .config)

/-- A gate in a state whose state timer is due at tick 1000, reported released at 400. -/
def dueIn (st : GateState) (b : Brake) : Gate :=
  { lockedAt 400 with state := st, brake := some b, stateTimer := some 1000, lastUnlock := some 980 }

/-- Group 0 of a state replaced. -/
def withGroup (g : Group) (s : State) : State := { s with yard := s.yard.setGroup 0 g }

theorem wit_IdleStepsTakeDueExpiriesOrTick :
    let c := inMode .config
    let flight : State := { c with yard := { c.yard with inFlight := [0] } }
    govern.pending = [] ∧ govern.dueEvents ≠ [] ∧ c.pending = [] ∧ c.dueEvents = [] ∧ c.yard.inFlight = [] ∧
    flight.pending = [] ∧ flight.dueEvents = [] ∧ flight.yard.inFlight ≠ [] := by decide +kernel

/-- The last slot of a boot read with the outcomes of the slots before it, from a start source. -/
def lastSlot (source : StartSource) (l : List BootOutcome) (fill : FlashSlot := .holds []) : State :=
  { State.reset with
    mdc := { source := source, phase := some .bootRead }, boot := some { slot := 17, outcomes := l }
    flash := State.reset.flash.set 17 fill }

/-- The outcomes of the slots 0 to 16 with every required table of the small station VALID, and a wait of `w` ticks. -/
def goodSlots (w : Nat) : List BootOutcome :=
  [.valid (.station { station with seenTimeout := w }),
   .valid (.gates ([wicketCfg 10, wicketCfg 11, idleCfg 12, idleCfg 13, idleCfg 14, spillCfg 15] ++ (List.range 10).map (fun i => idleCfg (16 + i)))),
   .valid (.groups [{ capacity := 2, spacing := 40 }, { capacity := 1, spacing := 40 }, { capacity := 1 }, { capacity := 1 }]),
   .valid (.channels (List.replicate 8 {})), .valid (.conditions [2, 2, 1, 1, 1, 2, 1, 1, 1, 0, 1, 0, 0]),
   .valid (.curve 0 (straight 200)), .valid (.curve 1 (straight 500)), .invalid] ++ List.replicate 5 .absent ++
  [.valid (.ramp ramp)] ++ List.replicate 3 .absent

theorem wit_BootReadsJudgeEverySlot :
    let blank := lastSlot .flashAuto (List.replicate 17 .absent)
    let good := lastSlot .flashAuto (goodSlots 200) (.holds (slotBytes .fill [2, 0, 5]))
    let t := run .flashReadCompletion good
    State.reset.boot = some { slot := 0, outcomes := [] } ∧ (0 : Fin 18).val + 1 < 18 ∧
    blank.boot = some { slot := 17, outcomes := List.replicate 17 .absent } ∧
    judgeSlot .fill blank.flash[(17 : Fin 18)] = .absent ∧ blank.tables = {} ∧ blank.mdc.source = .flashAuto ∧
    (goodSlots 200).length = 17 ∧ judgeSlot .fill good.flash[(17 : Fin 18)] = .valid (.fill [0, 5]) ∧ good.tables = {} ∧
    t.tables.entryCheck = none ∧ t.lvu.headwater = none ∧ t.tables.stationOr.seenTimeout = 200 ∧ t.mdc.phase = some .startWait ∧
    t.Raised (.loadFailed (.curve 2)) ∧ t.tables.data? .fill = some (.fill [0, 5]) := by decide +kernel

theorem wit_BootReadsOfEachOutcome :
    let zero := run .flashReadCompletion (lastSlot .flashAuto (goodSlots 0))
    let level : State := { lastSlot .flashAuto (goodSlots 200) with lvu := { headwater := some 400000 } }
    let hold := run .flashReadCompletion (lastSlot .flashHold (goodSlots 200))
    zero.mdc.mode = .config ∧ zero.Raised .levelLost ∧ (run .flashReadCompletion level).mdc.mode = .govern ∧
    hold.mdc.mode = .config ∧ hold.mdc.startReason = none ∧
    parseTable .station (TableData.image (.station { station with seenTimeout := 200 })) ≠ none ∧
    parseTable .ramp (TableData.image (.ramp ramp)) ≠ none := by decide +kernel

/-- The owners' clauses of the boot read: ports present and absent, gates UNSEEN, channels in use, REACH and ACCEPT VALID. -/
theorem wit_BootReadsOfTheOwners :
    let slots (st : Station) : List BootOutcome :=
      [.valid (.station st)] ++ ((goodSlots 200).drop 1).take 2 ++ [.valid (.channels [{ role := .headwater, staleLimit := 9 }])] ++
      ((goodSlots 200).drop 4).take 9 ++
      [.valid (.ramp ramp), .absent, .valid (.accept [{ threshold := 405000, acceptance := 3000 }]), .valid (.reach reach)]
    let t := run .flashReadCompletion (lastSlot .flashHold (slots station))
    let u := run .flashReadCompletion (lastSlot .flashHold (slots { station with upstream := 0 }))
    (slots station).length = 17 ∧ (t.cfg 0).inService = true ∧ ((lastSlot .flashHold (slots station)).gate 0).state = .unseen ∧
    (t.gate 0).stateTimer = some 200 ∧ t.lvu.channels[(0 : Fin 8)].staleWatch = some 9 ∧ t.portPresent .U = true ∧
    t.portU.silence = some 600 ∧ t.portPresent .D = true ∧ t.portD.period = some 100 ∧ t.csu.upstream = 700 ∧
    t.tables.accept.active.isValid = true ∧ t.csu.ownAcceptance = some 0 ∧ u.portPresent .U = false ∧ u.csu.upstream = 700 := by
  decide +kernel

theorem wit_TableImagesReadBack : parseTable .fill [2, 0, 5] = some (.fill [0, 5]) := by decide +kernel

theorem wit_RequestPayloadsReadBack : segmentLengthOk [7] = true ∧ parseRequest [9, 0, 0, 7] = some (.loadSegment 0 [7]) := by
  decide

theorem wit_ChannelsAreGradedAndGoStale :
    busFrameValid .F (sample 400100 0) = true ∧ govern.tables.sampleChannel (readSample (sample 400100 0)) = some 0 ∧
    (govern.tables.channelCfg 0).validMin ≤ 380000 ∧ 430000 ≤ (govern.tables.channelCfg 0).validMax ∧
    (readSample (sample 430001 0)).value = 430001 ∧ govern.lvu.channels[(0 : Fin 8)].staleWatch = some 3900 := by decide +kernel

/-- A SAMPLE frame of the tailwater gauge. -/
def tailSample (value : Nat) (quality : Byte) : BusFrame := bus 0 103 kindSample ([1] ++ beBytes 4 value ++ [quality])

theorem wit_SamplesDeriveHeadwater :
    busFrameValid .F (sample 400100 2) = true ∧ govern.tables.sampleChannel (readSample (sample 400100 2)) = some 0 ∧
    (govern.tables.channelCfg 0).role = .headwater ∧ (run (.sampleReceived (sample 400100 0)) govern).lvu.headwater = some 400100 ∧
    (run (.sampleReceived (sample 400100 2)) govern).lvu.headwater = none ∧ govern.mdc.mode.supervised = true ∧
    (run (.sampleReceived (sample 394999 0)) govern).active .headLow = true ∧
    (run (.sampleReceived (sample 395000 0)) govern).active .headLow = false ∧
    (run (.sampleReceived (sample 400100 2)) govern).Raised .levelLost ∧
    ¬(run (.sampleReceived (sample 400100 2)) (inMode .config)).Raised .levelLost := by decide +kernel

/-- R125: a valid headwater in START_WAIT brings the station to GOVERN, and one above the flood entry level begins a FLOOD there. -/
theorem wit_SamplesEndTheStartWait :
    let s : State := { inMode .starting with
      mdc := { phase := some .startWait, startWait := some 1100 }, lvu := { govern.lvu with headwater := none, channels := Vector.replicate 8 {} } }
    let t := run (.sampleReceived (sample 400100 0)) s
    s.mdc.mode = .starting ∧ t.mdc = { mode := .govern, orderTimer := some 1600 } ∧ t.rgv.roundTimer = some 1050 ∧
    t.csu.refreshTimer = some 1000 ∧ (t.gate 0).standing.opening = some 400 ∧
    (run (.sampleReceived (sample 412000 0)) s).lvu.regime = .flood ∧ (run (.sampleReceived (sample 412000 0)) s).Raised .headHigh := by
  decide +kernel

theorem wit_SamplesDeriveTailwater :
    let s : State := { govern with
      lvu := { govern.lvu with channels := govern.lvu.channels.set 0 { govern.lvu.channels[(0 : Fin 8)] with staleWatch := some 1000 } } }
    let derived := run (.sampleReceived (tailSample 361000 0)) govern
    let held := run (.sampleReceived (tailSample 361000 2)) derived
    s.lvu.channels[(0 : Fin 8)].staleWatch = some 1000 ∧ 1000 ≤ s.now ∧ (run (.staleWatchExpiry 0) s).lvu.headwater = none ∧
    busFrameValid .F (tailSample 361000 0) = true ∧ govern.tables.sampleChannel (readSample (tailSample 361000 0)) = some 4 ∧
    (govern.tables.channelCfg 4).role = .tailwater ∧ derived.lvu.tailwater = 361000 ∧ derived.lvu.tailSource = .derived ∧
    derived.lvu.head = 39000 ∧ held.lvu.tailwater = 361000 ∧ held.lvu.tailSource = .held ∧
    (run (.sampleReceived (tailSample 361000 2)) govern).lvu.tailSource = .default := by decide +kernel

theorem wit_MediansAreMiddleValues :
    [3, 1, 2].length = 2 * 1 + 1 ∧ [9, 4].length = 2 * 0 + 2 ∧ (sortValues [9, 4])[0]? = some 4 ∧ (sortValues [9, 4])[0 + 1]? = some 9 ∧
    median [9, 4] = some 6 := by decide

theorem wit_ReportsAreStored :
    busFrameValid .F (report 400 0) = true ∧ (report 400 0).kind = kindReport ∧ 0 ∈ govern.tables.reportGates 10 := by decide +kernel

/-- The gate's state at a REPORT of gate 0: moving toward `m` with target `q`. -/
def movingTo (m q : Nat) : State :=
  withGate 0 { lockedAt 400 with state := .moving, moveSetpoint := some m, target := some q, commanded := some q, moveWatch := some 1500 }

theorem wit_ReportsAreUsedByTheState :
    let lag (p : Nat) (g : Gate) : Gate := (run (.reportReceived (report p 0)) (withGate 0 g)).gate 0
    let frozen (p : Nat) : State := run (.reportReceived (report p 0)) (inMode .frozen)
    let unseen (m : Mode) (p : Nat) (b : Byte) : Gate := (run (.reportReceived (report p b)) (withGate 0 {} (inMode m))).gate 0
    govern.tables.reportGates (report 400 0).source.toNat = [0] ∧ (readReport (report 400 0)).fault = false ∧ (govern.cfg 0).kind = .wicket ∧
    ((run (.reportReceived (report 394 1)) (movingTo 400 400)).gate 0).state = .moving ∧
    ((run (.reportReceived (report 395 1)) (movingTo 400 400)).gate 0).state = .free ∧
    ((run (.reportReceived (report 395 1)) (movingTo 400 401)).gate 0).moveSetpoint = some 401 ∧
    (lag 501 (lockedAt 400)).lagStart = some 1000 ∧ (lag 501 { lockedAt 400 with lagStart := some 990 }).lagStart = some 990 ∧
    (lag 500 { lockedAt 400 with lagStart := some 990, positionAtLock := some 500 }).lagStart = none ∧
    ¬(run (.reportReceived (report 450 0)) (inMode .frozen)).active (.gateRunaway 0) = true ∧ (frozen 451).Raised (.gateRunaway 0) ∧
    (unseen .govern 400 0).state = .locked ∧ (unseen .frozen 40 0).state = .locked ∧ (unseen .frozen 40 0).pending = true ∧
    (run (.reportReceived (report 40 0)) (withGroup { slots := 2 } (withGate 0 {}))).gate 0 =
      { lockedAt 50 with
        state := .waitGrant, position := some 40, positionAtLock := some 40, pending := true, lastReport := some 1000, lastUnlock := none
        standing := { opening := some 50, lockAfter := true, origin := .position }, lockAfter := true, reportSinceGrant := true } ∧ (unseen .fallback 400 1).state = .recovering := by
  decide +kernel

theorem wit_ReportsSeatAGate :
    busFrameValid .F (report 400 1) = true ∧ (inMode .config).tables.reportGates (report 400 1).source.toNat = [0] ∧
    (readReport (report 400 1)).fault = false ∧ (readReport (report 400 1)).released = true ∧
    (readReport (report 400 0)).released = false ∧ (configWith {}).mdc.mode.supervised = false ∧
    ((configWith {}).gate 0).state = .unseen ∧ ((configWith (lockedAt 300)).gate 0).state = .locked := by decide +kernel

theorem wit_RunawayFreezesTheStation :
    busFrameValid .F (report 451 0) = true ∧ govern.tables.reportGates (report 451 0).source.toNat = [0] ∧
    (readReport (report 451 0)).fault = false ∧ govern.mdc.mode.governing = true ∧ (govern.gate 0).state = .locked ∧
    (govern.gate 0).positionAtLock = some 400 ∧ (govern.cfg 0).runawayTolerance < gap (min (readReport (report 451 0)).position 1000) 400 ∧
    (run (.reportReceived (report 451 0)) govern).mdc.mode = .frozen := by decide +kernel

theorem wit_FaultsIssueLock :
    let a := withGate 0 (dueIn .unlocking .released)
    let b := withGate 0 { dueIn .moving .released with moveWatch := some 1000 }
    let c := withGate 0 { lockedAt 400 with lastReport := some 100 }
    let f := bus 0 10 kindReport (beBytes 2 400 ++ [0, 0, 1])
    (a.gate 0).state = .unlocking ∧ (a.gate 0).stateTimer = some 1000 ∧ 1000 ≤ a.now ∧ (a.gate 0).reportSinceGrant = false ∧
    (b.gate 0).state = .moving ∧ (b.gate 0).moveWatch = some 1000 ∧ (c.gate 0).state = .locked ∧
    c.tables.station = .valid station ∧ (c.gate 0).lastReport = some 100 ∧
    max 100 (c.stationValidSince.getD 0) + station.reportTimeout ≤ c.now ∧
    busFrameValid .F f = true ∧ govern.tables.reportGates f.source.toNat = [0] ∧ (readReport f).fault = true ∧
    (govern.gate 0).state ≠ .faulted ∧ ((run (.reportReceived f) govern).gate 0).state = .faulted ∧
    (a.gate 0).state.holdsSlot = true ∧ (a.group 0).queue = [] := by decide +kernel

/-- Gate 0 waiting for a grant at tick 1000, its grant in flight with one slot in use, or its entry in the queue. -/
def waiting (crossing : Bool) (g : Gate := lockedAt 400) : State :=
  let s := withGate 0 { g with state := .waitGrant, target := some 500, pending := true }
  { s with yard := { s.yard with
      groups := s.yard.groups.set 0
        { slots := if crossing then 1 else 0, lastGrant := some 990, spacingTimer := some 1030
          queue := if crossing then [] else [{ gate := 0, priority := .normal }] }
      inFlight := if crossing then [0] else [] } }

/-- R34, R39: a fault that crosses a grant hands the slot back and sends no UNLOCK; the spacing stays. A fault of a gate still in the queue
takes its entry out. -/
theorem test_fault_crosses_grant :
    let f := bus 0 10 kindReport (beBytes 2 400 ++ [0, 0, 1])
    let t := run (.reportReceived f) (waiting true)
    let u := run (.reportReceived f) (waiting false)
    (t.gate 0).state = .faulted ∧ t.group 0 = { slots := 0, lastGrant := some 990, spacingTimer := some 1030 } ∧
    t.yard.inFlight = [] ∧ t.yard.portF.sending = some (.drive (govern.command 0 .lock 0)) ∧ t.yard.portF.drive = [] ∧
    (u.gate 0).state = .faulted ∧ (u.group 0).queue = [] ∧ (u.group 0).slots = 0 := by decide +kernel

/-- R12, R34, R39: a round that withdraws the motion of a gate whose grant is in flight leaves it LOCKED with the slot handed back. -/
theorem test_withdrawal_crosses_grant :
    let g : Gate := { lockedAt 400 with commanded := some 500, standing := { opening := some 400 } }
    let t := run .governingRound (waiting true g)
    (t.gate 0).state = .locked ∧ (t.gate 0).commanded = some 400 ∧ t.yard.inFlight = [] ∧ (t.group 0).slots = 0 ∧
    (t.group 0).lastGrant = some 990 ∧ t.yard.portF.sending = none := by decide +kernel

/-- R37: a release taken at the tick of the spacing expiry, before that expiry, grants nothing; the spacing has not passed for it. -/
theorem test_release_before_spacing_expiry :
    let s := withGroup { slots := 2, lastGrant := some 960, spacingTimer := some 1000, queue := [⟨0, .normal⟩] }
      (withGate 1 (dueIn .locking .engaged) (waiting false))
    let t := run (.lockingExpiry 1) s
    (t.group 0).slots = 1 ∧ (t.group 0).queue = [{ gate := 0, priority := .normal }] ∧ (t.gate 0).state = .waitGrant ∧
    (t.group 0).spacingTimer = some 1000 := by decide +kernel

theorem wit_FaultsWithoutLock :
    let a := withGate 0 { stateTimer := some 1000 }
    let b := withGate 0 (dueIn .recovering .released)
    let c := withGate 0 (dueIn .locking .released)
    (a.gate 0).state = .unseen ∧ (a.gate 0).stateTimer = some 1000 ∧ (b.gate 0).state = .recovering ∧
    (b.gate 0).brake ≠ some .engaged ∧ (c.gate 0).state = .locking ∧ (c.gate 0).stateTimer = some 1000 ∧ 1000 ≤ c.now := by decide +kernel

theorem wit_EngagedBrakesEndLocked :
    let b := withGate 0 (dueIn .recovering .engaged)
    let c := withGate 0 { dueIn .locking .engaged with target := some 405 }
    (b.gate 0).stateTimer = some 1000 ∧ (b.gate 0).brake = some .engaged ∧ (b.gate 0).position = some 400 ∧
    (b.group (b.cfg 0).group).queue = [] ∧ (b.gate 0).state = .recovering ∧ gap ((b.cfg 0).clamp 400) 400 ≤ (b.cfg 0).band ∧
    (c.gate 0).state = .locking ∧ (c.gate 0).target = some 405 ∧ gap 405 400 ≤ (c.cfg 0).band := by decide +kernel

/-- Gate 0 at the end of its tCY wait with motion pending. -/
def cycleDue : State :=
  withGate 0 { lockedAt 400 with target := some 500, pending := true, stateTimer := some 1000, lastUnlock := some 400 }

theorem wit_CycleWaitsEndInTheQueue :
    let full := withGroup { slots := 2, lastGrant := some 990 } cycleDue
    let spaced := withGroup { slots := 1, lastGrant := some 960 } cycleDue
    (cycleDue.gate 0).state = .locked ∧ (cycleDue.gate 0).stateTimer = some 1000 ∧ (cycleDue.gate 0).pending = true ∧
    cycleDue.mdc.mode.governing = true ∧ (cycleDue.gate 0).lastUnlock = some 400 ∧ 400 + (cycleDue.cfg 0).tCY ≤ cycleDue.now ∧
    (cycleDue.group 0).queue = [] ∧ cycleDue.tables.groups.isValid = true ∧
    (cycleDue.group 0).slots < (cycleDue.tables.groupCfg 0).capacity ∧ (cycleDue.group 0).lastGrant = none ∧
    (spaced.group 0).slots < (spaced.tables.groupCfg 0).capacity ∧ (spaced.group 0).spacingTimer = none ∧
    (spaced.tables.groupCfg 0).spacing ≤ spaced.now - 960 ∧
    (full.group 0).slots = (full.tables.groupCfg 0).capacity ∧ (full.group 0).queue = [] ∧
    ((run (.tcyWaitExpiry 0) full).gate 0).state = .waitGrant := by decide +kernel

/-- A gate at its UNLOCKING expiry, RELEASED reported, with a target. -/
def unlockDue (q : Nat) (i : Fin 16 := 0) : State :=
  withGate i { dueIn .unlocking .released with reportSinceGrant := true, target := some q }

theorem wit_UnlockingEndsFreeOrMoving :
    ((unlockDue 405).gate 0).state = .unlocking ∧ ((unlockDue 405).gate 0).stateTimer = some 1000 ∧
    ((unlockDue 405).gate 0).reportSinceGrant = true ∧ ((unlockDue 405).gate 0).brake = some .released ∧
    ((unlockDue 405).gate 0).position = some 400 ∧ ((unlockDue 405).group ((unlockDue 405).cfg 0).group).queue = [] ∧
    gap 405 400 ≤ ((unlockDue 405).cfg 0).band ∧ ((unlockDue 406).cfg 0).band < gap 406 400 ∧
    ((unlockDue 406).cfg 0).kind = .wicket ∧ ((run (.unlockingExpiry 0) (unlockDue 405)).gate 0).stateTimer = some 1050 ∧
    (unlockDue 405).mdc.mode.governing = true ∧ ((unlockDue 405 5).cfg 5).kind = .spill ∧
    ((unlockDue 405 5).cfg 5).band < gap 405 400 ∧ gap 404 400 ≤ ((unlockDue 404 5).cfg 5).band ∧
    ((unlockDue 405 5).group ((unlockDue 405 5).cfg 5).group).queue = [] ∧
    ((run (.unlockingExpiry 5) (unlockDue 405 5)).gate 5).stateTimer = some 1013 ∧
    ((run (.unlockingExpiry 0) (withGroup { slots := 2, queue := [{ gate := 1, priority := .urgent }] } (unlockDue 406))).gate 0).state = .moving := by
  decide +kernel

theorem wit_SingleGateExpiriesTakeEffect :
    let a := withGate 0 (dueIn .free .released)
    let b := withGate 5 (dueIn .moving .released)
    let c := withGate 0 { lockedAt 400 with lagStart := some 960 }
    let d := withGate 0 { lockedAt 400 with slot := some { opening := 500, holdEnd := 1000, visible := false, lockAfter := true, tag := 9 } }
    (a.gate 0).state = .free ∧ (a.gate 0).stateTimer = some 1000 ∧ (b.gate 5).state = .moving ∧ (b.gate 5).stateTimer = some 1000 ∧
    c.mdc.mode.supervised = true ∧ (c.gate 0).lagReported = false ∧ (c.gate 0).lagStart = some 960 ∧ 960 + (c.cfg 0).lagTime ≤ c.now ∧
    (d.gate 0).slot = some { opening := 500, holdEnd := 1000, visible := false, lockAfter := true, tag := 9 } ∧ 1000 ≤ d.now := by
  decide +kernel

/-- Gate 5 at the end of a reversal dwell, reported at 400. -/
def dwellDue (m q trim : Nat) (running pending : Bool) : State :=
  withGate 5 { dueIn .reversing .released with
    moveSetpoint := some m, target := some q, trimCount := trim, running := some running, pending := pending, moveWatch := some 3000 }

/-- That gate in FROZEN, with its trims used up and its frozen target at `q`. -/
def dwellFrozen (q : Nat) : State :=
  { dwellDue q q 2 false false with mdc := { (dwellDue q q 2 false false).mdc with mode := .frozen } }

theorem wit_DwellsEndByTheFirstCase :
    ((dwellDue 404 404 0 false false).gate 5).state = .reversing ∧ ((dwellDue 404 404 0 false false).gate 5).stateTimer = some 1000 ∧
    ((dwellDue 404 404 0 false false).gate 5).position = some 400 ∧ ((dwellDue 404 404 0 true false).gate 5).running = some true ∧
    ((dwellDue 404 405 0 false true).gate 5).pending = true ∧ ((dwellDue 404 405 0 false true).cfg 5).band < gap 405 400 ∧
    ((dwellDue 405 405 1 false false).cfg 5).band < gap 405 400 ∧ ((dwellDue 405 405 1 false false).gate 5).trimCount < 2 ∧
    gap 404 400 ≤ ((dwellDue 404 404 0 false false).cfg 5).band ∧ ((dwellDue 404 404 0 false false).group 1).queue = [] ∧
    ((run (.reversalDwellExpiry 5) (dwellDue 404 404 0 false false)).gate 5).state = .free ∧
    ((run (.reversalDwellExpiry 5) (dwellDue 450 404 0 false true)).gate 5).state = .free ∧
    ¬((dwellDue 450 450 2 false false).gate 5).trimCount < 2 ∧ (dwellDue 450 450 2 false false).mdc.mode.governing = true ∧
    ((run (.reversalDwellExpiry 5) (dwellDue 450 450 2 false false)).gate 5).trimCount = 0 ∧
    ((run (.reversalDwellExpiry 5) (dwellDue 450 404 2 false false)).gate 5).state = .free ∧
    (dwellFrozen 450).mdc.mode = .frozen ∧ ((dwellFrozen 450).cfg 5).kind = .spill ∧ ((dwellFrozen 450).group 1).queue = [] ∧
    ((dwellFrozen 450).cfg 5).band < gap 450 400 := by decide +kernel

/-- R29: in FROZEN a spill gate that coasts beyond the band of its frozen target ends its move, with no frame to its drive, and waits to lock. -/
theorem test_frozen_spill_rests :
    let t := run (.reversalDwellExpiry 5) (dwellFrozen 450)
    (t.gate 5).state = .free ∧ (t.gate 5).pending = false ∧ (t.gate 5).lastMoveEnd = some 1000 ∧ (t.gate 5).stateTimer.isSome = true ∧
    t.yard.portF = {} := by decide +kernel

theorem wit_SpacingExpiriesGrantTheHead :
    let s := withGroup { slots := 1, lastGrant := some 960, spacingTimer := some 1000, queue := [{ gate := 0, priority := .normal }] }
      (withGate 0 { lockedAt 400 with state := .waitGrant, target := some 500, pending := true })
    (s.group 0).spacingTimer = some 1000 ∧ 1000 ≤ s.now ∧ (s.gate 0).state = .waitGrant ∧ s.tables.groups.isValid = true ∧
    (s.group 0).slots < (s.tables.groupCfg 0).capacity ∧ 0 < (s.tables.groupCfg 0).spacing ∧
    (s.tables.groupCfg 0).spacing ≤ s.now - 960 ∧ (s.group 0).lastGrant = some 960 ∧
    ((withGroup { spacingTimer := some 1000 } s).group 0).queue = [] := by decide +kernel

theorem wit_GrantChecksKeepTheCapacity :
    let y := (waiting false).yard
    let z := (waiting true).yard
    let urgent : Gate := { lockedAt 400 with state := .waitGrant, priority := .urgent }
    let w := (withGroup { slots := 2, queue := [{ gate := 0, priority := .urgent }] }
      (withGate 0 urgent (withGate 1 { lockedAt 400 with state := .free }))).yard
    let e := govern.yardEnv
    (y.group 0).slots ≤ (e.tables.groupCfg 0).capacity ∧ (1 : Fin 4) ≠ 0 ∧ (y.group 0).lastGrant = some 990 ∧
    (y.group 0).spacingTimer = some 1030 ∧ (Yard.grantCheck e 0 w).gate 1 ≠ w.gate 1 ∧
    (0 : Fin 16) ∉ y.inFlight ∧ (y.group 0).queue = [] ++ ⟨0, .normal⟩ :: [] ∧ (0 : Fin 16) ∈ z.inFlight ∧ (z.group 0).queue = [] ∧
    (z.gate 0).state = .waitGrant ∧ ((z.setGate 0 (lockedAt 400)).gate 0).state ≠ .waitGrant ∧
    ((Yard.deliverGrant e 0 z).gate 0).state = .unlocking ∧
    ((Yard.deliverGrant e 0 (z.setGate 0 (lockedAt 400))).group 0).slots = 0 := by decide +kernel

/-- An ORDER frame to the drive of gate 0. -/
def order : BusFrame := bus 10 0 kindOrder (beBytes 2 950 ++ beBytes 2 0 ++ [1, 17])

theorem wit_OrdersAreAnswered :
    busFrameValid .L order = true ∧ order.kind = kindOrder ∧ govern.tables.governedGate order.destination.toNat = some 0 ∧
    govern.ownFull = false ∧ govern.mdc.mode = .govern ∧ (govern.gate 0).state = .locked ∧ ((withGate 0 {}).gate 0).state = .unseen ∧
    (inMode .frozen).mdc.mode = .frozen ∧ (inMode .fallback).mdc.controlPresent = false ∧ (fullOwn govern).ownFull = true ∧
    (fullOwn (inMode .fallback)).mdc.mode = .fallback ∧ govern.tables.governedGate (bus 12 0 kindOrder [0, 0, 0, 0, 0, 0]).destination.toNat = none ∧
    busFrameValid .L (bus 12 0 kindOrder [0, 0, 0, 0, 0, 0]) = true := by decide +kernel

theorem wit_KeepalivesAreHeard :
    busFrameValid .L (bus 254 0 kindKeepalive []) = true ∧ busFrameValid .L (bus 253 0 kindKeepalive []) = true ∧
    (bus 253 0 kindKeepalive []).destination ≠ 254 ∧ govern.mdc.mode = .govern ∧ (inMode .fallback).mdc.mode = .fallback ∧
    (inMode .fallback).mdc.controlPresent = false ∧ (inMode .config).mdc.mode = .config := by decide +kernel

theorem wit_DriveFramesAreBlocked :
    busFrameValid .F (bus 10 0 kindDrive []) = true ∧ ({ govern with tables := {} } : State).tables.gates.isValid = false ∧
    busFrameValid .L (bus 10 0 kindDrive [1, 0, 0]) = true ∧ (inMode .config).mdc.mode.supervised = false ∧
    govern.tables.governedGate 10 = some 0 ∧ (bus 10 0 kindDrive [1, 0, 0]).destination ≠ 255 ∧
    busFrameValid .L (bus 255 0 kindDrive []) = true ∧ govern.tables.gates.isValid = true ∧ 0 ∈ govern.tables.inServiceGates ∧
    govern.tables.governedGate 12 = none ∧ busFrameValid .L (bus 12 0 kindDrive []) = true := by decide +kernel

theorem wit_FramesAreForwarded :
    let f := bus 0 10 kindAnswer [1]
    let busy := fullOwn govern
    let full (n : Nat) : State := { govern with
      desk := { govern.desk with portL := { general := List.replicate n f, sending := some (.general f) } }
      yard := { govern.yard with portF := { general := List.replicate n f, sending := some (.general f) } } }
    let alien := bus 0 99 kindSample [1, 0, 0, 0, 0, 0]
    busFrameValid .F f = true ∧ busFrameValid .L f = true ∧ f.kind ≠ kindSample ∧ f.destination ≠ 254 ∧
    busy.desk.portL.general.length < 8 ∧ busy.desk.portL.sending.isSome = true ∧ govern.desk.portL.sending = none ∧
    (full 8).desk.portL.general.length = 8 ∧ (full 7).yard.portF.general.length < 8 ∧ (full 7).yard.portF.sending.isSome = true ∧
    govern.yard.portF.drive = [] ∧ (full 8).yard.portF.general.length = 8 ∧ (full 8).desk.portL.sending.isSome = true ∧
    busFrameValid .F (sample 400100 2) = true ∧ busFrameValid .F (report 451 0) = true ∧
    busFrameValid .F alien = true ∧ govern.tables.sampleChannel (readSample alien) = none ∧ govern.tables.reportGates 99 = [] := by
  decide +kernel

theorem wit_ReceiveErrorsAreCounted :
    readBusWire [1, 2, 3] = none ∧ readReachWire [1, 2, 3] = none ∧ govern.portPresent .U = true ∧
    ({ govern with tables := {} } : State).portPresent .U = false ∧ govern.tables.station = .valid station ∧
    min (govern.busErrors .L + 1) 65535 < station.portErrorThreshold ∧
    station.portErrorThreshold ≤ min ((govern.setBusErrors .L 2).busErrors .L + 1) 65535 := by decide +kernel

theorem wit_RequestsAreJudgedInOrder :
    (fullOwn govern).ownFull = true ∧ State.reset.ownFull = false ∧ State.reset.mdc.mode = .starting ∧
    Request.save ≠ .readStatus ∧ busFrameValid .L (bus 254 0 kindManage [77, 1]) = true ∧ parseRequest [77, 1] = none := by decide +kernel

theorem wit_TransmitCompletionsTakeTheNextFrame :
    let s := fullOwn govern
    let f : State := { s with yard := { s.yard with portF := { sending := some (.general order) } } }
    f.yard.portF.sending.isSome = true ∧ s.desk.portL.sending.isSome = true ∧ s.restartDue = false ∧ s.desk.portL.own ≠ [] ∧
    ({ s.desk.portL with own := [] } : PortL).own = [] := by decide +kernel

theorem wit_NoticesAreHandedOver :
    (fullOwn govern).desk.portL.sending.isSome = true ∧
    min (({ (fullOwn govern).desk with
      notices := [{ cond := .headLow, level := 1 }], portL := { sending := some (.general order) } } : Desk).notices.length) 6 = 1 := by
  decide +kernel

theorem wit_RaisesLatchOnce :
    govern.latched .headLow = false ∧ (govern.raise .headLow).latched .headLow = true ∧ Cond.headHigh ≠ .headLow ∧
    govern.tables.level .levelLost = 3 ∧ govern.tables.stationOr.noticeMask = 1 ∧ govern.tables.level .headLow = 1 ∧
    govern.tables.level .rampHeld = 0 ∧ Cond.headLow ≠ .noticeLost ∧ govern.latched .rampHeld = false ∧
    govern.latched .noticeLost = false := by decide +kernel

theorem wit_NewEntriesStandByRank :
    let n : Desk := { (fullOwn govern).desk with notices := List.replicate 15 { cond := .headLow, level := 2 } ++ [{ cond := .rampHeld, level := 1 }] }
    let room : List NoticeEntry := List.replicate 14 { cond := .headLow, level := 2 } ++ [{ cond := .rampHeld, level := 1 }]
    let y := (withGroup { queue := [⟨1, .normal⟩, ⟨0, .normal⟩] } (withGate 0 { lockedAt 400 with state := .waitGrant, priority := .urgent })).yard
    n.notices.length = 16 ∧ 6 ≤ n.portL.ownTotal ∧ (1 : Nat) < 2 ∧
    enqueue { gate := 3, priority := .urgent } ([{ gate := 0, priority := .urgent }] ++ [{ gate := 1, priority := .normal }]) =
      [{ gate := 0, priority := .urgent }, { gate := 3, priority := .urgent }, { gate := 1, priority := .normal }] ∧
    room.length < 16 ∧ (∀ a ∈ List.replicate 14 ({ cond := .headLow, level := 2 } : NoticeEntry), 2 ≤ a.level) ∧
    (y.group 0).queue = [⟨1, .normal⟩] ++ ⟨0, .normal⟩ :: [] ∧ (y.gate 0).priority = .urgent ∧ (y.gate 1).priority = .normal := by decide +kernel

theorem wit_ReadsAnswerAndChangeNothing :
    govern.ownFull = false ∧ govern.mdc.mode ≠ .starting ∧ govern.tables.gates.isValid = true ∧ govern.tables.channels.isValid = true ∧
    15 < (16#8).toNat ∧ 7 < (8#8).toNat ∧ (119#8).toNat ≤ 119 ∧ 119 < (120#8).toNat ∧ (36#8).toNat = TableId.fill.code ∧
    govern.tables.data? .fill = some (.fill [0, 1, 5]) ∧ (3#16).toNat < (TableData.fill [0, 1, 5]).image.length ∧
    (TableData.fill [0, 1, 5]).image.length ≤ (4#16).toNat ∧ TableId.ofCode 6 = none := by decide +kernel

theorem wit_ConditionWalksMissNothing :
    let s := govern.raise .headLow
    let full := (allGates.map Cond.gateLag ++ allChannels.map Cond.channelStale).foldl State.raise govern
    s.active .headLow = true ∧ 67 ≤ Cond.headLow.number.val ∧ Cond.headLow.number.val < continuation (s.listed 67) ∧
    (s.listed 67).length < 20 ∧ (full.listed 0).length = 20 ∧
    full.listed 0 = allGates.map Cond.gateLag ++ [.channelStale 0, .channelStale 1, .channelStale 2] ++ [.channelStale 3] := by decide +kernel

theorem wit_AcknowledgementsClearTheLatch :
    govern.Routed ∧ (13#8).toNat = (Cond.portErrorsBus .L).kindCode ∧ (0#8).toNat = (Cond.portErrorsBus .L).subjectCode ∧
    (1#8).toNat = (Cond.portErrorsBus .F).subjectCode ∧ (3#8).toNat = (Cond.portErrorsReach .D).subjectCode ∧
    (16#8).toNat = Cond.noticeLost.kindCode ∧ (255#8).toNat = Cond.noticeLost.subjectCode ∧
    (∀ c ∈ allConds, ¬((17#8).toNat = c.kindCode ∧ (0#8).toNat = c.subjectCode)) ∧
    Cond.ofCodes 17 0 = none ∧ (7#8).toNat = Cond.headLow.kindCode ∧ (255#8).toNat = Cond.headLow.subjectCode := by decide +kernel

theorem wit_LoadsOpenByTheFirstCase :
    govern.Routed ∧ (inMode .config).Routed ∧ (inMode .config).load = none ∧ (inMode .config).saving = none ∧
    (2#8).toNat = TableId.gates.code ∧ TableId.gates.structural = true ∧ allowedLength .gates 576 = true ∧ allowedLength .gates 575 = false ∧
    (36#8).toNat = TableId.fill.code ∧ TableId.fill.structural = false ∧ allowedLength .fill 2 = true ∧ TableId.ofCode 6 = none := by
  decide +kernel

theorem wit_GatesLoadsResetTheGates :
    let s := configWith (lockedAt 300)
    let u := configWith { stateTimer := some 1100 }
    s.Routed ∧ s.saving = none ∧ s.load = none ∧ s.mdc.mode = .config ∧ (s.gate 0).state = .locked ∧ (u.gate 0).state = .unseen ∧
    s.lvu.tailSource = .default ∧ (run (.loadBegin 1 44) s).lvu.tailwater = 0 ∧ (run (.loadBegin 1 44) s).lvu.head = 200000 ∧
    ((run (.loadBegin 1 44) u).gate 0).stateTimer = none ∧
    (run (.loadBegin 3 16) s).tables.groups = .loading ∧ (run (.loadBegin 4 104) s).lvu.headwater = none ∧
    s.tables.accept.active.isValid = true ∧ s.portPresent .U = true ∧ s.csu.lastSent ≠ some 0 ∧ s.portU.sending = none ∧
    s.portU.pendingRelease = none := by decide +kernel

/-- R53: a load of CHANNELS makes the headwater invalid, so an ACCEPT of 0 goes upstream, in place of one that was pending. -/
theorem test_channels_load_sends_accept_0 :
    let s : State := { inMode .config with
      csu := { (inMode .config).csu with ownAcceptance := some 900, lastSent := some 900 }
      portU := { period := some 2000, sending := some (makeReachFrame 5 3 0 []), pendingAccept := some 900 } }
    let t := run (.loadBegin 4 104) s
    t.lvu.headwater = none ∧ t.csu.ownAcceptance = some 0 ∧ t.csu.lastSent = some 0 ∧ t.portU.pendingAccept = some 0 := by decide +kernel

/-- The small station in CONFIG with a load of the FILL table open. -/
def loading (bytes : List Byte) : State :=
  { inMode .config with load := some { table := .fill, length := 3, bytes := bytes, idle := 1000 } }

theorem wit_SegmentsAreAppended :
    State.reset.ownFull = false ∧ State.reset.mdc.mode = .starting ∧ (loading [2]).load.map (·.idle) = some 1000 ∧
    ({ loading [2] with saving := some { current := .fill, rest := [], written := 0 } } : State).Routed ∧
    (loading [2]).Routed ∧ (loading [2]).saving = none ∧ (inMode .config).load = none ∧ (0#16).toNat ≠ [2#8].length ∧
    (1#16).toNat = [2#8].length ∧ [2#8].length + [0#8, 5#8].length ≤ 3 := by decide +kernel

theorem wit_LoadsEndByTheirChecks :
    let s := loading [2, 0, 5]
    let short := loading [2]
    let bad := loading [2, 5, 5]
    let saving : State := { short with saving := some { current := .fill, rest := [], written := 0 } }
    let sent (t : State) : Option SendingL := t.desk.portL.sending
    short.Routed ∧ short.saving = none ∧ [2#8].length < 3 ∧ crc16 [2, 0, 5] ≠ 0#16 ∧
    parseTable .fill [2, 5, 0] ≠ none ∧ parseTable .fill [2, 5, 5] = none ∧ short.mdc.mode = .config ∧
    govern.mdc.mode ≠ .config ∧ saving.saving.isSome = true ∧ (inMode .config).load = none ∧
    sent (run (.loadEnd (crc16 [2, 0, 5])) s) = some (.own (bus 0 254 kindReply [10, 0])) ∧
    sent (run (.loadEnd 0) short) = some (.own (bus 0 254 kindReply [10, 6])) ∧
    (run (.loadEnd 0) s).Raised (.loadFailed .fill) ∧ (run (.loadEnd (crc16 [2, 5, 5])) bad).Raised (.loadFailed .fill) := by decide +kernel

/-- The small station in CONFIG with a whole image of a table loaded. -/
def loaded (id : TableId) (d : TableData) (s : State := inMode .config) : State :=
  { s with load := some { table := id, length := d.image.length, bytes := d.image, idle := 2000 } }

/-- The state after the LOAD_END of a whole image. -/
def taken (id : TableId) (d : TableData) : State := run (.loadEnd (crc16 d.image)) (loaded id d)

/-- The owners of the loaded tables take them. -/
theorem wit_LoadsOfStation :
    parseTable .station (TableData.image (.station station)) = some (.station station) ∧
    (taken .station (.station station)).portU.silence = some 1600 ∧ ((taken .station (.station station)).gate 2).state = .unseen := by
  decide +kernel

theorem wit_LoadsOfStationAtTheHead :
    let head : TableData := .station { station with upstream := 0 }
    parseTable .station head.image = some head ∧ (taken .station head).csu.upstream = 700 ∧ (inMode .config).lvu.tailSource = .default := by
  decide +kernel

theorem wit_LoadsOfChannels :
    let channels : TableData := .channels (tables.channels.get?.getD [])
    parseTable .channels channels.image = some channels ∧ (loaded .channels channels).load.map (·.bytes) = some channels.image := by
  decide +kernel

theorem wit_LoadsOfOperatingTables :
    (inMode .config).csu.upstreamSource = .initial ∧ (taken .reach (.reach reach)).csu.upstream = 700 ∧
    (taken .accept (.accept [{ threshold := 405000, acceptance := 3000 }])).csu.ownAcceptance = some 3000 ∧ (inMode .config).portPresent .U = true := by
  decide +kernel

theorem wit_LoadsGivenUpAreDropped :
    (loading [2]).load = some { table := .fill, length := 3, bytes := [2], idle := 1000 } ∧ (loading [2]).Routed ∧
    (loading [2]).saving = none ∧ 1000 ≤ (loading [2]).now ∧ (inMode .config).load = none ∧
    ({ loading [2] with saving := some { current := .fill, rest := [], written := 0 } } : State).saving.isSome = true ∧
    (run .loadIdleExpiry (loading [2])).Raised (.loadFailed .fill) := by decide +kernel

theorem wit_SavesWriteTableByTable :
    let s := inMode .config
    let w : State := { s with saving := some { current := .fill, rest := [], written := 9 } }
    s.Routed ∧ s.mdc.mode = .config ∧ s.mdc.restartPending = false ∧ s.saving = none ∧ s.load = none ∧
    s.tables.toSave.head? = some .station ∧ ({ s with tables := {} } : State).tables.toSave = [] ∧ govern.Routed ∧ govern.mdc.mode ≠ .config ∧
    w.saving = some { current := .fill, rest := [], written := 9 } ∧ w.tables.data? .fill = some (.fill [0, 1, 5]) ∧
    w.saving.isSome = true ∧ (loading [2]).load.isSome = true ∧
    slotCrcOk (slotBytes .fill [3, 0, 1, 5]) = true ∧ slotCrcOk [0, 0, 0, 0, 0] = false := by decide +kernel

/-- A state with a notice refresh of 0 and a last RELEASE tick. -/
def quiet (s : State) (last : Option Tick) : State :=
  { s with tables := { s.tables with station := .valid { station with noticeRefresh := 0 } }, csu := { s.csu with lastRelease := last } }

theorem wit_EnterAndResumeGovern :
    let c := inMode .config
    let flood : State := { c with lvu := { c.lvu with headwater := some 412000 } }
    State.reset.ownFull = false ∧ State.reset.mdc.mode = .starting ∧
    ({ c with mdc := { c.mdc with restartPending := true } } : State).mdc.mode = .config ∧ c.Routed ∧ c.mdc.restartPending = false ∧
    c.saving = none ∧ c.tables.entryCheck = none ∧ c.lvu.headwater = some 400000 ∧
    ({} : Tables).entryCheck = some (.table .station) ∧ govern.mdc.mode ≠ .config ∧ (inMode .frozen).Routed ∧
    (∀ i, (inMode .frozen).latched (.gateRunaway i) = false) ∧ (inMode .fallback).Routed ∧
    (run .enter c).mdc.mode = .govern ∧ c.lvu.regime = .normal ∧ c.tables.stationOr.floodEntry = 412000 ∧
    (run .enter flood).Raised .headHigh ∧ (run .enter flood).lvu.regime = .flood ∧
    0 < c.tables.stationOr.noticeRefresh ∧ (run .enter c).csu.refreshTimer = some 1000 ∧ (quiet c none).tables.stationOr.noticeRefresh = 0 ∧
    (quiet c none).portPresent .D = true ∧ (run .enter (quiet c none)).csu.lastRelease = some 1000 ∧
    (run .enter (quiet c (some 300))).csu.lastRelease = some 300 ∧
    (run .enter { c with csu := { c.csu with lastRelease := some 300 } }).csu.refreshTimer = some 3300 := by decide +kernel

theorem wit_EntryChecksNameTheFirstFailure :
    tables.entryCheck = none ∧ ({} : Tables).entryCheck = some (.table .station) ∧
    ({ tables with gates := .valid [wicketCfg 10, wicketCfg 11, wicketCfg 10] } : Tables).entryCheck = some (.sharedAddress 0 2) ∧
    ({ tables with fill := { active := .valid [0, 2] } } : Tables).entryCheck = some (.fillGate 2) := by decide +kernel

/-- R29, R34, R39, R42: a freeze leaves no gate and no entry waiting and unlocks none; a grant it makes is handed back. -/
theorem test_freeze_hands_grants_back :
    let waiting : Gate := { lockedAt 400 with state := .waitGrant, pending := true, target := some 500 }
    let s := withGate 1 waiting (withGate 0 waiting)
    let t := run .freeze { s with yard := s.yard.setGroup 0 { queue := [⟨0, .normal⟩, ⟨1, .normal⟩] } }
    (t.gate 0).state = .locked ∧ (t.gate 1).state = .locked ∧ (t.group 0).queue = [] ∧ (t.group 0).slots = 0 ∧
    (t.group 0).lastGrant = some 1000 ∧ t.yard.portF = s.yard.portF := by decide +kernel

theorem wit_FreezeStopsTheStation :
    govern.Routed ∧ (inMode .config).mdc.mode.governing = false ∧ govern.mdc.mode.governing = true ∧ govern.mdc.restartPending = false ∧
    (govern.gate 0).state ≠ .unseen ∧ (govern.gate 0).position = some 400 ∧ (run .freeze govern).mdc.mode = .frozen ∧
    ((waiting true).gate 0).state = .waitGrant ∧ (waiting true).Routed ∧ ((run .freeze (waiting true)).group 0).slots = 0 := by decide +kernel

/-- A gate of each state at a freeze, reported at 400: what R29 has it do. -/
theorem wit_FreezesByState :
    let at_ (i : Fin 16) (g : Gate) : State := run .freeze (withGate i g)
    let g (st : GateState) : Gate := { lockedAt 400 with state := st, target := some 500, commanded := some 500, moveSetpoint := some 500, pending := true }
    let m := at_ 0 (g .moving)
    let r := at_ 5 (g .moving)
    ((at_ 0 { g .locked with stateTimer := some 1200 }).gate 0).stateTimer = none ∧ ((at_ 0 (g .locked)).gate 0).pending = false ∧
    ((at_ 0 { g .locked with positionAtLock := some 300 }).gate 0).pending = true ∧ ((at_ 0 (g .waitGrant)).gate 0).state = .locked ∧
    ((at_ 0 (g .free)).gate 0).pending = false ∧ (govern.group 0).queue = [] ∧ (m.gate 0).moveSetpoint = some 400 ∧
    m.yard.portF.sending = some (.drive (govern.command 0 .move 400)) ∧ (r.gate 5).state = .reversing ∧ (r.gate 5).trimCount = 2 ∧
    r.yard.portF.sending = some (.drive (govern.command 5 .stop 0)) ∧ ((at_ 5 (g .reversing)).gate 5).trimCount = 2 ∧
    ((at_ 0 (g .unlocking)).gate 0).target = some 400 ∧ (govern.gate 2).state = .unseen := by decide +kernel

theorem wit_ConfigureReturnsToConfig :
    let moving := withGate 0 (dueIn .free .released)
    State.reset.ownFull = false ∧ State.reset.mdc.mode = .starting ∧ govern.Routed ∧ govern.mdc.mode ≠ .config ∧ govern.mdc.restartPending = false ∧ (inMode .config).mdc.mode = .config ∧
    (∀ i, (govern.cfg i).inService = true →
      (govern.gate i).state = .locked ∨ (govern.gate i).state = .faulted ∨ (govern.gate i).state = .unseen) ∧
    (moving.cfg 0).inService = true ∧ (moving.gate 0).state = .free ∧ (govern.gate 0).position = some 400 := by decide +kernel

theorem wit_ForecastsAreRestored :
    govern.Routed ∧ State.reset.ownFull = false ∧ State.reset.mdc.mode = .starting ∧ govern.portPresent .U = true ∧
    govern.portU.link = .waiting ∧
    ({ govern with portU := { link := .lost } } : State).portU.link = .lost := by decide +kernel

theorem wit_ClearGateReturnsToUnseen :
    let s := withGate 0 { lockedAt 400 with state := .faulted }
    State.reset.ownFull = false ∧ State.reset.mdc.mode = .starting ∧ s.Routed ∧ 15 < (16#8).toNat ∧ (s.gate 1).state ≠ .faulted ∧ (s.gate 0).state = .faulted ∧ (s.cfg 0).inService = true ∧
    s.tables.station = .valid station := by decide +kernel

/-- The small station in CONFIG, with the reply to a RESTART being sent, from a start source, a load open and a READY shadow held. -/
def restarting (source : StartSource) (wait : Nat) (load : Option LoadContext := none) (shadow : Shadow (List AcceptRow) := .none) : State :=
  { inMode .config with
    mdc := { mode := .config, source := source, restartPending := true }
    desk := { portL := { sending := some (.own (makeBusFrame 0 254 kindReply [19, 0])) } }
    tables := { tables with
      station := .valid { station with seenTimeout := wait }, accept := { active := .absent, shadow := shadow } }
    load := load }

theorem wit_RestartsFollowTheirReply :
    let hold := run (.transmitCompletion .L) (restarting .flashHold 200)
    let auto := run (.transmitCompletion .L) (restarting .flashAuto 200)
    let zero := run (.transmitCompletion .L) (restarting .flashAuto 0)
    let open_ : LoadContext := { table := .groups, length := 16, bytes := [], idle := 1300 }
    let cut := run (.transmitCompletion .L) (restarting .flashAuto 200 (some open_))
    let ready := run (.transmitCompletion .L) (restarting .flashHold 200 none (.ready [{ threshold := 405000, acceptance := 3000 }]))
    (inMode .config).Routed ∧ (restarting .flashAuto 200).mdc.restartPending = true ∧
    hold.mdc = { mode := .config, source := .flashHold } ∧ hold.desk = {} ∧
    auto.mdc = { source := .flashAuto, phase := some .startWait, startWait := some 1200 } ∧ (auto.gate 0).stateTimer = some 1200 ∧
    (auto.gate 2).stateTimer = none ∧ auto.portU = { silence := some 1600, period := some 1100 } ∧
    zero.mdc = { mode := .config, source := .flashAuto } ∧ zero.Raised .levelLost ∧
    cut.tables.groups = .invalid ∧ cut.mdc.startReason = some (.table .groups) ∧
    ready.tables.accept = { active := .valid [{ threshold := 405000, acceptance := 3000 }] } ∧ ready.csu.lastSent = some 0 ∧
    ready.portU.sending = some (makeReachFrame 5 2 0 (beBytes 4 0)) := by decide +kernel

theorem wit_ReachFramesAreTaken :
    let s : State := { govern with csu := { govern.csu with lastSequence := some 255, queue := [{ outflow := 1800, due := 1200 }] } }
    let full : State := { s with csu := { s.csu with queue := { outflow := 1, due := 1100 } :: (List.replicate 30 { outflow := 2, due := 1200 } ++ [{ outflow := 3, due := 50000 }]) } }
    let f := makeReachFrame 4 reachRelease 0 (beBytes 4 4000)
    let t := run (.releaseReceived f) full
    let e := run (.releaseReceived f) govern
    let z := run (.releaseReceived f) { govern with tables := { tables with reach := {} } }
    s.portPresent .U = true ∧ reachFrameValid .U (s.neighbour .U) (makeReachFrame 4 reachLinkcheck 0 []) = true ∧
    s.portPresent .D = true ∧ reachFrameValid .D (s.neighbour .D) (makeReachFrame 6 reachAccept 0 (beBytes 4 900)) = true ∧
    reachFrameValid .U (s.neighbour .U) f = true ∧
    s.csu.queue = [] ++ [{ outflow := 1800, due := 1200 }] ∧ s.csu.queue.length < 32 ∧ (0#8).toNat = (255 + 1) % 256 ∧
    full.csu.queue.length = 32 ∧ t.Raised .forecastQueueFull ∧ t.csu.upstream = 1 ∧ t.csu.queue.length = 32 ∧
    t.csu.queue.getLast? = some { outflow := 4000, due := 50000 } ∧ govern.csu.queue = [] ∧
    e.csu.queue = [{ outflow := 4000, due := 13000 }] ∧ z.csu.queue = [] ∧ z.csu.upstream = 4000 := by decide +kernel

theorem wit_ReachPortsKeepTheirTimers :
    let s : State := { govern with
      portU := { silence := some 1000, period := some 1000, sending := some (makeReachFrame 5 3 0 []), pendingRelease := some 5 }
      csu := { govern.csu with ownAcceptance := some 900 } }
    let idle : State := { s with portU := { period := some 1000 } }
    let t := run (.linkPeriodExpiry .U) idle
    let d := run (.linkPeriodExpiry .D) { govern with portD := { period := some 1000 } }
    s.portPresent .U = true ∧ s.portU.silence = some 1000 ∧ s.portU.period = some 1000 ∧ 1000 ≤ s.now ∧
    s.portU.sending.isSome = true ∧ s.tables.accept.active.isValid = true ∧ s.csu.ownAcceptance = some 900 ∧
    s.portU.pendingRelease = some 5 ∧ idle.portU.sending = none ∧ t.csu.lastSent = some 900 ∧
    t.portU = { period := some 1100, pendingLinkcheck := true, sending := some (makeReachFrame 5 2 0 (beBytes 4 900)) } ∧
    d.portD = { period := some 1100, sending := some (makeReachFrame 5 3 0 []) } := by decide +kernel

theorem wit_OwnAcceptance :
    let at_ (h : Option Nat) (r : Regime) : State := { govern with lvu := { govern.lvu with headwater := h, regime := r } }
    let rows : List AcceptRow := [{ threshold := 405000, acceptance := 3000 }, { threshold := 420000, acceptance := 900 }]
    govern.tables.accept.active = .valid ([] ++ rows) ∧ govern.csu.lastSent = none ∧ govern.portPresent .U = true ∧
    (at_ (some 405000) .normal).computeOwnAcceptance.csu.ownAcceptance = some 3000 ∧
    (at_ (some 405001) .normal).computeOwnAcceptance.csu.ownAcceptance = some 900 ∧
    (at_ (some 420001) .normal).computeOwnAcceptance.csu.ownAcceptance = some 900 ∧
    (at_ (some 405000) .flood).computeOwnAcceptance.csu.ownAcceptance = some 0 ∧
    (at_ none .normal).computeOwnAcceptance.csu.ownAcceptance = some 0 ∧
    (at_ (some 405000) .normal).computeOwnAcceptance.portU.sending = some (makeReachFrame 5 2 0 (beBytes 4 3000)) := by decide +kernel

theorem wit_CascadeTimersTakeEffect :
    let q : List ForecastEntry := [{ outflow := 1, due := 900 }, { outflow := 2, due := 1000 }, { outflow := 3, due := 1001 }]
    let s : State := { govern with csu := { govern.csu with queue := q, refreshTimer := some 1000 } }
    s.csu.queue = [{ outflow := 1, due := 900 }] ++ [{ outflow := 2, due := 1000 }] ++ [{ outflow := 3, due := 1001 }] ∧
    1000 ≤ s.now ∧ s.now < 1001 ∧ s.csu.refreshTimer = some 1000 ∧ s.mdc.mode.governing = true ∧ s.portPresent .D = true ∧
    s.portD.sending = none ∧ (run .forecastDueExpiry s).csu.upstream = 2 := by decide +kernel

/-- A round that swaps in an ACCEPT and a REACH table. -/
theorem wit_RoundsSwapCascadeTables :
    let s : State := { govern with tables := { tables with
      accept := { tables.accept with shadow := .ready [{ threshold := 300000, acceptance := 77 }] }
      reach := { tables.reach with shadow := .ready { reach with initial := 42 } } } }
    s.rgv.roundTimer = some 1000 ∧ s.csu.upstreamSource = .initial ∧ s.portPresent .U = true ∧
    (run .governingRound s).csu.ownAcceptance = some 77 ∧ (run .governingRound s).csu.lastSent = some 77 ∧
    (run .governingRound s).csu.upstream = 42 ∧ (run .governingRound govern).portU = govern.portU ∧ s.tables.swapped.accept.shadow = .none := by
  decide +kernel

theorem wit_ModeTimersChangeTheMode :
    let g : State := { govern with mdc := { govern.mdc with orderTimer := some 1000 } }
    let b : State := { inMode .fallback with mdc := { mode := .fallback, orderTimer := some 1000, controlPresent := true } }
    let w : State := { State.reset with now := 1000, boot := none, mdc := { phase := some .startWait, startWait := some 1000 } }
    g.mdc.orderTimer = some 1000 ∧ g.mdc.mode = .govern ∧ b.mdc.orderTimer = some 1000 ∧ b.mdc.mode = .fallback ∧
    w.mdc.mode = .starting ∧ w.mdc.phase = some .startWait ∧ w.mdc.startWait = some 1000 ∧ 1000 ≤ w.now ∧
    (run .startWaitExpiry w).mdc.mode = .config ∧ (run .orderTimerExpiry g).csu.refreshTimer = some 1000 ∧
    (run .orderTimerExpiry (quiet g none)).csu.lastNotified = some 0 := by decide +kernel

/-- The small station at a round whose gate 0, at some record, is to go from 400 to 500 by its standing target. -/
def roundOf (i : Fin 16) (g : Gate) (q : Nat := 500) : State :=
  withGate i { g with standing := { opening := some q, lockAfter := false, origin := .order } } { govern with
    csu := { govern.csu with received := some 1000000 }
    tables := { tables with ramp := { active := .valid { floodRise := 1000000, bands := [{ upper := 5000, rise := 1000000, fall := 1000000 }] } } } }

theorem wit_RoundsStayWithinTheLimits :
    let moving (i : Fin 16) (m : Nat) (up : Bool) : State :=
      roundOf i { lockedAt 400 with state := .moving, moveSetpoint := some m, raising := up, stateTimer := some 2000, moveWatch := some 3000 }
    let after (i : Fin 16) (s : State) : Gate := (run .governingRound s).gate i
    let in_ (st : GateState) : State := roundOf 0 { lockedAt 400 with state := st }
    govern.rgv.roundTimer = some 1000 ∧ 1000 ≤ govern.now ∧ govern.roundStart.eligible 0 = true ∧ govern.roundStart.eligible 2 = false ∧
    ((after 0 (in_ .unlocking)).commanded = some 500 ∧ (after 0 (in_ .unlocking)).target = some 500) ∧
    (after 0 (in_ .reversing)).pending = true ∧
    (after 0 (roundOf 0 { lockedAt 400 with lastUnlock := some 401 })).stateTimer = some 1001 ∧
    ((roundOf 0 { lockedAt 400 with lastUnlock := some 400 }).gate 0).lastUnlock = some 400 ∧ 400 + (govern.cfg 0).tCY ≤ 1000 ∧
    ((after 0 (roundOf 0 (lockedAt 400) 405)).target = some 405 ∧ (after 0 (roundOf 0 (lockedAt 400) 405)).pending = false) ∧
    (after 0 (in_ .free)).moveSetpoint = some 500 ∧
    (after 5 (roundOf 5 { lockedAt 400 with state := .free })).stateTimer = some 1250 ∧
    (after 0 (moving 0 500 true)).pending = false ∧ (after 0 (moving 0 450 true)).moveSetpoint = some 500 ∧
    (after 0 (moving 0 300 false)).pending = true ∧ (after 5 (moving 5 450 true)).moveSetpoint = some 500 ∧
    (after 5 (moving 5 300 false)).state = .reversing := by decide +kernel

/-- Gate 0 opens from 300 by its curve of 100 fu and gate 5, on one of 3,000 fu, closes from 300: halved steps cut the closing one most. -/
def steep (acceptance opening closing : Nat) : State :=
  let s := opposing acceptance
  let t : Tables := { s.tables with curves := ((Vector.replicate 8 TableSlot.absent).set 0 (.valid (straight 100))).set 1 (.valid (straight 3000)) }
  withGate 5 { lockedAt 300 with standing := { opening := some closing } }
    (withGate 0 { lockedAt 300 with standing := { opening := some opening } } { s with tables := t })

/-- Each end of the trial search: APPLIED, a trial from 2 to 5 that moves or moves nothing, and none that fits; and the hand-over with and
without a notice. The overshoots are those of the statement's own terms. -/
theorem wit_RoundsSearchTheirTrials :
    let t (s : State) : Rgv := (run .governingRound s).rgv
    let fits (s : State) (f : Nat) : Bool :=
      let r := s.roundStart
      withinLimits (r.limits r.plannedSum) ((r.trialSum (proposals r.plans f) : Int) - (r.plannedSum : Int))
    let second (s : State) : Nat :=
      let r := s.roundStart
      secondFraction (r.limits r.plannedSum) ((r.trialSum (proposals r.plans 65536) : Int) - (r.plannedSum : Int))
    let none_ := steep 60 400 297
    let told : State := { scaling with csu := { scaling.csu with lastNotified := some 896 } }
    (t govern).lastResult = .applied ∧ fits scaling 65536 = false ∧ fits scaling (second scaling) = true ∧ (t scaling).lastResult = .scaled ∧
    fits (opposing 30) (second (opposing 30)) = false ∧ fits (opposing 30) (second (opposing 30) / 2) = true ∧
    fits (steep 60 560 295) (second (steep 60 560 295) / 2) = false ∧ fits (steep 60 560 295) (second (steep 60 560 295) / 4) = true ∧
    fits (steep 40 400 297) (second (steep 40 400 297) / 4) = false ∧ fits (steep 40 400 297) (second (steep 40 400 297) / 8) = true ∧
    fits none_ 65536 = false ∧ fits none_ (second none_) = false ∧ fits none_ (second none_ / 2) = false ∧
    fits none_ (second none_ / 4) = false ∧ fits none_ (second none_ / 8) = false ∧ (t none_).lastResult = .held ∧ (t none_).planned = 9300 ∧
    (t (opposing 0)).lastResult = .held ∧ scaling.csu.lastNotified = none ∧ (run .governingRound scaling).csu.lastNotified = some 896 ∧
    (run .governingRound told).portD = told.portD ∧ scaling.portPresent .D = true := by decide +kernel

theorem wit_RoundsFormTheirTargets :
    let flood (h : Nat) : State := { govern with lvu := { govern.lvu with regime := .flood, headwater := some h } }
    govern.tables.flood.active = .valid (floodRows.take 1 ++ floodRows.drop 1) ∧
    (flood 408999).floor = 0 ∧ (flood 409000).floor = 150 ∧ (flood 411999).floor = 150 ∧ (flood 412000).floor = 300 ∧
    (flood 415000).floor = 500 ∧ filling.tables.fill.active = .valid [0, 1, 5] ∧ [(0 : Fin 16), 1, 5].Nodup ∧
    [(0 : Fin 16), 1, 5].filter filling.eligible = [0] ++ 1 :: [5] ∧ filling.csu.forecast = .tracking := by decide +kernel

theorem wit_LimitsAreConvertedPerRound :
    let noAccept : State := { govern with csu := { govern.csu with received := none } }
    let alone : State := { noAccept with tables := { tables with station := .valid { station with downstream := 0 } } }
    let flood : State := { govern with lvu := { govern.lvu with regime := .flood } }
    11 * 50 / 600 = 0 ∧ 1200 * 50 / 600 ≠ 0 ∧ govern.tables.ramp.active = .valid ramp ∧ ramp.bands = ramp.bands.take 1 ++ { upper := 8000, rise := 2400, fall := 3000 } :: [] ∧
    (∀ x ∈ ramp.bands.take 1, x.upper < 5001) ∧ ¬(∀ x ∈ ramp.bands.take 1, x.upper < 5000) ∧ govern.portPresent .D = true ∧
    govern.csu.received = some 1200 ∧ noAccept.tables.stationOr.defaultAcceptance = 1200 ∧ alone.portPresent .D = false ∧
    govern.limitsPerMinute 5000 = (1200, 4800) ∧ govern.limitsPerMinute 9000 = (1200, 3000) ∧ alone.limitsPerMinute 5001 = (2400, 3000) ∧
    flood.limitsPerMinute 1 = (12000, 4800) := by decide +kernel

theorem wit_FlowRisesWithOpeningAndHead : curveOk curve5 = true ∧ 250 ≤ 1000 ∧ 10000 ≤ 20000 := by decide +kernel

theorem wit_OpeningsForFlowsAreSmallest :
    (tables.gateCfg 0).minOpening ≤ (tables.gateCfg 0).maxOpening ∧ tables.curves[(0 : Fin 8)] = .valid (straight 200) ∧
    curveOk (straight 200) = true ∧ (tables.gateCfg 0).maxOpening ≤ 1000 ∧ tables.gateFlow 0 950 0 = some 1900 ∧
    tables.gateFlow 0 50 0 = some 100 := by decide +kernel

/-- The small station in GOVERN with a record latched, a notice and a forecast waiting, and a command in front. -/
def busy : State :=
  { govern with
    desk := ((fullOwn govern).raise .headLow).desk
    csu := { govern.csu with queue := [{ outflow := 1, due := 1200 }, { outflow := 2, due := 1200 }] }
    pending := [.readPorts] }

theorem wit_StepOfTheInvariants : step busy = .next (run .readPorts { busy with pending := [] }) := rfl
theorem wit_QueuesStayBounded : busy.QueuesOk := by unfold State.QueuesOk; decide +kernel
theorem wit_NoticesStayInOrder : busy.NoticesOk ∧ busy.desk.notices ≠ [] := by unfold State.NoticesOk; decide +kernel
theorem wit_ForecastsStayInOrder : busy.ForecastOk ∧ busy.csu.queue ≠ [] := by unfold State.ForecastOk; decide +kernel
theorem wit_TimersFollowTheMode : busy.ModeOk := by unfold State.ModeOk; decide +kernel

end Sys2Proof.Tests
end

section
/-! Gate flow and the opening for a flow (chapter 4). One rounded step carries both interpolations of R58 and R59; that it is exact at
its ends and never falls gives R60 along the opening and along the head, and R62 follows from the search and R60. -/

namespace Sys2Proof.Machine

/-! ## The content check of a curve (R56) -/

theorem nonDecreasing_iff_isChain (l : List Nat) : nonDecreasing l = true ↔ l.IsChain (· ≤ ·) := by
  fun_induction nonDecreasing l with
  | case1 => simp
  | case2 a => simp
  | case3 a b r ih => simp [ih]

theorem strictlyAscending_iff_isChain (l : List Nat) : strictlyAscending l = true ↔ l.IsChain (· < ·) := by
  fun_induction strictlyAscending l with
  | case1 => simp
  | case2 a => simp
  | case3 a b r ih => simp [ih]

theorem rowsRise_iff_isChain (rows : List (List Nat)) :
    rowsRise rows = true ↔ rows.IsChain (fun a b => ∀ p ∈ a.zip b, p.1 ≤ p.2) := by
  fun_induction rowsRise rows with
  | case1 => simp
  | case2 a => simp
  | case3 a b r ih =>
    rw [Bool.and_eq_true, ih, List.isChain_cons_cons, List.all_eq_true]
    simp only [decide_eq_true_eq]

/-- What the content check gives the rating arithmetic. -/
structure Curve.Sound (c : Curve) : Prop where
  shift_le : c.shift ≤ 7
  heads_ascend : c.heads.IsChain (· < ·)
  rows_length : c.rows.length = 11
  row_length : ∀ row ∈ c.rows, row.length = c.heads.length
  entries_le : ∀ row ∈ c.rows, ∀ e ∈ row, e ≤ 65535
  rows_rise : c.rows.IsChain (fun a b => ∀ p ∈ a.zip b, p.1 ≤ p.2)
  row_rises : ∀ row ∈ c.rows, row.IsChain (· ≤ ·)

theorem Curve.sound_of_curveOk {c : Curve} (h : curveOk c = true) : c.Sound := by
  simp only [curveOk, Bool.and_eq_true, decide_eq_true_eq, List.all_eq_true, strictlyAscending_iff_isChain,
    rowsRise_iff_isChain, nonDecreasing_iff_isChain] at h
  obtain ⟨⟨⟨⟨⟨⟨_, hheads⟩, hshift⟩, hrise⟩, hrow⟩, hrows⟩, hentries⟩ := h
  exact ⟨hshift, hheads, hrows, fun row hr => (hentries row hr).1, fun row hr => (hentries row hr).2, hrise, hrow⟩

/-! ## Entries of the grid (R55, R56) -/

theorem Curve.entry_eq_getElem {c : Curve} {i j : Nat} (hi : i < c.rows.length) (hj : j < c.rows[i].length) :
    c.entry i j = c.rows[i][j] := by
  simp [Curve.entry, hi, hj]

theorem Curve.Sound.entry_le {c : Curve} (hc : c.Sound) {i j : Nat} (hi : i < 11) (hj : j < c.heads.length) :
    c.entry i j ≤ 65535 := by
  have hi' : i < c.rows.length := hc.rows_length ▸ hi
  have hrow := List.getElem_mem hi'
  have hj' : j < c.rows[i].length := hc.row_length _ hrow ▸ hj
  rw [Curve.entry_eq_getElem hi' hj']
  exact hc.entries_le _ hrow _ (List.getElem_mem hj')

theorem Curve.Sound.entry_le_next_column {c : Curve} (hc : c.Sound) {i j : Nat} (hi : i < 11) (hj : j + 1 < c.heads.length) :
    c.entry i j ≤ c.entry i (j + 1) := by
  have hi' : i < c.rows.length := hc.rows_length ▸ hi
  have hrow := List.getElem_mem hi'
  have hj' : j + 1 < c.rows[i].length := hc.row_length _ hrow ▸ hj
  rw [Curve.entry_eq_getElem hi' (Nat.lt_of_succ_lt hj'), Curve.entry_eq_getElem hi' hj']
  exact List.isChain_iff_getElem.1 (hc.row_rises _ hrow) j hj'

theorem Curve.Sound.entry_le_next_row {c : Curve} (hc : c.Sound) {i j : Nat} (hi : i + 1 < 11) (hj : j < c.heads.length) :
    c.entry i j ≤ c.entry (i + 1) j := by
  have hi' : i + 1 < c.rows.length := hc.rows_length ▸ hi
  have h0 : j < c.rows[i].length := hc.row_length _ (List.getElem_mem (Nat.lt_of_succ_lt hi')) ▸ hj
  have h1 : j < c.rows[i + 1].length := hc.row_length _ (List.getElem_mem hi') ▸ hj
  have hz : j < (c.rows[i].zip c.rows[i + 1]).length := by rw [List.length_zip]; omega
  have hp := List.isChain_iff_getElem.1 hc.rows_rise i hi' _ (List.getElem_mem hz)
  rw [Curve.entry_eq_getElem (Nat.lt_of_succ_lt hi') h0, Curve.entry_eq_getElem hi' h1]
  simpa only [List.getElem_zip] using hp

theorem Curve.Sound.entry_le_of_row_le {c : Curve} (hc : c.Sound) {i i' j : Nat} (hii : i ≤ i') (hi : i' < 11)
    (hj : j < c.heads.length) : c.entry i j ≤ c.entry i' j := by
  induction i', hii using Nat.le_induction with
  | base => exact le_rfl
  | succ k _ ih => exact (ih (by omega)).trans (hc.entry_le_next_row hi hj)

/-! ## The rounded step of an interpolation (R58, R59) -/

/-- The rounding of R59 leaves a whole number of divisors as it is. -/
theorem div_rounded_multiple {d : Nat} (hd : 0 < d) (v : Nat) : (v * d + d / 2) / d = v := by
  rw [Nat.add_comm, Nat.add_mul_div_right _ _ hd, Nat.div_eq_of_lt (by omega), Nat.zero_add]

theorem headStep_at_lower {h0 h1 : Nat} (hh : h0 < h1) (v0 v1 : Nat) : headStep v0 v1 h0 h1 h0 = v0 := by
  simp only [headStep, Nat.sub_self, Nat.mul_zero, Nat.add_zero]
  exact div_rounded_multiple (Nat.sub_pos_of_lt hh) v0

theorem headStep_at_upper {v0 v1 h0 h1 : Nat} (hh : h0 < h1) (hv : v0 ≤ v1) : headStep v0 v1 h0 h1 h1 = v1 := by
  simp only [headStep, ← Nat.add_mul, Nat.add_sub_cancel' hv]
  exact div_rounded_multiple (Nat.sub_pos_of_lt hh) v1

theorem headStep_le_of_head_le (v0 v1 h0 h1 : Nat) {head head' : Nat} (h : head ≤ head') :
    headStep v0 v1 h0 h1 head ≤ headStep v0 v1 h0 h1 head' := by
  dsimp only [headStep]
  gcongr

theorem le_headStep {h0 h1 head : Nat} (hh : h0 < h1) (h : h0 ≤ head) (v0 v1 : Nat) : v0 ≤ headStep v0 v1 h0 h1 head :=
  (headStep_at_lower hh v0 v1).ge.trans (headStep_le_of_head_le v0 v1 h0 h1 h)

theorem headStep_le {v0 v1 h0 h1 head : Nat} (hh : h0 < h1) (hv : v0 ≤ v1) (h : head ≤ h1) : headStep v0 v1 h0 h1 head ≤ v1 :=
  (headStep_le_of_head_le v0 v1 h0 h1 h).trans (headStep_at_upper hh hv).le

/-- Within its interval the step weighs its two values by their distances. -/
theorem headStep_eq_weighted {v0 v1 h0 h1 head : Nat} (hv : v0 ≤ v1) (hlo : h0 ≤ head) (hhi : head ≤ h1) :
    headStep v0 v1 h0 h1 head = (v0 * (h1 - head) + v1 * (head - h0) + (h1 - h0) / 2) / (h1 - h0) := by
  obtain ⟨m, rfl⟩ := Nat.exists_eq_add_of_le hv
  have hd : h1 - h0 = (h1 - head) + (head - h0) := by omega
  have hnum : v0 * (h1 - h0) + m * (head - h0) = v0 * (h1 - head) + (v0 + m) * (head - h0) := by rw [hd]; ring
  simp only [headStep, Nat.add_sub_cancel_left, hnum]

theorem headStep_le_of_values_le {v0 v1 w0 w1 h0 h1 head : Nat} (hv : v0 ≤ v1) (hw : w0 ≤ w1) (hvw0 : v0 ≤ w0) (hvw1 : v1 ≤ w1)
    (hlo : h0 ≤ head) (hhi : head ≤ h1) : headStep v0 v1 h0 h1 head ≤ headStep w0 w1 h0 h1 head := by
  rw [headStep_eq_weighted hv hlo hhi, headStep_eq_weighted hw hlo hhi]
  gcongr

/-! ## Places in a list of breakpoints taken from column `j` on -/

theorem first_lt_of_cons {j n a : Nat} {r : List Nat} (h : j + (a :: r).length = n) : j < n := by
  rw [List.length_cons] at h; omega

theorem second_lt_of_cons_cons {j n a b : Nat} {r : List Nat} (h : j + (a :: b :: r).length = n) : j + 1 < n := by
  rw [List.length_cons, List.length_cons] at h; omega

theorem rest_of_cons {j n a : Nat} {r : List Nat} (h : j + (a :: r).length = n) : j + 1 + r.length = n := by
  rw [List.length_cons] at h; omega

/-! ## The value of a head column (R58) -/

/-- The cell of an opening: the row of the grid at its lower end. -/
def openingCell (o : Nat) : Nat := min (o / 100) 9

theorem openingCell_lt (o : Nat) : openingCell o + 1 < 11 := by unfold openingCell; omega

theorem openingCell_le_of_le {o o' : Nat} (h : o ≤ o') : openingCell o ≤ openingCell o' := by unfold openingCell; omega

theorem offset_le {o : Nat} (h : o ≤ 1000) : o - 100 * openingCell o ≤ 100 := by unfold openingCell; omega

/-- Along the opening a column takes the same rounded step, over a cell 100 wide. -/
theorem Curve.column_eq_headStep (c : Curve) (o j : Nat) :
    c.column o j =
      headStep (c.entry (openingCell o) j) (c.entry (openingCell o + 1) j) 0 100 (o - 100 * openingCell o) := rfl

section
variable {c : Curve} (hc : c.Sound) {o o' j : Nat}
include hc

theorem Curve.Sound.column_le_upper_entry (ho : o ≤ 1000) (hj : j < c.heads.length) :
    c.column o j ≤ c.entry (openingCell o + 1) j := by
  rw [Curve.column_eq_headStep]
  exact headStep_le (by omega) (hc.entry_le_next_row (openingCell_lt o) hj) (offset_le ho)

theorem Curve.Sound.column_le (ho : o ≤ 1000) (hj : j < c.heads.length) : c.column o j ≤ 65535 :=
  (hc.column_le_upper_entry ho hj).trans (hc.entry_le (openingCell_lt o) hj)

theorem Curve.Sound.column_le_of_opening_le (hoo : o ≤ o') (ho' : o' ≤ 1000) (hj : j < c.heads.length) :
    c.column o j ≤ c.column o' j := by
  rcases (openingCell_le_of_le hoo).eq_or_lt with hcell | hcell
  · rw [Curve.column_eq_headStep, Curve.column_eq_headStep, hcell]
    exact headStep_le_of_head_le _ _ _ _ (by omega)
  · calc c.column o j
        ≤ c.entry (openingCell o + 1) j := hc.column_le_upper_entry (hoo.trans ho') hj
      _ ≤ c.entry (openingCell o') j := hc.entry_le_of_row_le hcell (Nat.lt_of_succ_lt (openingCell_lt o')) hj
      _ ≤ c.column o' j := by rw [Curve.column_eq_headStep]; exact le_headStep (by omega) (Nat.zero_le _) _ _

theorem Curve.Sound.column_le_next_column (ho : o ≤ 1000) (hj : j + 1 < c.heads.length) :
    c.column o j ≤ c.column o (j + 1) :=
  headStep_le_of_values_le (hc.entry_le_next_row (openingCell_lt o) (Nat.lt_of_succ_lt hj))
    (hc.entry_le_next_row (openingCell_lt o) hj) (hc.entry_le_next_column (Nat.lt_of_succ_lt (openingCell_lt o)) hj)
    (hc.entry_le_next_column (openingCell_lt o) hj) (Nat.zero_le _) (offset_le ho)

/-! ## The value at a head (R59): the inductions take the curve's breakpoints from column `j` on -/

theorem Curve.Sound.valueFrom_le (ho : o ≤ 1000) (h : Nat) (l : List Nat) (hlen : j + l.length = c.heads.length)
    (hasc : l.IsChain (· < ·)) : c.valueFrom o h j l ≤ 65535 := by
  fun_induction Curve.valueFrom c o h j l with
  | case1 => exact Nat.zero_le _
  | case2 j h0 => exact hc.column_le ho (first_lt_of_cons hlen)
  | case3 j h0 h1 r hle => exact hc.column_le ho (first_lt_of_cons hlen)
  | case4 j h0 h1 r hlo hhi =>
    have hj := second_lt_of_cons_cons hlen
    obtain ⟨hh, _⟩ := List.isChain_cons_cons.1 hasc
    exact (headStep_le hh (hc.column_le_next_column ho hj) hhi.le).trans (hc.column_le ho hj)
  | case5 j h0 h1 r hlo hhi ih =>
    exact ih (rest_of_cons hlen) (List.isChain_cons_cons.1 hasc).2

/-- The value does not lie below the first column. -/
theorem Curve.Sound.column_le_valueFrom (ho : o ≤ 1000) (h h0 : Nat) (r : List Nat) (hlen : j + (h0 :: r).length = c.heads.length)
    (hasc : (h0 :: r).IsChain (· < ·)) : c.column o j ≤ c.valueFrom o h j (h0 :: r) := by
  induction r generalizing j h0 with
  | nil => exact le_rfl
  | cons h1 r ih =>
    obtain ⟨hh, hasc'⟩ := List.isChain_cons_cons.1 hasc
    have hj := second_lt_of_cons_cons hlen
    rw [Curve.valueFrom]
    split_ifs with hlo hhi
    · exact le_rfl
    · exact le_headStep hh (by omega) _ _
    · exact (hc.column_le_next_column ho hj).trans (ih h1 (rest_of_cons hlen) hasc')

/-- The value never falls as the opening or the head rises. -/
theorem Curve.Sound.valueFrom_le_valueFrom {h h' : Nat} (hoo : o ≤ o') (ho' : o' ≤ 1000) (hh : h ≤ h') (l : List Nat)
    (hlen : j + l.length = c.heads.length) (hasc : l.IsChain (· < ·)) : c.valueFrom o h j l ≤ c.valueFrom o' h' j l := by
  have ho := hoo.trans ho'
  fun_induction Curve.valueFrom c o h j l with
  | case1 => exact Nat.zero_le _
  | case2 j h0 => exact hc.column_le_of_opening_le hoo ho' (first_lt_of_cons hlen)
  | case3 j h0 h1 r hle =>
    exact (hc.column_le_of_opening_le hoo ho' (first_lt_of_cons hlen)).trans
      (hc.column_le_valueFrom ho' h' h0 (h1 :: r) hlen hasc)
  | case4 j h0 h1 r hlo hhi =>
    have hj := second_lt_of_cons_cons hlen
    obtain ⟨hlt, hasc'⟩ := List.isChain_cons_cons.1 hasc
    have hcol := hc.column_le_next_column ho hj
    have hup := hc.column_le_of_opening_le hoo ho' hj
    rw [Curve.valueFrom, if_neg (by omega)]
    split_ifs with hhi'
    · exact (headStep_le_of_values_le hcol (hc.column_le_next_column ho' hj)
        (hc.column_le_of_opening_le hoo ho' (Nat.lt_of_succ_lt hj)) hup (by omega) hhi.le).trans
        (headStep_le_of_head_le _ _ _ _ hh)
    · exact ((headStep_le hlt hcol hhi.le).trans hup).trans
        (hc.column_le_valueFrom ho' h' h1 r (rest_of_cons hlen) hasc')
  | case5 j h0 h1 r hlo hhi ih =>
    rw [Curve.valueFrom, if_neg (by omega), if_neg (by omega)]
    exact ih (rest_of_cons hlen) (List.isChain_cons_cons.1 hasc).2

/-! ## Gate flow (R60) -/

theorem Curve.Sound.flow_le (ho : o ≤ 1000) (h : Nat) : c.flow o h ≤ 8388480 :=
  calc c.flow o h
      ≤ 65535 * 2 ^ 7 :=
        Nat.mul_le_mul (hc.valueFrom_le ho h c.heads (Nat.zero_add _) hc.heads_ascend)
          (Nat.pow_le_pow_right (by omega) hc.shift_le)
    _ = 8388480 := by norm_num

theorem Curve.Sound.flow_le_flow {h h' : Nat} (hoo : o ≤ o') (ho' : o' ≤ 1000) (hh : h ≤ h') : c.flow o h ≤ c.flow o' h' :=
  Nat.mul_le_mul_right _ (hc.valueFrom_le_valueFrom hoo ho' hh c.heads (Nat.zero_add _) hc.heads_ascend)

end

theorem Tables.gateFlow_of_valid {t : Tables} {i : Fin 16} {x : Curve} (h : t.curves[(t.gateCfg i).curve] = .valid x)
    (o head : Nat) : t.gateFlow i o head = some (x.flow o head) := by
  simp only [Tables.gateFlow, h, TableSlot.get?, Option.map_some]

/-- Settles O54: gate flow is its scaled value, and the content check makes it rise with the opening and the head. -/
theorem flowRisesWithOpeningAndHead : Obligations.FlowRisesWithOpeningAndHead := by
  refine ⟨fun c o h => rfl, fun c hok o o' h h' hoo ho' hh => ?_⟩
  have hc := Curve.sound_of_curveOk hok
  exact ⟨hc.flow_le_flow hoo ho' hh, hc.flow_le (hoo.trans ho') h⟩

/-! ## The opening for a flow (R62) -/

/-- The answer where the flow never falls up to the end of the search: the end where that fails, else the openings that pass are those from the
answer on. -/
theorem smallestOpening_of_rising {q : Nat → Nat} {r o n : Nat} (hq : ∀ x y, x ≤ y → y ≤ o + n → q x ≤ q y) :
    (q (o + n) < r → smallestOpening q r o n = o + n) ∧
    (r ≤ q (o + n) → ∀ x, smallestOpening q r o n ≤ x → x ≤ o + n → r ≤ q x) := by
  obtain ⟨_, hle, _, hpass | hend⟩ := smallestOpening_spec q r o n
  · have hmax : q (smallestOpening q r o n) ≤ q (o + n) := hq _ _ hle le_rfl
    exact ⟨fun hlt => by omega, fun _ x hx hxn => hpass.trans (hq _ _ hx hxn)⟩
  · refine ⟨fun _ => hend, fun hr x hx hxn => ?_⟩
    have hxe : x = o + n := by omega
    exact hxe ▸ hr

/-- Settles O55, from what the search can answer and R60. -/
theorem openingsForFlowsAreSmallest : Obligations.OpeningsForFlowsAreSmallest := by
  intro t i r head c q a hbounds
  have hend : c.minOpening + (c.maxOpening - c.minOpening) = c.maxOpening := by omega
  obtain ⟨hmin, hmax, hbelow, hstop⟩ := smallestOpening_spec q r c.minOpening (c.maxOpening - c.minOpening)
  refine ⟨hmin, hmax.trans hend.le, hbelow, hstop.imp_right (·.trans hend), fun hr => ?_, fun x hx hok hle => ?_⟩
  · by_contra hne
    have hlt : q c.minOpening < r := hbelow _ le_rfl (Nat.lt_of_le_of_ne hmin (Ne.symm hne))
    omega
  · have hrise : ∀ o o', o ≤ o' → o' ≤ c.minOpening + (c.maxOpening - c.minOpening) → q o ≤ q o' := by
      intro o o' hoo ho'
      simp only [q, Tables.gateFlow_of_valid hx, Option.getD_some]
      exact (Curve.sound_of_curveOk hok).flow_le_flow hoo (by omega) le_rfl
    exact hend ▸ smallestOpening_of_rising (r := r) hrise

end Sys2Proof.Machine
end

section
/-! The ramp limits of a governing round (chapter 5, stage 5): the band by the planned outflow (R80), the per-minute limits by band,
regime and acceptance in use (R81, R114), and their conversion to the round (R82). -/

namespace Sys2Proof.Machine

/-! ## The band (R80) -/

theorem rampBand_cons_of_le {q : Nat} {b : RampBand} (h : q ≤ b.upper) (rest : List RampBand) :
    rampBand q (b :: rest) = some b := by
  cases rest with
  | nil => rfl
  | cons c r => exact if_pos h

theorem rampBand_cons_of_lt {q : Nat} {x : RampBand} (h : x.upper < q) {rest : List RampBand} (hne : rest ≠ []) :
    rampBand q (x :: rest) = rampBand q rest := by
  cases rest with
  | nil => exact absurd rfl hne
  | cons c r => exact if_neg (Nat.not_le.2 h)

theorem rampBand_append_of_lt {q : Nat} {front bands : List RampBand} (hfront : ∀ x ∈ front, x.upper < q) (hne : bands ≠ []) :
    rampBand q (front ++ bands) = rampBand q bands := by
  induction front with
  | nil => rfl
  | cons x xs ih =>
    obtain ⟨hx, hxs⟩ := List.forall_mem_cons.1 hfront
    exact (rampBand_cons_of_lt hx (List.append_ne_nil_of_right_ne_nil xs hne)).trans (ih hxs)

/-- The band is the first whose upper bound reaches the planned outflow, or the last one. -/
theorem rampBand_eq_some {q : Nat} {front rest : List RampBand} {b : RampBand} (hfront : ∀ x ∈ front, x.upper < q)
    (hb : q ≤ b.upper ∨ rest = []) : rampBand q (front ++ b :: rest) = some b := by
  rw [rampBand_append_of_lt hfront (List.cons_ne_nil b rest)]
  obtain hle | rfl := hb
  · exact rampBand_cons_of_le hle rest
  · rfl

/-! ## The acceptance in use (R114) -/

theorem State.acceptanceInUse_of_received {s : State} {a : Nat} (hp : s.portPresent .D = true) (ha : s.csu.received = some a) :
    s.acceptanceInUse = (some a, .received) := by
  simp only [State.acceptanceInUse, hp, ha, if_true]

theorem State.acceptanceInUse_of_default {s : State} (hp : s.portPresent .D = true) (ha : s.csu.received = none) :
    s.acceptanceInUse = (some s.tables.stationOr.defaultAcceptance, .default) := by
  simp only [State.acceptanceInUse, hp, ha, if_true]

theorem State.acceptanceInUse_of_absent {s : State} (hp : s.portPresent .D = false) : s.acceptanceInUse = (none, .unlimited) := by
  simp only [State.acceptanceInUse, hp, Bool.false_eq_true, if_false]

/-! ## The per-minute limits (R81) -/

section
variable {s : State} {q : Nat} {r : Ramp} {b : RampBand}

theorem State.limitsPerMinute_flood (hr : s.tables.ramp.active = .valid r) (hb : rampBand q r.bands = some b)
    (hg : s.lvu.regime = .flood) : s.limitsPerMinute q = (r.floodRise, b.fall) := by
  simp only [State.limitsPerMinute, hr, hb, hg]

/-- In NORMAL the acceptance in use, where there is one, bounds the band's rise limit. -/
theorem State.limitsPerMinute_normal (hr : s.tables.ramp.active = .valid r) (hb : rampBand q r.bands = some b)
    (hg : s.lvu.regime = .normal) : s.limitsPerMinute q = (s.acceptanceInUse.1.elim b.rise (min b.rise), b.fall) := by
  simp only [State.limitsPerMinute, hr, hb, hg]
  cases s.acceptanceInUse.1 with
  | none => rfl
  | some a => rfl

theorem State.limitsPerMinute_fall (hr : s.tables.ramp.active = .valid r) (hb : rampBand q r.bands = some b) :
    (s.limitsPerMinute q).2 = b.fall := by
  cases hg : s.lvu.regime with
  | normal => rw [State.limitsPerMinute_normal hr hb hg]
  | flood => rw [State.limitsPerMinute_flood hr hb hg]

end

/-! ## The conversion (R82) -/

@[simp] theorem perRound_zero (t : Nat) : perRound 0 t = 0 := rfl

theorem perRound_of_ne_zero {l : Nat} (hl : l ≠ 0) (t : Nat) : perRound l t = max 1 (l * t / 600) := if_neg hl

theorem perRound_of_floor_zero {l t : Nat} (h : l * t / 600 = 0) : perRound l t = if l = 0 then 0 else 1 := by
  rw [perRound, h, Nat.max_zero]

theorem perRound_of_floor_ne_zero {l t : Nat} (h : l * t / 600 ≠ 0) : perRound l t = l * t / 600 := by
  have hl : l ≠ 0 := by
    rintro rfl
    simp at h
  rw [perRound_of_ne_zero hl, max_eq_right (Nat.one_le_iff_ne_zero.2 h)]

/-- Settles O53: the band by the search, the limits by regime and acceptance in use, and the floor of the conversion. -/
theorem limitsAreConvertedPerRound : Obligations.LimitsAreConvertedPerRound := by
  refine ⟨fun s q r front rest b hr hbands hfront hreach => ?_, fun s q => rfl, fun l t => ?_⟩
  · have hb : rampBand q r.bands = some b := hbands ▸ rampBand_eq_some hfront hreach
    refine ⟨State.limitsPerMinute_fall hr hb, fun hg => ?_, fun hg => ?_⟩
    · rw [State.limitsPerMinute_flood hr hb hg]
    · rw [State.limitsPerMinute_normal hr hb hg]
      refine ⟨fun a hp ha => ?_, fun hp ha => ?_, fun hp => ?_⟩
      · rw [State.acceptanceInUse_of_received hp ha, Option.elim_some]
      · rw [State.acceptanceInUse_of_default hp ha, Option.elim_some]
      · rw [State.acceptanceInUse_of_absent hp, Option.elim_none]
  · refine ⟨perRound_of_floor_zero, fun h => ?_, perRound_zero t⟩
    rw [perRound_of_floor_ne_zero h]
    exact ⟨Nat.mul_div_le _ _, Nat.lt_mul_div_succ _ (by omega)⟩

end Sys2Proof.Machine
end

section
/-! Frames from the control computer (chapter 6): what Port L does with an ORDER, a KEEPALIVE and a DRIVE frame (R91 to R100, R150), from
one equation for each way a frame is received, an arrival is heard and an order is answered. -/

namespace Sys2Proof.Machine

/-! ## Received frames by kind (R148, R150, R151) -/

section
variable {s : State} {f : BusFrame}

theorem exec_orderReceived (f : BusFrame) (s : State) : exec (.orderReceived f) s = s.receiveL f := rfl
theorem exec_keepaliveReceived (f : BusFrame) (s : State) : exec (.keepaliveReceived f) s = s.receiveL f := rfl
theorem exec_driveFrameReceived (f : BusFrame) (s : State) : exec (.driveFrameReceived f) s = s.receiveL f := rfl
theorem exec_frameForward_F (f : BusFrame) (s : State) : exec (.frameForward .F f) s = .next (s.receiveF f) := rfl

theorem keepalive_ne_order : kindKeepalive ≠ kindOrder := by decide
theorem keepalive_ne_drive : kindKeepalive ≠ kindDrive := by decide

theorem State.receiveL_order_governed {i : Fin 16} (hv : busFrameValid .L f = true) (hk : f.kind = kindOrder)
    (hg : s.tables.governedGate f.destination.toNat = some i) : s.receiveL f = .next (s.takeOrder i (readOrder f)) := by
  simp [State.receiveL, hv, hk, hg]

theorem State.receiveL_order_not_governed (hv : busFrameValid .L f = true) (hk : f.kind = kindOrder)
    (hg : s.tables.governedGate f.destination.toNat = none) : s.receiveL f = .next (s.forwardFrom .L f) := by
  simp [State.receiveL, hv, hk, hg]

theorem State.receiveL_drive (hv : busFrameValid .L f = true) (hk : f.kind = kindDrive) :
    s.receiveL f = .next (s.takeDrive f) := by
  simp [State.receiveL, hv, hk, (by decide : kindDrive ≠ kindOrder)]

theorem State.receiveL_keepalive_to_part (hv : busFrameValid .L f = true) (hk : f.kind = kindKeepalive)
    (hd : f.destination = partAddress) : s.receiveL f = .next s.controlHeard := by
  simp [State.receiveL, hv, hk, hd, keepalive_ne_order, keepalive_ne_drive]

theorem State.receiveL_keepalive_to_other (hv : busFrameValid .L f = true) (hk : f.kind = kindKeepalive)
    (hd : f.destination ≠ partAddress) : s.receiveL f = .next (s.forwardFrom .L f) := by
  simp [State.receiveL, hv, hk, hd, keepalive_ne_order, keepalive_ne_drive]

theorem State.receiveF_drive (hv : busFrameValid .F f = true) (hk : f.kind = kindDrive) :
    s.receiveF f = s.forwardFrom .F f := by
  simp [State.receiveF, hv, hk, (by decide : kindDrive ≠ kindSample), (by decide : kindDrive ≠ kindReport)]

/-- The part takes no frame on Port F, so none to its own address passes the checks there (R148, R151). -/
theorem busFrameValid_F_to_part (hd : f.destination = partAddress) : busFrameValid .F f = false := by
  simp [busFrameValid, takenAt, hd]

theorem State.receiveF_to_part (hd : f.destination = partAddress) : s.receiveF f = s.busError .F := by
  simp [State.receiveF, busFrameValid_F_to_part hd]

end

/-! ## An arrival from the control computer (R129, R131) -/

section
variable {s : State}

theorem State.controlHeard_govern (h : s.mdc.mode = .govern) :
    s.controlHeard = { s with mdc := { s.mdc with orderTimer := s.orderReload } } := by
  simp only [State.controlHeard, h]

theorem State.controlHeard_fallback_present (h : s.mdc.mode = .fallback) (hp : s.mdc.controlPresent = true) :
    s.controlHeard = { s with mdc := { s.mdc with orderTimer := s.orderReload, controlPresent := true } } := by
  simp only [State.controlHeard, h, hp, if_true]

theorem State.controlHeard_fallback_absent (h : s.mdc.mode = .fallback) (hp : s.mdc.controlPresent = false) :
    s.controlHeard = { s with
      mdc := { s.mdc with orderTimer := s.orderReload, controlPresent := true }, desk := s.desk.clear .controlSilent } := by
  simp only [State.controlHeard, h, hp, Bool.false_eq_true, if_false, State.clear]

/-- Outside GOVERN and FALLBACK nothing listens for the control computer. -/
theorem State.controlHeard_deaf (h : s.mdc.mode = .starting ∨ s.mdc.mode = .config ∨ s.mdc.mode = .frozen) :
    s.controlHeard = s := by
  obtain h | h | h := h <;> simp only [State.controlHeard, h]

/-- What an arrival leaves alone: a judgement of orders reads the same after it. -/
theorem State.controlHeard_keeps (s : State) :
    s.controlHeard.mdc.mode = s.mdc.mode ∧ s.controlHeard = { s with mdc := s.controlHeard.mdc, desk := s.controlHeard.desk } := by
  cases h : s.mdc.mode with
  | fallback =>
    cases hp : s.mdc.controlPresent with
    | true => rw [State.controlHeard_fallback_present h hp]; exact ⟨h, rfl⟩
    | false => rw [State.controlHeard_fallback_absent h hp]; exact ⟨h, rfl⟩
  | govern => rw [State.controlHeard_govern h]; exact ⟨h, rfl⟩
  | starting => rw [State.controlHeard_deaf (.inl h)]; exact ⟨h, rfl⟩
  | config => rw [State.controlHeard_deaf (.inr (.inl h))]; exact ⟨h, rfl⟩
  | frozen => rw [State.controlHeard_deaf (.inr (.inr h))]; exact ⟨h, rfl⟩

@[simp] theorem State.controlHeard_mode (s : State) : s.controlHeard.mdc.mode = s.mdc.mode := s.controlHeard_keeps.1

@[simp] theorem State.controlHeard_gate (s : State) (i : Fin 16) : s.controlHeard.gate i = s.gate i := by
  rw [s.controlHeard_keeps.2]; rfl

end

/-! ## Orders (R92 to R94) -/

theorem answerFrame_eq (i : Fin 16) (o : Order) (r : OrderResult) (opening : Nat) :
    answerFrame i o r opening =
      makeBusFrame 0 254 kindAnswer ([o.tag, BitVec.ofNat 8 i.val, BitVec.ofNat 8 r.code] ++ beBytes 2 opening) := by
  simp [answerFrame, beBytes]

section
variable {s : State} (i : Fin 16) (o : Order)

theorem State.takeOrder_full (h : s.ownFull = true) : s.takeOrder i o = s.controlHeard.dropOwn := if_pos h

theorem State.takeOrder_room (h : s.ownFull = false) : s.takeOrder i o = s.controlHeard.answerOrder i o := by
  simp only [State.takeOrder, h, Bool.false_eq_true, if_false]

theorem State.answerOrder_refusedMode (h : s.mdc.mode ≠ .govern) :
    s.answerOrder i o = s.pushOwn (answerFrame i o .refusedMode o.firstStep) := by
  have hj : s.judgeOrder i o = (.refusedMode, o.firstStep) := if_pos h
  simp [State.answerOrder, hj, OrderResult.fills]

variable {i}

theorem State.answerOrder_refusedGate (h : s.mdc.mode = .govern) (hg : (s.gate i).state = .unseen ∨ (s.gate i).state = .faulted) :
    s.answerOrder i o = s.pushOwn (answerFrame i o .refusedGate o.firstStep) := by
  have hj : s.judgeOrder i o = (.refusedGate, o.firstStep) := by simp [State.judgeOrder, h, hg]
  simp [State.answerOrder, hj, OrderResult.fills]

theorem State.answerOrder_taken (h : s.mdc.mode = .govern) (hu : (s.gate i).state ≠ .unseen) (hf : (s.gate i).state ≠ .faulted) :
    let taken := (s.cfg i).clamp o.firstStep
    s.answerOrder i o = (s.setGate i { s.gate i with slot := some (slotOf o taken s.now) }).pushOwn
      (answerFrame i o (if taken = o.opening then .accepted else .clamped) taken) := by
  intro taken
  have hj : s.judgeOrder i o = (if taken = o.opening then .accepted else .clamped, taken) := by
    simp [State.judgeOrder, h, hu, hf, taken]
  have hfills : (if taken = o.opening then OrderResult.accepted else .clamped).fills = true := by split <;> rfl
  simp only [State.answerOrder, hj, hfills, if_true]

end

/-- The result codes of an order that is taken. -/
theorem code_of_taken (p : Prop) [Decidable p] : (if p then OrderResult.accepted else .clamped).code = if p then 0 else 1 :=
  apply_ite OrderResult.code ..

/-! ## DRIVE frames around the part (R99) -/

theorem State.raised_raise_of_raised {s : State} {c d : Cond} (hl : d ≠ .noticeLost) (h : s.Raised d) : (s.raise c).Raised d := by
  by_cases hc : d = c
  · exact hc ▸ s.raised_raise d
  · have hrecord : (s.raise c).desk.record d = s.desk.record d := Desk.raise_record_ne _ _ hc hl
    simpa only [State.Raised, State.active, State.latched, hrecord] using h

/-- BYPASS_BLOCKED raised for several gates, one after another. -/
def State.blockBypass (s : State) (l : List (Fin 16)) : State := l.foldl (fun s i => s.raise (.bypassBlocked i)) s

theorem State.blockBypass_frame (s : State) (l : List (Fin 16)) : s.blockBypass l = { s with desk := (s.blockBypass l).desk } :=
  foldl_keeps (fun t : State => t = { s with desk := t.desk }) _ (fun t i ht => by rw [ht]; rfl) l s rfl

theorem State.raised_blockBypass {s : State} {l : List (Fin 16)} {i : Fin 16} (hi : i ∈ l) :
    (s.blockBypass l).Raised (.bypassBlocked i) := by
  induction l generalizing s with
  | nil => exact absurd hi List.not_mem_nil
  | cons j r ih =>
    obtain rfl | hr := List.mem_cons.1 hi
    · exact foldl_keeps (State.Raised · (.bypassBlocked i)) _ (fun _ _ => State.raised_raise_of_raised (by simp)) r _ (s.raised_raise _)
    · exact ih hr

section
variable {s : State} {f : BusFrame}

theorem Tables.bypassed_broadcast {t : Tables} {d : Byte} (hd : d = broadcast) (hv : t.gates.isValid = true) :
    t.bypassed d = some t.inServiceGates := by
  simp only [Tables.bypassed, hd, hv, if_true]

theorem Tables.bypassed_governed {t : Tables} {d : Byte} {i : Fin 16} (hd : d ≠ broadcast)
    (hg : t.governedGate d.toNat = some i) : t.bypassed d = some [i] := by
  simp only [Tables.bypassed, hd, hg, if_false, Option.map_some]

/-- An address that reaches no governed drive: another than 255 that no in-service gate has, or 255 with no gate known. -/
theorem Tables.bypassed_none {t : Tables} {d : Byte} (hb : d = broadcast → t.gates.isValid = false)
    (hg : d ≠ broadcast → t.governedGate d.toNat = none) : t.bypassed d = none := by
  by_cases hd : d = broadcast
  · simp only [Tables.bypassed, hd, hb hd, Bool.false_eq_true, if_true, if_false]
  · simp only [Tables.bypassed, hd, hg hd, if_false, Option.map_none]

theorem State.takeDrive_blocked {l : List (Fin 16)} (hm : s.mdc.mode.supervised = true) (hb : s.tables.bypassed f.destination = some l) :
    s.takeDrive f = s.blockBypass l := by
  simp only [State.takeDrive, hb, hm, if_true, State.blockBypass]

theorem State.takeDrive_unsupervised (hm : s.mdc.mode.supervised = false) : s.takeDrive f = s.forwardFrom .L f := by
  unfold State.takeDrive
  split
  · exact if_neg (by simp [hm])
  · rfl

theorem State.takeDrive_not_bypassed (hb : s.tables.bypassed f.destination = none) : s.takeDrive f = s.forwardFrom .L f := by
  simp only [State.takeDrive, hb]

end

/-- Settles O24: a DRIVE frame is blocked exactly where the part supervises and the address reaches a governed drive. -/
theorem driveFramesAreBlocked : Obligations.DriveFramesAreBlocked := by
  refine ⟨fun s f hv hk => ?_, fun s f hv hk => ?_⟩
  · rw [exec_frameForward_F, State.receiveF_drive hv hk, State.forwardFrom]
  · rw [exec_driveFrameReceived, State.receiveL_drive hv hk]
    refine ⟨fun hm => ?_, fun i hm hd hg => ?_, fun hm hd hvalid => ?_, fun _ hb hg => ?_⟩
    · rw [State.takeDrive_unsupervised hm, State.forwardFrom]
    · rw [State.takeDrive_blocked hm (Tables.bypassed_governed hd hg)]
      exact ⟨_, rfl, State.raised_blockBypass (List.mem_singleton.2 rfl), s.blockBypass_frame [i]⟩
    · rw [State.takeDrive_blocked hm (Tables.bypassed_broadcast hd hvalid)]
      exact ⟨_, rfl, fun i hi => State.raised_blockBypass hi, s.blockBypass_frame _⟩
    · rw [State.takeDrive_not_bypassed (Tables.bypassed_none hb hg), State.forwardFrom]

/-- Settles O23: the four ways an arrival is heard, and the frames that are not one. -/
theorem keepalivesAreHeard : Obligations.KeepalivesAreHeard := by
  intro s f hk reload
  refine ⟨fun hv hd => ?_, fun hv hd => ?_, fun hd => ?_⟩
  · rw [exec_keepaliveReceived, State.receiveL_keepalive_to_part hv hk hd]
    refine ⟨fun hm => ?_, fun hm hp => ?_, fun hm hp => ?_, fun hm => ?_⟩
    · rw [State.controlHeard_govern hm]; rfl
    · rw [State.controlHeard_fallback_present hm hp, ← hp]; rfl
    · rw [State.controlHeard_fallback_absent hm hp]; rfl
    · rw [State.controlHeard_deaf hm]
  · rw [exec_keepaliveReceived, State.receiveL_keepalive_to_other hv hk hd, State.forwardFrom]
  · rw [exec_frameForward_F, State.receiveF_to_part hd]

/-- Settles O22: an arrival heard first, then the drop, or the judgement and its ANSWER. -/
theorem ordersAreAnswered : Obligations.OrdersAreAnswered := by
  intro s f hv hk o reload
  rw [exec_orderReceived]
  refine ⟨fun hg => ?_, fun i hg hfull => ?_, fun i hg hroom => ?_⟩
  · rw [State.receiveL_order_not_governed hv hk hg, State.forwardFrom]
  · rw [State.receiveL_order_governed hv hk hg, State.takeOrder_full i _ hfull]
    cases hm : s.mdc.mode with
    | govern => rw [State.controlHeard_govern hm]; rfl
    | fallback =>
      cases hp : s.mdc.controlPresent with
      | true => rw [State.controlHeard_fallback_present hm hp]; rfl
      | false => rw [State.controlHeard_fallback_absent hm hp]; rfl
    | starting => rw [State.controlHeard_deaf (.inl hm)]; rfl
    | config => rw [State.controlHeard_deaf (.inr (.inl hm))]; rfl
    | frozen => rw [State.controlHeard_deaf (.inr (.inr hm))]; rfl
  · rw [State.receiveL_order_governed hv hk hg, State.takeOrder_room i _ hroom]
    intro cut taken answer
    have hanswer (r : OrderResult) (n : Nat) : answer r.code n = answerFrame i o r n := (answerFrame_eq i o r n).symm
    refine ⟨fun hm hu hf => ?_, fun hm hgate => ?_, fun hm => ?_, fun hm => ?_⟩
    · rw [State.answerOrder_taken _ (by simpa using hm) (by simpa using hu) (by simpa using hf), State.controlHeard_govern hm]
      refine ⟨_, rfl, rfl, rfl, rfl, ?_⟩
      rw [← code_of_taken, hanswer]; rfl
    · rw [State.answerOrder_refusedGate _ (by simpa using hm) (by simpa using hgate), State.controlHeard_govern hm]
      exact ⟨_, rfl, rfl, rfl, congrArg s.desk.pushOwn (hanswer .refusedGate cut).symm⟩
    · have hne : s.mdc.mode ≠ .govern := by obtain h | h | h := hm <;> simp [h]
      rw [State.controlHeard_deaf hm, State.answerOrder_refusedMode _ _ hne, State.pushOwn]
      exact congrArg (fun a => Host.Outcome.next { s with desk := s.desk.pushOwn a }) (hanswer .refusedMode cut).symm
    · rw [State.answerOrder_refusedMode _ _ (by simp [hm])]
      cases hp : s.mdc.controlPresent with
      | true =>
        rw [State.controlHeard_fallback_present hm hp]
        exact ⟨_, rfl, rfl, rfl, fun _ => congrArg s.desk.pushOwn (hanswer .refusedMode cut).symm, nofun⟩
      | false =>
        rw [State.controlHeard_fallback_absent hm hp]
        exact ⟨_, rfl, rfl, rfl, nofun, fun _ => congrArg (Desk.pushOwn _) (hanswer .refusedMode cut).symm⟩

end Sys2Proof.Machine
end

section
/-! The request RESTORE_FORECAST (chapter 7), from what the judging of a request (R156) answers in each of its cases. -/

namespace Sys2Proof.Machine

/-! ## Judging a request (R156) -/

/-- The REPLY of a request that carries no data, as its bytes (R171). -/
theorem replyFrame_nil (code : Byte) (r : Result) :
    replyFrame code r [] = makeBusFrame 0 254 kindReply [code, BitVec.ofNat 8 r.code] := by
  simp [replyFrame, beBytes]

section
variable {s : State} {code : Byte}

theorem State.request_starting (hroom : s.ownFull = false) (hm : s.mdc.mode = .starting) (hc : code ≠ 1)
    (body : State → State) : s.request code body = s.reply code .refusedBusy [] := by
  simp only [State.request, hroom, Bool.false_eq_true, if_false, hm, hc, ne_eq, not_false_eq_true, and_self, if_true]

theorem State.Routed.request_eq (h : s.Routed) (code : Byte) (body : State → State) : s.request code body = body s := by
  obtain ⟨hroom, hm⟩ := h
  simp only [State.request, hroom, Bool.false_eq_true, if_false, hm, false_and]

end

/-! ## RESTORE_FORECAST (R113) -/

/-- The result is the test of Port U, and DONE alone changes the forecast state. -/
theorem execRestoreForecast_of_routed {s : State} (h : s.Routed) :
    execRestoreForecast s = .next
      (if s.portPresent .U = true ∧ s.portU.link = .lost then s.reply 17 .refusedMode []
       else State.reply { s with csu := { s.csu with forecast := .tracking } } 17 .done []) :=
  congrArg _ (h.request_eq 17 _)

/-- Settles O45: refused in STARTING before it reaches its block, and routed as the link of Port U decides. -/
theorem forecastsAreRestored : Obligations.ForecastsAreRestored := by
  refine ⟨fun s hroom hm => ?_, fun s h => ?_⟩
  · calc exec .restoreForecast s
        = .next (s.reply 17 .refusedBusy []) := congrArg _ (State.request_starting hroom hm (by decide) _)
      _ = _ := by rw [State.reply, replyFrame_nil]; rfl
  · refine (execRestoreForecast_of_routed h).trans ?_
    simp only [State.reply, replyFrame_nil]
    rfl

end Sys2Proof.Machine
end

section
/-! The return to CONFIG (chapter 8): what the entry to CONFIG (R126) does to each block, read from what it does to one gate, to the
condition records and to the tables; and the request CONFIGURE (R134), which brings a station at rest there. -/

namespace Sys2Proof.Machine

/-! ## A change made to every gate in turn -/

/-- A gate's record written back as it is changes nothing. -/
@[simp] theorem State.setGate_gate_self (s : State) (i : Fin 16) : s.setGate i (s.gate i) = s := by
  simp [State.setGate, State.gate, Yard.setGate, Yard.gate]

/-- Every gate in turn takes a new record, which is made from its loaded part and the record it has. -/
def State.eachGate (u : GateCfg → Gate → Gate) (s : State) : State :=
  allGates.foldl (fun s i => s.setGate i (u (s.cfg i) (s.gate i))) s

section
variable (u : GateCfg → Gate → Gate)

theorem State.foldl_setGate_gate (l : List (Fin 16)) (hl : l.Nodup) (s : State) (j : Fin 16) :
    (l.foldl (fun s i => s.setGate i (u (s.cfg i) (s.gate i))) s).gate j =
      if j ∈ l then u (s.cfg j) (s.gate j) else s.gate j := by
  induction l generalizing s with
  | nil => simp
  | cons i r ih =>
    obtain ⟨hi, hr⟩ := List.nodup_cons.1 hl
    rw [List.foldl_cons, ih hr]
    by_cases hj : j = i
    · simp [hj, hi]
    · simp [hj, State.gate_setGate_ne _ _ hj, State.cfg]

@[simp] theorem State.eachGate_gate (s : State) (j : Fin 16) : (s.eachGate u).gate j = u (s.cfg j) (s.gate j) :=
  (State.foldl_setGate_gate u allGates allGates_nodup s j).trans (if_pos (mem_allGates j))

theorem State.eachGate_frame (s : State) :
    s.eachGate u = { s with yard := { s.yard with gates := (s.eachGate u).yard.gates } } :=
  foldl_keeps (fun t : State => t = { s with yard := { s.yard with gates := t.yard.gates } }) _
    (fun t i ht => by rw [ht]; rfl) allGates s rfl

@[simp] theorem State.eachGate_tables (s : State) : (s.eachGate u).tables = s.tables := by rw [State.eachGate_frame]
@[simp] theorem State.eachGate_mdc (s : State) : (s.eachGate u).mdc = s.mdc := by rw [State.eachGate_frame]
@[simp] theorem State.eachGate_rgv (s : State) : (s.eachGate u).rgv = s.rgv := by rw [State.eachGate_frame]
@[simp] theorem State.eachGate_lvu (s : State) : (s.eachGate u).lvu = s.lvu := by rw [State.eachGate_frame]
@[simp] theorem State.eachGate_desk (s : State) : (s.eachGate u).desk = s.desk := by rw [State.eachGate_frame]
@[simp] theorem State.eachGate_portF (s : State) : (s.eachGate u).yard.portF = s.yard.portF := by rw [State.eachGate_frame]
@[simp] theorem State.eachGate_groups (s : State) : (s.eachGate u).yard.groups = s.yard.groups := by rw [State.eachGate_frame]

/-- Two changes made one after the other to every gate are one change to every gate. -/
theorem State.eachGate_eachGate (v : GateCfg → Gate → Gate) (s : State) :
    (s.eachGate u).eachGate v = s.eachGate (fun c g => v c (u c g)) := by
  have hgates : ((s.eachGate u).eachGate v).yard.gates = (s.eachGate (fun c g => v c (u c g))).yard.gates := by
    ext1 i hi
    have h : ((s.eachGate u).eachGate v).gate ⟨i, hi⟩ = (s.eachGate (fun c g => v c (u c g))).gate ⟨i, hi⟩ := by
      simp [State.cfg]
    exact h
  rw [State.eachGate_frame, hgates, State.eachGate_frame u s, ← State.eachGate_frame (fun c g => v c (u c g)) s]

end

/-! ## Gates at an entry to CONFIG (R11, R26, R96) -/

/-- The record of a gate after the LOCKED gates are re-seated (R11). -/
def Gate.reseatIfLocked (c : GateCfg) (g : Gate) : Gate :=
  match g.state, g.position with
  | .locked, some p => g.reseat c p
  | _, _ => g

theorem Gate.reseatIfLocked_of_locked {g : Gate} {p : Nat} (hs : g.state = .locked) (hp : g.position = some p) (c : GateCfg) :
    g.reseatIfLocked c = g.reseat c p := by
  simp only [Gate.reseatIfLocked, hs, hp]

/-- A re-seating changes neither the state nor the order slot. -/
theorem Gate.reseatIfLocked_keeps (c : GateCfg) (g : Gate) :
    (g.reseatIfLocked c).state = g.state ∧ (g.reseatIfLocked c).slot = g.slot := by
  unfold Gate.reseatIfLocked
  split <;> exact ⟨rfl, rfl⟩

theorem State.reseatLocked_eq_eachGate (s : State) : s.reseatLocked = s.eachGate Gate.reseatIfLocked := by
  unfold State.reseatLocked State.eachGate
  congr 1
  funext t i
  unfold Gate.reseatIfLocked
  split <;> simp [*]

/-- The record of a gate after the entry to CONFIG: its slot emptied, re-seated where LOCKED, its lag supervision ended. -/
def Gate.configured (c : GateCfg) (g : Gate) : Gate :=
  { Gate.reseatIfLocked c { g with slot := none } with lagStart := none, lagReported := false }

/-- The three changes that the entry makes to the gates, as one. -/
theorem State.configureGates_eq_eachGate (s : State) :
    s.emptySlots.reseatLocked.endLag = (s.eachGate Gate.configured).clearAll (allGates.map .gateLag) := by
  have hslots : s.emptySlots = s.eachGate (fun _ g => { g with slot := none }) := rfl
  have hlag (t : State) : t.endLag =
      (t.eachGate (fun _ g => { g with lagStart := none, lagReported := false })).clearAll (allGates.map .gateLag) := rfl
  rw [hslots, State.reseatLocked_eq_eachGate, hlag, State.eachGate_eachGate, State.eachGate_eachGate]
  rfl

theorem Gate.configured_slot_lag_state (c : GateCfg) (g : Gate) :
    (g.configured c).slot = none ∧ (g.configured c).lagStart = none ∧ (g.configured c).state = g.state := by
  obtain ⟨hstate, hslot⟩ := Gate.reseatIfLocked_keeps c { g with slot := none }
  exact ⟨hslot, rfl, hstate⟩

theorem Gate.configured_of_locked {g : Gate} {p : Nat} (hs : g.state = .locked) (hp : g.position = some p) (c : GateCfg) :
    (g.configured c).positionAtLock = some p ∧ (g.configured c).commanded = some (c.clamp p) ∧
    (g.configured c).target = some (c.clamp p) ∧ (g.configured c).pending = false := by
  have h := Gate.reseatIfLocked_of_locked (g := { g with slot := none }) hs hp c
  simp only [Gate.configured, h, Gate.reseat, and_self]

/-! ## READY shadows swapped in (R71) -/

theorem State.followReach_frame (s : State) : s.followReach = { s with csu := s.followReach.csu } := by
  unfold State.followReach
  split <;> rfl

/-- A shadow that is READY is that of an operating table. -/
theorem Tables.readyShadows_operating {t : Tables} {p : TableId × TableData} (hp : p ∈ t.readyShadows) :
    (∃ x, p.2 = .ramp x) ∨ (∃ x, p.2 = .flood x) ∨ (∃ x, p.2 = .accept x) ∨ (∃ x, p.2 = .reach x) ∨ ∃ x, p.2 = .fill x := by
  unfold Tables.readyShadows at hp
  simp only [List.mem_append, or_assoc] at hp
  refine hp.imp ?_ (.imp ?_ (.imp ?_ (.imp ?_ ?_)))
  all_goals
    intro hp
    split at hp
    · exact ⟨_, congrArg Prod.snd (List.mem_singleton.1 hp)⟩
    · exact absurd hp List.not_mem_nil

/-- The owner of an operating table that is swapped in changes the Cascade Unit and Port U at most (R111, R116). -/
theorem State.takeContents_frame_of_ready {t : Tables} {p : TableId × TableData} (hp : p ∈ t.readyShadows) (s : State) :
    s.takeContents p.2 = { s with
      csu := (s.takeContents p.2).csu, portU := (s.takeContents p.2).portU, tables := (s.takeContents p.2).tables } := by
  obtain ⟨x, h⟩ | ⟨x, h⟩ | ⟨x, h⟩ | ⟨x, h⟩ | ⟨x, h⟩ := Tables.readyShadows_operating hp <;> rw [h] <;>
    simp only [State.takeContents, State.ownerTakes]
  · rw [State.computeOwnAcceptance_frame]
  · rw [State.followReach_frame]

theorem State.swapShadows_frame (s : State) :
    s.swapShadows = { s with
      csu := s.swapShadows.csu, portU := s.swapShadows.portU, tables := s.swapShadows.tables } :=
  List.foldlRecOn (motive := fun t : State => t = { s with csu := t.csu, portU := t.portU, tables := t.tables })
    s.tables.readyShadows _ rfl (fun t ht p hp => by rw [State.takeContents_frame_of_ready hp, ht])

@[simp] theorem State.swapShadows_mdc (s : State) : s.swapShadows.mdc = s.mdc := by rw [State.swapShadows_frame]
@[simp] theorem State.swapShadows_rgv (s : State) : s.swapShadows.rgv = s.rgv := by rw [State.swapShadows_frame]
@[simp] theorem State.swapShadows_lvu (s : State) : s.swapShadows.lvu = s.lvu := by rw [State.swapShadows_frame]
@[simp] theorem State.swapShadows_yard (s : State) : s.swapShadows.yard = s.yard := by rw [State.swapShadows_frame]
@[simp] theorem State.swapShadows_desk (s : State) : s.swapShadows.desk = s.desk := by rw [State.swapShadows_frame]

/-! ## A regime set (R51) -/

@[simp] theorem State.setRegime_mdc (s : State) (r : Regime) : (s.setRegime r).mdc = s.mdc := by rw [State.setRegime_frame]
@[simp] theorem State.setRegime_rgv (s : State) (r : Regime) : (s.setRegime r).rgv = s.rgv := by rw [State.setRegime_frame]
@[simp] theorem State.setRegime_lvu (s : State) (r : Regime) : (s.setRegime r).lvu = { s.lvu with regime := r } := by
  rw [State.setRegime_frame]
@[simp] theorem State.setRegime_yard (s : State) (r : Regime) : (s.setRegime r).yard = s.yard := by rw [State.setRegime_frame]
@[simp] theorem State.setRegime_desk (s : State) (r : Regime) : (s.setRegime r).desk = s.desk := by rw [State.setRegime_frame]

/-! ## Conditions cleared by their owners (R140) -/

/-- Clearing touches the records alone. -/
theorem Desk.clearAll_frame (d : Desk) (l : List Cond) : d.clearAll l = { d with records := (d.clearAll l).records } := by
  obtain ⟨hnotices, hport, -⟩ := d.clearAll_spec l
  rw [← hnotices, ← hport]

theorem Desk.clearAll_append (d : Desk) (l r : List Cond) : (d.clearAll l).clearAll r = d.clearAll (l ++ r) :=
  (List.foldl_append ..).symm

theorem Desk.clearAll_active {d : Desk} {l : List Cond} {c : Cond} (hc : c ∈ l) : ((d.clearAll l).record c).active = false := by
  obtain ⟨-, -, h⟩ := d.clearAll_spec l
  rw [h, if_pos hc]

theorem Desk.clearAll_latched (d : Desk) (l : List Cond) (c : Cond) :
    ((d.clearAll l).record c).latched = (d.record c).latched := by
  obtain ⟨-, -, h⟩ := d.clearAll_spec l
  rw [h]
  split <;> rfl

/-! ## Entry to CONFIG (R126) -/

section
variable (s : State)

/-- The first two steps of the entry: the Mode Controller's registers, and the round timer stopped. -/
def State.enteringConfig : State :=
  { s with
    mdc := { s.mdc with mode := .config, phase := none, orderTimer := none, startWait := none, controlPresent := false }
    rgv := { s.rgv with roundTimer := none } }

/-- The conditions whose active states the entry clears. -/
def configCleared : List Cond :=
  allGates.map .gateLag ++ .headHigh :: ([.rampHeld, .controlSilent] ++ allGates.map .bypassBlocked)

theorem State.enterConfig_eq : s.enterConfig =
    (State.stopRefresh (State.swapShadows (State.clear (State.setRegime
      ((s.enteringConfig.eachGate Gate.configured).clearAll (allGates.map .gateLag)) .normal) .headHigh))).clearAll
      ([.rampHeld, .controlSilent] ++ allGates.map .bypassBlocked) := by
  rw [← State.configureGates_eq_eachGate]
  rfl

theorem State.enterConfig_mdc : s.enterConfig.mdc = s.enteringConfig.mdc := by
  simp [State.enterConfig_eq]

theorem State.enterConfig_rgv : s.enterConfig.rgv = { s.rgv with roundTimer := none } := by
  simp [State.enterConfig_eq, State.enteringConfig]

theorem State.enterConfig_lvu : s.enterConfig.lvu = { s.lvu with regime := .normal } := by
  simp [State.enterConfig_eq, State.enteringConfig]

theorem State.enterConfig_refreshTimer : s.enterConfig.csu.refreshTimer = none := rfl

theorem State.enterConfig_yard : s.enterConfig.yard = (s.enteringConfig.eachGate Gate.configured).yard := by
  simp [State.enterConfig_eq]

theorem State.enterConfig_portF : s.enterConfig.yard.portF = s.yard.portF := by
  rw [State.enterConfig_yard, State.eachGate_portF, State.enteringConfig]

theorem State.enterConfig_groups : s.enterConfig.yard.groups = s.yard.groups := by
  rw [State.enterConfig_yard, State.eachGate_groups, State.enteringConfig]

theorem State.enterConfig_gate (i : Fin 16) : s.enterConfig.gate i = (s.gate i).configured (s.cfg i) :=
  (congrArg (Yard.gate · i) s.enterConfig_yard).trans (State.eachGate_gate ..)

theorem State.enterConfig_desk : s.enterConfig.desk = s.desk.clearAll configCleared := by
  have h (d : Desk) : d.clear .headHigh = d.clearAll [.headHigh] := rfl
  simp [State.enterConfig_eq, State.enteringConfig, h, Desk.clearAll_append, configCleared]

theorem State.enterConfig_active : s.enterConfig.active .headHigh = false ∧ s.enterConfig.active .rampHeld = false ∧
    s.enterConfig.active .controlSilent = false ∧
    ∀ i, s.enterConfig.active (.gateLag i) = false ∧ s.enterConfig.active (.bypassBlocked i) = false := by
  have hcleared {c : Cond} (hc : c ∈ configCleared) : s.enterConfig.active c = false := by
    rw [State.active, State.enterConfig_desk]
    exact Desk.clearAll_active hc
  refine ⟨hcleared ?_, hcleared ?_, hcleared ?_, fun i => ⟨hcleared ?_, hcleared ?_⟩⟩ <;> simp [configCleared, mem_allGates]

theorem State.enterConfig_latched (c : Cond) : s.enterConfig.latched c = s.latched c := by
  rw [State.latched, State.enterConfig_desk]
  exact Desk.clearAll_latched ..

end

/-! ## CONFIGURE (R134) -/

theorem GateState.atRest_iff (st : GateState) : st.atRest = true ↔ st = .locked ∨ st = .faulted ∨ st = .unseen := by
  cases st <;> simp [GateState.atRest]

theorem State.gatesAtRest_iff (s : State) : s.gatesAtRest = true ↔ ∀ i, (s.cfg i).inService = true →
    (s.gate i).state = .locked ∨ (s.gate i).state = .faulted ∨ (s.gate i).state = .unseen := by
  simp only [State.gatesAtRest, Tables.inServiceGates, List.all_eq_true, List.mem_filter, mem_allGates, true_and,
    GateState.atRest_iff]

section
variable {s : State}

theorem execConfigure_of_routed (h : s.Routed) : execConfigure s = .next
    (if s.mdc.mode = .config then s.reply 16 .refusedMode []
     else if s.mdc.restartPending then s.reply 16 .refusedBusy []
     else if !s.gatesAtRest then s.reply 16 .refusedBusy []
     else s.enterConfig.reply 16 .done []) :=
  congrArg _ (h.request_eq 16 _)

theorem execConfigure_config (h : s.Routed) (hm : s.mdc.mode = .config) :
    execConfigure s = .next (s.reply 16 .refusedMode []) := by
  rw [execConfigure_of_routed h, if_pos hm]

theorem execConfigure_busy (h : s.Routed) (hm : s.mdc.mode ≠ .config)
    (hbusy : s.mdc.restartPending = true ∨ s.gatesAtRest = false) : execConfigure s = .next (s.reply 16 .refusedBusy []) := by
  rw [execConfigure_of_routed h, if_neg hm]
  obtain hp | hg := hbusy
  · rw [if_pos hp]
  · rw [hg, Bool.not_false, if_pos rfl, ite_self]

theorem execConfigure_atRest (h : s.Routed) (hm : s.mdc.mode ≠ .config) (hp : s.mdc.restartPending = false)
    (hg : s.gatesAtRest = true) : execConfigure s = .next (s.enterConfig.reply 16 .done []) := by
  simp [execConfigure_of_routed h, hm, hp, hg]

end

/-- The REPLY of CONFIGURE with its result code. -/
theorem State.reply_configure (s : State) (r : Result) :
    s.reply 16 r [] = { s with desk := s.desk.pushOwn (makeBusFrame 0 254 kindReply [16, BitVec.ofNat 8 r.code]) } := by
  rw [State.reply, replyFrame_nil]
  rfl

theorem State.gate_reply (s : State) (code : Byte) (r : Result) (data : List Byte) (i : Fin 16) :
    (s.reply code r data).gate i = s.gate i := by
  rw [State.gate, State.reply_yard, State.gate]

/-- Settles O44: the judging in its order, then each block as the entry to CONFIG leaves it. -/
theorem configureReturnsToConfig : Obligations.ConfigureReturnsToConfig := by
  refine ⟨fun s hroom hm => ?_, fun s h => ?_⟩
  · calc exec .configure s
        = .next (s.reply 16 .refusedBusy []) := congrArg _ (State.request_starting hroom hm (by decide) _)
      _ = _ := by rw [State.reply_configure]; rfl
  intro refused rest
  have hrest : s.gatesAtRest = true ↔ rest := s.gatesAtRest_iff
  refine ⟨fun hm => ?_, fun hm hp => ?_, fun hm hp hn => ?_, fun hm hp hr => ?_⟩
  · exact (execConfigure_config h hm).trans (by rw [State.reply_configure]; rfl)
  · exact (execConfigure_busy h hm (.inl hp)).trans (by rw [State.reply_configure]; rfl)
  · have hg : s.gatesAtRest = false := Bool.eq_false_iff.2 (mt hrest.1 hn)
    exact (execConfigure_busy h hm (.inr hg)).trans (by rw [State.reply_configure]; rfl)
  · refine ⟨s.enterConfig.reply 16 .done [], execConfigure_atRest h hm hp (hrest.2 hr), ?_, ?_,
      (State.reply_mdc ..).trans s.enterConfig_mdc, (State.reply_rgv ..).trans s.enterConfig_rgv, ?_, ?_, ?_, ?_, ?_⟩
    · rw [State.reply_configure, State.enterConfig_desk, Desk.pushOwn_records, ← Desk.clearAll_frame]
      rfl
    · intro c
      rw [State.reply, State.latched_pushOwn, State.enterConfig_latched]
    · rw [State.reply_csu, State.enterConfig_refreshTimer]
    · rw [State.reply_lvu, State.enterConfig_lvu]
    · intro i
      rw [State.gate_reply, State.enterConfig_gate]
      exact Gate.configured_slot_lag_state ..
    · intro i p hs hpos
      rw [State.gate_reply, State.enterConfig_gate]
      exact Gate.configured_of_locked hs hpos _
    · obtain ⟨hhead, hramp, hsilent, hgates⟩ := s.enterConfig_active
      simp only [State.reply, State.active_pushOwn, State.pushOwn_yard]
      exact ⟨hhead, hramp, hsilent, hgates, s.enterConfig_portF, s.enterConfig_groups⟩

end Sys2Proof.Machine
end

section
/-! Raises (chapter 9). The two rows of R139's table are one equation each; the judging of R141 says whether the second one goes on to
place a notice. -/

namespace Sys2Proof.Machine

/-! ## The offer of a notice (R141) -/

section
variable (d : Desk) {e : RaiseEnv} {c : Cond}

theorem Desk.offer_of_level (hc : c ≠ .noticeLost) (hl : e.tables.level c = 3 ∨ e.mask ≤ e.tables.level c) :
    d.offer e c = d.placeNotice e.now { cond := c, level := e.tables.level c } := by
  simp only [Desk.offer, if_neg hc, if_pos hl]

/-- NOTICE_LOST offers nothing at any level, and the mask holds back the levels below its own but 3. -/
theorem Desk.offer_none (h : c = .noticeLost ∨ e.tables.level c ≠ 3 ∧ e.tables.level c < e.mask) : d.offer e c = d := by
  obtain hc | ⟨h3, hmask⟩ := h
  · exact if_pos hc
  · have hl : ¬(e.tables.level c = 3 ∨ e.mask ≤ e.tables.level c) := not_or.2 ⟨h3, Nat.not_le.2 hmask⟩
    simp only [Desk.offer, if_neg hl, ite_self]

end

/-! ## A raise by the latch it finds (R139) -/

theorem CondRecord.raised_of_latched {r : CondRecord} (h : r.latched = true) (now : Tick) :
    r.raised now = { r with active := true } :=
  if_pos h

theorem CondRecord.raised_of_unlatched {r : CondRecord} (h : r.latched = false) (now : Tick) :
    r.raised now = { active := true, latched := true, firstSet := some now } := by
  simp [CondRecord.raised, h]

section
variable {d : Desk} {c : Cond} (e : RaiseEnv)

theorem Desk.raise_of_latched (h : (d.record c).latched = true) :
    d.raise e c = d.setRecord c { d.record c with active := true } := by
  simp only [Desk.raise, h, if_true, CondRecord.raised_of_latched h]

theorem Desk.raise_of_unlatched (h : (d.record c).latched = false) :
    d.raise e c = (d.setRecord c { active := true, latched := true, firstSet := some e.now }).offer e c := by
  simp only [Desk.raise, h, Bool.false_eq_true, if_false, CondRecord.raised_of_unlatched h]

end

/-- Settles O30: by the latch that the raise finds, and where it finds none by the judging of the offer. -/
theorem raisesLatchOnce : Obligations.RaisesLatchOnce := by
  intro s c level latched
  refine ⟨rfl, fun hlatched => Desk.raise_of_latched s.raiseEnv hlatched, fun hfree => ?_,
    fun d hd hlost => Desk.raise_record_ne s.desk s.raiseEnv hd hlost⟩
  have hraise : (s.raise c).desk = latched.offer s.raiseEnv c := Desk.raise_of_unlatched s.raiseEnv hfree
  refine ⟨?_, fun hc hl => ?_, fun hnone => ?_⟩
  · rw [State.raise_desk, Desk.raise_record, CondRecord.raised_of_unlatched hfree]
    rfl
  · exact hraise.trans (latched.offer_of_level hc hl)
  · exact hraise.trans (latched.offer_none hnone)

end Sys2Proof.Machine
end

section
/-! Loads and the entry check (chapter 11). LOAD_SEGMENT (R161) from the judging of a segment, one equation for each of its cases; the entry
check (R164) as three searches made in order, each over a list that ascends, so that what a search finds is the lowest. -/

namespace Sys2Proof.Machine

/-! ## Replies with answer data (R156, R171) -/

theorem State.reply_eq (s : State) (code : Byte) (r : Result) (data : List Byte) : s.reply code r data =
    { s with desk := s.desk.pushOwn (makeBusFrame 0 254 kindReply ([code, BitVec.ofNat 8 r.code] ++ data)) } := by
  simp only [State.reply, replyFrame, beBytes, List.nil_append, List.singleton_append]
  rfl

/-! ## The judging of a segment (R161) -/

section
variable {s : State} {c : LoadContext} {offset : BitVec 16} {data : List Byte}

theorem State.receivedData_open (h : s.load = some c) : s.receivedData = beBytes 2 c.bytes.length := by
  simp only [State.receivedData, h, field2, Option.getD_some]

theorem State.receivedData_closed (h : s.load = none) : s.receivedData = [] := by
  simp only [State.receivedData, h]

theorem State.judgeSegment_saving (h : s.saving.isSome = true) : s.judgeSegment offset data = .error .refusedBusy := if_pos h

theorem State.judgeSegment_closed (hs : s.saving = none) (h : s.load = none) :
    s.judgeSegment offset data = .error .refusedMode := by
  simp [State.judgeSegment, hs, h]

theorem State.judgeSegment_open (hs : s.saving = none) (h : s.load = some c) : s.judgeSegment offset data =
    if offset.toNat ≠ c.bytes.length ∨ c.length < c.bytes.length + data.length then .error .badSegment else .ok c := by
  simp only [State.judgeSegment, hs, h, Option.isSome_none, Bool.false_eq_true, if_false, ite_or]

/-! ## LOAD_SEGMENT (R161) -/

theorem execLoadSegment_starting (hd : segmentLengthOk data = true) (hroom : s.ownFull = false) (hm : s.mdc.mode = .starting) :
    execLoadSegment offset data s = .next (s.reply 9 .refusedBusy []) :=
  (if_pos hd).trans (congrArg _ (State.request_starting hroom hm (by decide) _))

/-- A refusal stores nothing. -/
theorem execLoadSegment_refused {r : Result} (hd : segmentLengthOk data = true) (h : s.Routed)
    (hj : s.judgeSegment offset data = .error r) : execLoadSegment offset data s = .next (s.reply 9 r s.receivedData) := by
  simp only [execLoadSegment, hd, if_true, h.request_eq, hj]

theorem execLoadSegment_taken (hd : segmentLengthOk data = true) (h : s.Routed)
    (hj : s.judgeSegment offset data = .ok c) : execLoadSegment offset data s =
      .next ((s.appendSegment c data).reply 9 .done (beBytes 2 (c.bytes.length + data.length))) := by
  have hrec : (s.appendSegment c data).receivedData = beBytes 2 (c.bytes.length + data.length) := by
    rw [State.receivedData_open rfl, List.length_append]
  simp only [execLoadSegment, hd, if_true, h.request_eq, hj, hrec]

theorem execLoadIdleExpiry_due (h : s.load = some c) (hdue : c.idle ≤ s.now) :
    execLoadIdleExpiry s = .next (s.failLoad c.table) := by
  simp only [execLoadIdleExpiry, State.loadIdleDue, h, hdue, decide_true, if_true]

end

/-- Settles O37, by the cases of the judging. -/
theorem segmentsAreAppended : Obligations.SegmentsAreAppended := by
  intro s o data hmin hmax reply
  have hd : segmentLengthOk data = true := decide_eq_true ⟨hmin, hmax⟩
  refine ⟨fun hroom hm => ?_, fun w h hw => ?_, fun c hc hdue => ?_, fun h hs hc => ?_, fun c h hs hc => ?_⟩
  · exact (execLoadSegment_starting hd hroom hm).trans (congrArg _ (State.reply_eq ..))
  · have hj : s.judgeSegment o data = .error .refusedBusy := State.judgeSegment_saving (by rw [hw, Option.isSome_some])
    refine (execLoadSegment_refused hd h hj).trans (congrArg _ ((State.reply_eq ..).trans ?_))
    cases hc : s.load with
    | none => rw [State.receivedData_closed hc]; rfl
    | some c => rw [State.receivedData_open hc]; rfl
  · exact ⟨s.failLoad c.table, execLoadIdleExpiry_due hc hdue, rfl⟩
  · refine (execLoadSegment_refused hd h (State.judgeSegment_closed hs hc)).trans (congrArg _ ?_)
    rw [State.reply_eq, State.receivedData_closed hc]
    rfl
  · have hj : s.judgeSegment o data = _ := State.judgeSegment_open hs hc
    split_ifs at hj ⊢ with hbad
    · refine (execLoadSegment_refused hd h hj).trans (congrArg _ ?_)
      rw [State.reply_eq, State.receivedData_open hc]
      rfl
    · exact (execLoadSegment_taken hd h hj).trans (congrArg _ (State.reply_eq ..))

/-! ## Searches of ascending lists -/

/-- In an ascending list what lies lower than an element stands before it. -/
theorem mem_front_of_lt {α : Type} {key : α → Nat} {front rest : List α} {a b : α}
    (hl : (front ++ a :: rest).Pairwise (fun x y => key x < key y)) (hb : b ∈ front ++ a :: rest) (hlt : key b < key a) :
    b ∈ front := by
  obtain ⟨-, hrest, -⟩ := List.pairwise_append.1 hl
  obtain ⟨hafter, -⟩ := List.pairwise_cons.1 hrest
  obtain hb | hb := List.mem_append.1 hb
  · exact hb
  · obtain rfl | hb := List.mem_cons.1 hb
    · exact absurd hlt (lt_irrefl _)
    · exact absurd hlt (hafter b hb).not_gt

theorem allTables_ascend : allTables.Pairwise (fun a b => a.code < b.code) := by decide

theorem allGates_ascend : allGates.Pairwise (fun i j => i.val < j.val) := by decide

theorem mem_allTables (id : TableId) : id ∈ allTables := by
  cases id with
  | curve k => revert k; decide
  | _ => decide

/-! ## Required tables (R57, R127, R164) -/

section
variable {t : Tables} {id : TableId} {i j g : Fin 16}

theorem Tables.mem_inServiceGates : i ∈ t.inServiceGates ↔ (t.gateCfg i).inService = true := by
  simp only [Tables.inServiceGates, List.mem_filter, mem_allGates, true_and]

theorem Tables.curve_mem_required {k : Fin 8} :
    .curve k ∈ t.required ↔ ∃ i, (t.gateCfg i).inService = true ∧ (t.gateCfg i).curve = k := by
  simp only [Tables.required, List.mem_filter, mem_allTables, true_and, List.any_eq_true, Tables.mem_inServiceGates, beq_iff_eq]

/-- The tables that are required whichever gates are in service. -/
def alwaysRequired : List TableId := [.station, .gates, .groups, .channels, .conditions, .ramp]

theorem Tables.mem_required_of_always (h : id ∈ alwaysRequired) : id ∈ t.required := by
  refine List.mem_filter.2 ⟨mem_allTables id, ?_⟩
  fin_cases h <;> rfl

/-- The first search passes where the six tables are VALID and the curve of each in-service gate is. -/
theorem Tables.required_valid_iff : (∀ id ∈ t.required, t.valid id = true) ↔
    t.station.isValid = true ∧ t.gates.isValid = true ∧ t.groups.isValid = true ∧ t.channels.isValid = true ∧
    t.conditions.isValid = true ∧ t.ramp.active.isValid = true ∧
    ∀ i, (t.gateCfg i).inService = true → (t.curves[(t.gateCfg i).curve]).isValid = true := by
  have hvalid {α : Type} (slot : TableSlot α) (f : α → TableData) : (slot.get?.map f).isSome = slot.isValid :=
    Option.isSome_map
  constructor
  · intro h
    have hsix (id : TableId) (hid : id ∈ alwaysRequired) := h id (Tables.mem_required_of_always hid)
    simp only [alwaysRequired, List.forall_mem_cons, Tables.valid, Tables.data?, hvalid] at hsix
    obtain ⟨hstation, hgates, hgroups, hchannels, hconditions, hramp, -⟩ := hsix
    refine ⟨hstation, hgates, hgroups, hchannels, hconditions, hramp, fun i hi => ?_⟩
    rw [← hvalid _ (TableData.curve (t.gateCfg i).curve)]
    exact h _ (Tables.curve_mem_required.2 ⟨i, hi, rfl⟩)
  · rintro ⟨hstation, hgates, hgroups, hchannels, hconditions, hramp, hcurves⟩ id hid
    simp only [Tables.valid]
    cases id with
    | curve k =>
      obtain ⟨i, hi, rfl⟩ := Tables.curve_mem_required.1 hid
      exact (hvalid ..).trans (hcurves i hi)
    | station => exact (hvalid ..).trans hstation
    | gates => exact (hvalid ..).trans hgates
    | groups => exact (hvalid ..).trans hgroups
    | channels => exact (hvalid ..).trans hchannels
    | conditions => exact (hvalid ..).trans hconditions
    | ramp => exact (hvalid ..).trans hramp
    | _ => simp [Tables.required] at hid

/-- The lowest required table that is not VALID. -/
def Tables.missing (t : Tables) : Option TableId := t.required.find? (fun id => !t.valid id)

theorem Tables.missing_eq_none_iff : t.missing = none ↔ ∀ id ∈ t.required, t.valid id = true := by
  simp only [Tables.missing, List.find?_eq_none, Bool.not_eq_true', Bool.not_eq_false]

theorem Tables.missing_eq_some (h : t.missing = some id) :
    t.valid id = false ∧ id ∈ t.required ∧ ∀ j ∈ t.required, j.code < id.code → t.valid j = true := by
  obtain ⟨hid, front, rest, hl, hfront⟩ := List.find?_eq_some_iff_append.1 h
  have hasc : t.required.Pairwise (fun a b => a.code < b.code) := allTables_ascend.filter _
  refine ⟨Bool.not_eq_true' _ ▸ hid, hl ▸ List.mem_append_cons_self, fun j hj hlt => ?_⟩
  have hj : j ∈ front := mem_front_of_lt (hl ▸ hasc) (hl ▸ hj) hlt
  simpa only [Bool.not_not] using hfront j hj

/-! ## Shared drive addresses (R164) -/

theorem Tables.inServiceGates_ascend (t : Tables) : t.inServiceGates.Pairwise (fun i j => i.val < j.val) :=
  allGates_ascend.filter _

theorem Tables.mem_sharers : j ∈ t.sharers i ↔
    (t.gateCfg j).inService = true ∧ j ≠ i ∧ (t.gateCfg j).driveAddress = (t.gateCfg i).driveAddress := by
  simp only [Tables.sharers, List.mem_filter, Tables.mem_inServiceGates, Bool.and_eq_true, bne_iff_ne, beq_iff_eq]

theorem Tables.sharers_eq_nil_iff : t.sharers i = [] ↔
    ∀ j, i ≠ j → (t.gateCfg j).inService = true → (t.gateCfg i).driveAddress ≠ (t.gateCfg j).driveAddress := by
  simp only [List.eq_nil_iff_forall_not_mem, Tables.mem_sharers]
  exact ⟨fun h j hij hj heq => h j ⟨hj, hij.symm, heq.symm⟩, fun h j ⟨hj, hji, heq⟩ => h j hji.symm hj heq.symm⟩

theorem Tables.sharedAddress_eq_none_iff : t.sharedAddress = none ↔
    ∀ i, (t.gateCfg i).inService = true → t.sharers i = [] := by
  simp only [Tables.sharedAddress, List.findSome?_eq_none_iff, Tables.mem_inServiceGates, Option.map_eq_none_iff,
    List.head?_eq_none_iff]

/-- The pair found: the lowest gate with a sharer, with its lowest sharer. -/
theorem Tables.sharedAddress_eq_some (h : t.sharedAddress = some (i, j)) :
    (t.gateCfg i).inService = true ∧ j ∈ t.sharers i ∧
    (∀ k, k < i → (t.gateCfg k).inService = true → t.sharers k = []) ∧ ∀ k ∈ t.sharers i, ¬k < j := by
  obtain ⟨front, a, rest, hl, ha, hfront⟩ := List.findSome?_eq_some_iff.1 h
  obtain ⟨b, hb, hab⟩ := Option.map_eq_some_iff.1 ha
  obtain ⟨rfl, rfl⟩ := Prod.mk.inj hab
  obtain ⟨others, hsharers⟩ := List.head?_eq_some_iff.1 hb
  have hasc : (t.sharers a).Pairwise (fun i j => i.val < j.val) := t.inServiceGates_ascend.filter _
  refine ⟨Tables.mem_inServiceGates.1 (hl ▸ List.mem_append_cons_self), hsharers ▸ List.mem_cons_self,
    fun k hk hserv => ?_, fun k hk hlt => ?_⟩
  · have hk : k ∈ front := mem_front_of_lt (hl ▸ t.inServiceGates_ascend) (hl ▸ Tables.mem_inServiceGates.2 hserv) hk
    exact List.head?_eq_none_iff.1 (Option.map_eq_none_iff.1 (hfront k hk))
  · have hnone : k ∈ [] := mem_front_of_lt (front := []) (hsharers ▸ hasc) (hsharers ▸ hk) hlt
    exact absurd hnone List.not_mem_nil

/-- Sharing goes both ways, so the pair found ascends. -/
theorem Tables.sharedAddress_lt (h : t.sharedAddress = some (i, j)) : i < j := by
  obtain ⟨hi, hj, hbefore, -⟩ := Tables.sharedAddress_eq_some h
  obtain ⟨hserv, hne, haddr⟩ := Tables.mem_sharers.1 hj
  refine lt_of_le_of_ne (le_of_not_gt fun hlt => ?_) hne.symm
  exact Tables.sharers_eq_nil_iff.1 (hbefore j hlt hserv) i hne hi haddr

/-! ## FILL gates (R164) -/

/-- The first gate of a VALID FILL table that is not in service. -/
def Tables.idleFillGate (t : Tables) : Option (Fin 16) :=
  (t.fill.active.get?.getD []).find? (fun i => !(t.gateCfg i).inService)

theorem Tables.idleFillGate_eq_none_iff :
    t.idleFillGate = none ↔ ∀ l, t.fill.active = .valid l → ∀ i ∈ l, (t.gateCfg i).inService = true := by
  cases h : t.fill.active <;> simp [Tables.idleFillGate, h, TableSlot.get?]

theorem Tables.idleFillGate_eq_some (h : t.idleFillGate = some g) : (t.gateCfg g).inService = false ∧
    ∃ front rest, t.fill.active = .valid (front ++ g :: rest) ∧ ∀ i ∈ front, (t.gateCfg i).inService = true := by
  cases hfill : t.fill.active with
  | valid l =>
    simp only [Tables.idleFillGate, hfill, TableSlot.get?, Option.getD_some] at h
    obtain ⟨hg, front, rest, rfl, hfront⟩ := List.find?_eq_some_iff_append.1 h
    simp only [Bool.not_not] at hfront
    exact ⟨Bool.not_eq_true' _ ▸ hg, front, rest, rfl, hfront⟩
  | _ => simp [Tables.idleFillGate, hfill, TableSlot.get?] at h

/-! ## The entry check (R164) -/

/-- The checks in their order: the first that finds something gives the reason. -/
theorem Tables.entryCheck_eq (t : Tables) : t.entryCheck =
    (t.missing.map .table).or ((t.sharedAddress.map (fun p => .sharedAddress p.1 p.2)).or (t.idleFillGate.map .fillGate)) := by
  unfold Tables.entryCheck Tables.missing
  cases t.required.find? (fun id => !t.valid id) with
  | some id => rfl
  | none =>
    cases t.sharedAddress with
    | some p => rfl
    | none => cases h : t.fill.active <;> simp [Tables.idleFillGate, h, TableSlot.get?]

theorem Tables.entryCheck_eq_none_iff :
    t.entryCheck = none ↔ t.missing = none ∧ t.sharedAddress = none ∧ t.idleFillGate = none := by
  simp only [Tables.entryCheck_eq, Option.or_eq_none_iff, Option.map_eq_none_iff]

theorem Tables.entryCheck_eq_table_iff : t.entryCheck = some (.table id) ↔ t.missing = some id := by
  simp [Tables.entryCheck_eq, Option.or_eq_some_iff]

theorem Tables.entryCheck_eq_sharedAddress_iff :
    t.entryCheck = some (.sharedAddress i j) ↔ t.missing = none ∧ t.sharedAddress = some (i, j) := by
  simp [Tables.entryCheck_eq, Option.or_eq_some_iff]

theorem Tables.entryCheck_eq_fillGate_iff :
    t.entryCheck = some (.fillGate g) ↔ t.missing = none ∧ t.sharedAddress = none ∧ t.idleFillGate = some g := by
  simp [Tables.entryCheck_eq, Option.or_eq_some_iff]

end

/-- Settles O42: the three searches in order, and what each one finds. -/
theorem entryChecksNameTheFirstFailure : Obligations.EntryChecksNameTheFirstFailure := by
  intro t
  refine ⟨?_, fun id h => ?_, fun i j h => ?_, fun g h => ?_⟩
  · have hshared : t.sharedAddress = none ↔ ∀ i j, i ≠ j → (t.gateCfg i).inService = true → (t.gateCfg j).inService = true →
        (t.gateCfg i).driveAddress ≠ (t.gateCfg j).driveAddress := by
      simp only [Tables.sharedAddress_eq_none_iff, Tables.sharers_eq_nil_iff]
      exact ⟨fun h i j hij hi => h i hi j hij, fun h i hi j hij => h i j hij hi⟩
    rw [Tables.entryCheck_eq_none_iff, Tables.missing_eq_none_iff, Tables.required_valid_iff, hshared,
      Tables.idleFillGate_eq_none_iff]
    simp only [and_assoc]
  · exact Tables.missing_eq_some (Tables.entryCheck_eq_table_iff.1 h)
  · obtain ⟨hmissing, hpair⟩ := Tables.entryCheck_eq_sharedAddress_iff.1 h
    obtain ⟨hi, hj, hbefore, hlowest⟩ := Tables.sharedAddress_eq_some hpair
    obtain ⟨hserv, -, haddr⟩ := Tables.mem_sharers.1 hj
    refine ⟨Tables.missing_eq_none_iff.1 hmissing, Tables.sharedAddress_lt hpair, hi, hserv, haddr.symm,
      fun k l hki hkl hk => ?_, fun k hkj hki hk heq => ?_⟩
    · exact Tables.sharers_eq_nil_iff.1 (hbefore k hki hk) l hkl
    · exact hlowest k (Tables.mem_sharers.2 ⟨hk, hki, heq⟩) hkj
  · obtain ⟨hmissing, hshared, hidle⟩ := Tables.entryCheck_eq_fillGate_iff.1 h
    exact ⟨Tables.missing_eq_none_iff.1 hmissing, hshared, Tables.idleFillGate_eq_some hidle⟩

end Sys2Proof.Machine
end

section
/-! What the Condition Unit and Port L keep within an event (chapters 9 and 10): each operation on them is calm, in that it fills no queue
beyond what the hand-off test allows and leaves the notice queue in order. The invariants of the notices and of the port queues rest on it. -/

namespace Sys2Proof.Machine

/-! ## The order of the notice queue (R142) -/

/-- The notice queue is in order, of latched records, one for each (R142): `State.NoticesOk` as it speaks of the desk alone. -/
def Desk.NoticesOk (d : Desk) : Prop :=
  d.notices.length ≤ 16 ∧ d.notices.Pairwise (fun a b => b.level ≤ a.level) ∧ (d.notices.map (·.cond)).Nodup ∧
  ∀ e ∈ d.notices, e.cond ≠ .noticeLost ∧ (d.record e.cond).latched = true

theorem State.noticesOk_iff (s : State) : s.NoticesOk ↔ s.desk.NoticesOk := Iff.rfl

/-- Notices that leave the queue, and records that are latched besides, leave it in order. -/
theorem Desk.NoticesOk.mono {d d' : Desk} (h : d.NoticesOk) (hs : d'.notices.Sublist d.notices)
    (hl : ∀ e ∈ d'.notices, (d.record e.cond).latched = true → (d'.record e.cond).latched = true) : d'.NoticesOk := by
  obtain ⟨hlen, hsort, hnodup, hrec⟩ := h
  refine ⟨hs.length_le.trans hlen, hsort.sublist hs, hnodup.sublist (hs.map _), fun e he => ?_⟩
  obtain ⟨hlost, hlatched⟩ := hrec e (hs.subset he)
  exact ⟨hlost, hl e he hlatched⟩

/-- A new entry of a latched record that has none waiting keeps the order where there is room (R142). -/
theorem Desk.NoticesOk.insert {d : Desk} {e : NoticeEntry} (h : d.NoticesOk) (hroom : d.notices.length < 16)
    (hnew : e.cond ∉ d.notices.map (·.cond)) (hlost : e.cond ≠ .noticeLost) (hlatched : (d.record e.cond).latched = true) :
    Desk.NoticesOk { d with notices := insertNotice e d.notices } := by
  obtain ⟨-, hsort, hnodup, hrec⟩ := h
  have hperm := insertNotice_perm e d.notices
  refine ⟨?_, insertNotice_sorted e hsort, ?_, fun x hx => ?_⟩
  · rw [hperm.length_eq]
    exact hroom
  · rw [(hperm.map _).nodup_iff]
    exact List.nodup_cons.2 ⟨hnew, hnodup⟩
  · obtain rfl | hx := List.mem_cons.1 (hperm.mem_iff.1 hx)
    · exact ⟨hlost, hlatched⟩
    · exact hrec x hx

theorem Desk.handOff_sublist (d : Desk) : d.handOff.notices.Sublist d.notices := by
  obtain ⟨n, hn⟩ := handOff_drops d.records d.notices d.portL
  exact (congrArg (List.Sublist · d.notices) hn).mpr (List.drop_sublist n _)

/-- NOTICE_LOST raised latches one record more at most. -/
theorem Desk.raiseNoticeLost_latched {d : Desk} {c : Cond} (now : Tick) (h : (d.record c).latched = true) :
    ((d.raiseNoticeLost now).record c).latched = true := by
  by_cases hc : c = .noticeLost
  · subst hc
    simp [Desk.raiseNoticeLost, CondRecord.raised, h]
  · rwa [Desk.raiseNoticeLost, Desk.record_setRecord_ne _ _ hc]

theorem Desk.NoticesOk.placeNotice {d : Desk} {e : NoticeEntry} (now : Tick) (h : d.NoticesOk)
    (hnew : e.cond ∉ d.notices.map (·.cond)) (hlost : e.cond ≠ .noticeLost) (hlatched : (d.record e.cond).latched = true) :
    (d.placeNotice now e).NoticesOk := by
  have handed {d' : Desk} (h' : d'.NoticesOk) : d'.handOff.NoticesOk := h'.mono d'.handOff_sublist (fun _ _ hl => hl)
  have lost {d' : Desk} (h' : d'.NoticesOk) : (d'.raiseNoticeLost now).NoticesOk :=
    h'.mono (List.Sublist.refl _) (fun _ _ hl => Desk.raiseNoticeLost_latched now hl)
  unfold Desk.placeNotice
  split
  · exact handed (h.insert ‹_› hnew hlost hlatched)
  · split
    · exact h
    next last hlast =>
      split
      · have hdrop : Desk.NoticesOk { d with notices := d.notices.dropLast } :=
          h.mono (List.dropLast_sublist _) (fun _ _ hl => hl)
        refine handed (lost (hdrop.insert ?_ ?_ hlost hlatched))
        · have := h.1
          have hne : d.notices ≠ [] := by rintro h0; simp [h0] at hlast
          have hpos := List.length_pos_iff.2 hne
          simp only [List.length_dropLast]
          omega
        · exact fun hm => hnew (((List.dropLast_sublist _).map _).subset hm)
      · exact lost h

theorem Desk.NoticesOk.raise {d : Desk} (h : d.NoticesOk) (e : RaiseEnv) (c : Cond) : (d.raise e c).NoticesOk := by
  cases hc : (d.record c).latched with
  | true =>
    rw [Desk.raise_of_latched e hc]
    refine h.mono (List.Sublist.refl _) (fun x _ hx => ?_)
    by_cases hxc : x.cond = c
    · rw [hxc, Desk.record_setRecord]
      exact hc
    · rwa [Desk.record_setRecord_ne _ _ hxc]
  | false =>
    rw [Desk.raise_of_unlatched e hc]
    set latched := d.setRecord c { active := true, latched := true, firstSet := some e.now } with hd
    have hok : latched.NoticesOk := h.mono (List.Sublist.refl _) (fun x _ hx => by
      by_cases hxc : x.cond = c
      · rw [hxc, hd, Desk.record_setRecord]
      · rwa [hd, Desk.record_setRecord_ne _ _ hxc])
    have hnew : c ∉ latched.notices.map (·.cond) := fun hm => by
      obtain ⟨x, hx, rfl⟩ := List.mem_map.1 hm
      obtain ⟨-, -, -, hrec⟩ := h
      exact Bool.false_ne_true (hc.symm.trans (hrec x hx).2)
    unfold Desk.offer
    dsimp only
    split
    · exact hok
    next hlost =>
      split
      · exact hok.placeNotice e.now hnew hlost (by rw [hd, Desk.record_setRecord])
      · exact hok

/-! ## Calm operations -/

/-- What an operation within an event keeps of Port L: the general queue does not grow, and stays as it is while a frame is being sent; the own
queue grows to 6 frames at most (R144); no frame is dropped, and the SAVE place stays. -/
structure PortL.Calm (p p' : PortL) : Prop where
  general : p'.general.length ≤ p.general.length
  own : p'.ownTotal ≤ max 6 p.ownTotal
  savePlace : p'.savePlace = p.savePlace
  dropped : p'.dropped = p.dropped
  busy : p.sending.isSome = true → p'.sending = p.sending ∧ p'.general = p.general

theorem PortL.Calm.refl (p : PortL) : p.Calm p := ⟨le_rfl, le_max_right .., rfl, rfl, fun _ => ⟨rfl, rfl⟩⟩

theorem PortL.Calm.trans {a b c : PortL} (hab : a.Calm b) (hbc : b.Calm c) : a.Calm c where
  general := hbc.general.trans hab.general
  own := by
    have := hab.own
    have := hbc.own
    omega
  savePlace := hbc.savePlace.trans hab.savePlace
  dropped := hbc.dropped.trans hab.dropped
  busy h := by
    obtain ⟨hsending, hgeneral⟩ := hab.busy h
    obtain ⟨hsending', hgeneral'⟩ := hbc.busy (hsending ▸ h)
    exact ⟨hsending'.trans hsending, hgeneral'.trans hgeneral⟩

/-- What an operation within an event keeps of the desk: Port L is calm, and the notices stay in order. -/
structure Desk.Calm (d d' : Desk) : Prop where
  port : d.portL.Calm d'.portL
  notices : d.NoticesOk → d'.NoticesOk

theorem Desk.Calm.refl (d : Desk) : d.Calm d := ⟨.refl _, id⟩

theorem Desk.Calm.trans {a b c : Desk} (hab : a.Calm b) (hbc : b.Calm c) : a.Calm c :=
  ⟨hab.port.trans hbc.port, hbc.notices ∘ hab.notices⟩

/-- A change to the records that keeps every latch is calm. -/
theorem Desk.Calm.of_latched {d d' : Desk} (hp : d'.portL = d.portL) (hn : d'.notices = d.notices)
    (hl : ∀ c, (d'.record c).latched = (d.record c).latched) : d.Calm d' where
  port := hp ▸ .refl _
  notices h := h.mono (hn ▸ List.Sublist.refl _) (fun e _ he => (hl e.cond).trans he)

/-- A change to Port L alone is calm where it is so there. -/
theorem Desk.Calm.of_port {d : Desk} {p : PortL} (h : d.portL.Calm p) : d.Calm { d with portL := p } := ⟨h, id⟩

theorem Desk.clearAll_calm (d : Desk) (l : List Cond) : d.Calm (d.clearAll l) := by
  obtain ⟨hn, hp, -⟩ := d.clearAll_spec l
  exact .of_latched hp hn (d.clearAll_latched l)

theorem Desk.clear_calm (d : Desk) (c : Cond) : d.Calm (d.clear c) := d.clearAll_calm [c]

theorem PortL.start_calm (p : PortL) : p.Calm p.start := by
  obtain ⟨hown, hgeneral, hplace⟩ := p.start_lengths
  refine ⟨hgeneral, by simp only [PortL.ownTotal, hplace]; omega, hplace, ?_, fun h => ?_⟩
  · unfold PortL.start
    split
    · rfl
    · split
      · rfl
      · split <;> rfl
  · obtain ⟨x, hx⟩ := Option.isSome_iff_exists.1 h
    simp [PortL.start, hx]

theorem handOff_calm (records : Vector CondRecord 120) (l : List NoticeEntry) (p : PortL) : p.Calm (handOff records l p).2 := by
  induction l generalizing p with
  | nil => exact .refl p
  | cons e r ih =>
    unfold handOff
    split
    next hroom =>
      refine PortL.Calm.trans ?_ (ih _)
      have h := PortL.start_calm { p with own := p.own ++ [noticeFrame e records[e.cond.number]] }
      have htotal := p.pushOwn_ownTotal (noticeFrame e records[e.cond.number])
      exact ⟨h.general, by omega, h.savePlace, h.dropped, h.busy⟩
    · exact .refl p

theorem Desk.handOff_calm (d : Desk) : d.Calm d.handOff where
  port := Machine.handOff_calm ..
  notices h := h.mono d.handOff_sublist (fun _ _ hl => hl)

theorem Desk.start_calm (d : Desk) : d.Calm { d with portL := d.portL.start } := .of_port d.portL.start_calm

theorem Desk.kick_calm (d : Desk) : d.Calm d.kick := by
  unfold Desk.kick
  split
  · exact d.start_calm.trans (Desk.handOff_calm _)
  · exact d.start_calm
  · exact .refl d

theorem Desk.placeNotice_port (d : Desk) (now : Tick) (e : NoticeEntry) : d.portL.Calm (d.placeNotice now e).portL := by
  have handed {d' : Desk} (hp : d'.portL = d.portL) : d.portL.Calm d'.handOff.portL := hp ▸ d'.handOff_calm.port
  unfold Desk.placeNotice
  split
  · exact handed rfl
  · split
    · exact .refl _
    · split
      · exact handed rfl
      · exact .refl _

theorem Desk.raise_calm (d : Desk) (e : RaiseEnv) (c : Cond) : d.Calm (d.raise e c) := by
  refine ⟨?_, fun h => h.raise e c⟩
  unfold Desk.raise Desk.offer
  dsimp only
  split
  · exact .refl _
  · split
    · exact .refl _
    · split
      · exact (d.setRecord c ((d.record c).raised e.now)).placeNotice_port ..
      · exact .refl _

/-- An acknowledgement takes the notice of its record with the latch (R145). -/
theorem Desk.acknowledge_calm (d : Desk) (c : Cond) : d.Calm (d.acknowledge c) where
  port := .refl _
  notices h := h.mono List.filter_sublist (fun e he hl => by
    have hne : e.cond ≠ c := of_decide_eq_true (List.mem_filter.1 he).2
    exact (congrArg CondRecord.latched (d.record_setRecord_ne _ hne)).trans hl)

/-! ## Frames that join a queue of Port L -/

/-- A frame of the part adds one to what the own queue holds, beside what a hand-off may add (R154). -/
theorem Desk.pushOwn_spec (d : Desk) (f : BusFrame) :
    (d.pushOwn f).portL.general.length ≤ d.portL.general.length ∧
    (d.pushOwn f).portL.ownTotal ≤ max 6 (d.portL.ownTotal + 1) ∧
    (d.pushOwn f).portL.savePlace = d.portL.savePlace ∧ (d.NoticesOk → (d.pushOwn f).NoticesOk) := by
  have h := Desk.kick_calm { d with portL := { d.portL with own := d.portL.own ++ [f] } }
  have htotal : ({ d.portL with own := d.portL.own ++ [f] } : PortL).ownTotal = d.portL.ownTotal + 1 := by
    simp only [PortL.ownTotal, List.length_append, List.length_singleton]
    omega
  exact ⟨h.port.general, htotal ▸ h.port.own, h.port.savePlace, h.notices⟩

/-- A forwarded frame never brings the general queue above its 8 places (R152). -/
theorem Desk.forward_spec (d : Desk) (f : BusFrame) :
    (d.portL.general.length ≤ 8 → (d.forward f).portL.general.length ≤ 8) ∧
    (d.forward f).portL.ownTotal ≤ max 6 d.portL.ownTotal ∧
    (d.forward f).portL.savePlace = d.portL.savePlace ∧ (d.NoticesOk → (d.forward f).NoticesOk) := by
  unfold Desk.forward
  split
  · exact ⟨id, le_max_right .., rfl, id⟩
  next hroom =>
    have h := Desk.kick_calm { d with portL := { d.portL with general := d.portL.general ++ [f] } }
    refine ⟨fun _ => h.port.general.trans ?_, h.port.own, h.port.savePlace, h.notices⟩
    rw [List.length_append, List.length_singleton]
    omega

end Sys2Proof.Machine
end

section
/-! What the operations of the Gate Sequencer and the Group Arbiter can do to the gates and to Port F (chapters 1 and 2). Grants and
early-lock requests let gates drift; an operation of one gate acts on that gate, and lets the others drift at most. -/

namespace Sys2Proof.Machine

/-! ## Port F (R152, R153) -/

/-- What an operation keeps of Port F: the general queue does not grow, and no gate has two frames in the drive queue. -/
structure PortF.Calm (p p' : PortF) : Prop where
  general : p'.general.length ≤ p.general.length
  drive : (p.drive.map (·.gate)).Nodup → (p'.drive.map (·.gate)).Nodup

theorem PortF.Calm.refl (p : PortF) : p.Calm p := ⟨le_rfl, id⟩

theorem PortF.Calm.trans {a b c : PortF} (hab : a.Calm b) (hbc : b.Calm c) : a.Calm c :=
  ⟨hbc.general.trans hab.general, hbc.drive ∘ hab.drive⟩

theorem PortF.start_drive (p : PortF) : p.start.drive.Sublist p.drive := by
  cases hs : p.sending <;> cases hd : p.drive <;> cases hg : p.general <;> simp [PortF.start, hs, hd, hg]

theorem PortF.start_calm (p : PortF) : p.Calm p.start :=
  ⟨p.start_lengths.1, fun h => h.sublist (p.start_drive.map _)⟩

/-- A start takes no frame that did not wait. -/
theorem PortF.start_carries_iff (p : PortF) (x : DriveEntry) : p.start.Carries x ↔ p.Carries x := by
  refine ⟨fun h => ?_, PortF.start_carries⟩
  unfold PortF.Carries PortF.start at *
  cases hs : p.sending <;> cases hd : p.drive <;> cases hg : p.general <;> simp_all <;> tauto

theorem placeDrive_nodup (e : DriveEntry) {l : List DriveEntry} (h : (l.map (·.gate)).Nodup) :
    ((placeDrive e l).map (·.gate)).Nodup := by
  rw [placeDrive_gates]
  split
  · exact h
  next hnew => exact List.nodup_append.2 ⟨h, by simp, fun a ha b hb => by
      obtain rfl := List.mem_singleton.1 hb
      exact fun hab => hnew (hab ▸ ha)⟩

/-- A frame placed brings no frame of another gate into the queue. -/
theorem mem_of_mem_placeDrive {e x : DriveEntry} {l : List DriveEntry} (hx : x ∈ placeDrive e l) (h : x.gate ≠ e.gate) :
    x ∈ l := by
  induction l with
  | nil => exact absurd (congrArg DriveEntry.gate (List.mem_singleton.1 hx)) h
  | cons a r ih =>
    unfold placeDrive at hx
    split at hx
    · obtain rfl | hr := List.mem_cons.1 hx
      · exact absurd rfl h
      · exact List.mem_cons_of_mem a hr
    · obtain rfl | hr := List.mem_cons.1 hx
      · exact List.mem_cons_self
      · exact List.mem_cons_of_mem a (ih hr)

theorem Yard.issue_calm (e : YardEnv) (i : Fin 16) (c : DriveCommand) (n : Nat) (y : Yard) :
    y.portF.Calm (Yard.issue e i c n y).portF := by
  have placed : y.portF.Calm { y.portF with
      drive := placeDrive { gate := i, frame := driveFrame (e.cfg i).driveAddress c n } y.portF.drive } :=
    ⟨le_rfl, placeDrive_nodup _⟩
  exact placed.trans (PortF.start_calm _)

theorem Yard.issue_carries_iff (e : YardEnv) {i : Fin 16} (c : DriveCommand) (n : Nat) (y : Yard) {x : DriveEntry}
    (hx : x.gate ≠ i) : (Yard.issue e i c n y).portF.Carries x ↔ y.portF.Carries x := by
  refine ⟨fun h => ?_, fun h => Yard.issue_keeps e i c n y h hx⟩
  exact ((PortF.start_carries_iff _ _).1 h).imp (fun hm => mem_of_mem_placeDrive hm hx) id

/-! ## Drift: what grants and early-lock requests do to a gate (R12, R15, R40) -/

/-- The record of a gate that has taken a grant (R12). -/
def Gate.granted (e : YardEnv) (i : Fin 16) (g : Gate) : Gate :=
  { g with
    state := .unlocking, lastUnlock := some e.now, lastMoveEnd := none, earlyLock := false, trimCount := 0
    stateTimer := some (e.now + (e.cfg i).tUL), reportSinceGrant := false }

/-- What grants and early-lock requests can do to the record of a gate: nothing, a grant taken in WAIT_GRANT, or an early lock in FREE with
no motion pending. -/
inductive Gate.Drift (e : YardEnv) (i : Fin 16) (g : Gate) : Gate → Prop
  | same : Gate.Drift e i g g
  | granted (hs : g.state = .waitGrant) : Gate.Drift e i g (g.granted e i)
  | early (hs : g.state = .free) (hp : g.pending = false) (t : Tick) :
      Gate.Drift e i g { g with earlyLock := true, stateTimer := some t }

theorem Gate.Drift.trans {e : YardEnv} {i : Fin 16} {a b c : Gate} (hab : Gate.Drift e i a b) (hbc : Gate.Drift e i b c) :
    Gate.Drift e i a c := by
  cases hab with
  | same => exact hbc
  | granted hs =>
    cases hbc with
    | same => exact .granted hs
    | granted h => exact absurd h (by simp [Gate.granted])
    | early h => exact absurd h (by simp [Gate.granted])
  | early hs hp t =>
    cases hbc with
    | same => exact .early hs hp t
    | granted h => exact absurd (hs.symm.trans h) (by decide)
    | early _ _ u => exact .early hs hp u

section
variable {e : YardEnv} {i : Fin 16} {g g' : Gate} (h : Gate.Drift e i g g')
include h

theorem Gate.Drift.slot : g'.slot = g.slot := by cases h <;> rfl
theorem Gate.Drift.standing : g'.standing = g.standing := by cases h <;> rfl
theorem Gate.Drift.commanded : g'.commanded = g.commanded := by cases h <;> rfl
theorem Gate.Drift.target : g'.target = g.target := by cases h <;> rfl
theorem Gate.Drift.lockAfter : g'.lockAfter = g.lockAfter := by cases h <;> rfl
theorem Gate.Drift.priority : g'.priority = g.priority := by cases h <;> rfl
theorem Gate.Drift.pending : g'.pending = g.pending := by cases h <;> rfl
theorem Gate.Drift.position : g'.position = g.position := by cases h <;> rfl
theorem Gate.Drift.positionAtLock : g'.positionAtLock = g.positionAtLock := by cases h <;> rfl

/-- The state of a gate out of WAIT_GRANT does not drift. -/
theorem Gate.Drift.state (hs : g.state ≠ .waitGrant) : g'.state = g.state := by
  cases h with
  | same => rfl
  | granted hw => exact absurd hw hs
  | early hf => rfl

/-- The record of a gate in neither WAIT_GRANT nor FREE does not drift. -/
theorem Gate.Drift.eq (hs : g.state ≠ .waitGrant) (hf : g.state ≠ .free) : g' = g := by
  cases h with
  | same => rfl
  | granted hw => exact absurd hw hs
  | early hfree => exact absurd hfree hf

end

/-- Every gate drifts at most, and only gates in WAIT_GRANT are sent frames. -/
structure Yard.Drifts (e : YardEnv) (y y' : Yard) : Prop where
  gate : ∀ i, Gate.Drift e i (y.gate i) (y'.gate i)
  port : y.portF.Calm y'.portF
  carries : ∀ x : DriveEntry, (y.gate x.gate).state ≠ .waitGrant → (y'.portF.Carries x ↔ y.portF.Carries x)

section
variable {e : YardEnv}

theorem Yard.Drifts.of_eq {y y' : Yard} (hg : y'.gates = y.gates) (hp : y'.portF = y.portF) : Yard.Drifts e y y' where
  gate i := by
    have h : y'.gate i = y.gate i := congrArg (fun v : Vector Gate 16 => v[i]) hg
    exact h ▸ .same
  port := hp ▸ .refl _
  carries x _ := by rw [hp]

theorem Yard.Drifts.refl (y : Yard) : Yard.Drifts e y y := .of_eq rfl rfl

theorem Yard.Drifts.trans {a b c : Yard} (hab : Yard.Drifts e a b) (hbc : Yard.Drifts e b c) : Yard.Drifts e a c where
  gate i := (hab.gate i).trans (hbc.gate i)
  port := hab.port.trans hbc.port
  carries x hx := by
    have hx' : (b.gate x.gate).state ≠ .waitGrant := by rwa [(hab.gate x.gate).state hx]
    exact (hbc.carries x hx').trans (hab.carries x hx)

theorem Yard.earlyLockRequest_drifts (i : Fin 16) (y : Yard) : Yard.Drifts e y (Yard.earlyLockRequest e i y) where
  gate j := by
    obtain h | ⟨hs, hp, t, h⟩ := Yard.earlyLockRequest_gate e i j y
    · exact h ▸ .same
    · exact h ▸ .early hs hp t
  port := Yard.earlyLockRequest_portF e i y ▸ .refl _
  carries x _ := by rw [Yard.earlyLockRequest_portF]

theorem Yard.earlyLockTest_drifts (k : Fin 4) (y : Yard) : Yard.Drifts e y (Yard.earlyLockTest e k y) where
  gate j := by
    obtain h | ⟨hs, hp, t, h⟩ := Yard.earlyLockTest_gate e k y j
    · exact h ▸ .same
    · exact h ▸ .early hs hp t
  port := Yard.earlyLockTest_portF e k y ▸ .refl _
  carries x _ := by rw [Yard.earlyLockTest_portF]

theorem Yard.takeGrant_drifts {i : Fin 16} {y : Yard} (h : (y.gate i).state = .waitGrant) :
    Yard.Drifts e y (Yard.takeGrant e i y) where
  gate j := by
    by_cases hj : j = i
    · subst hj
      exact Yard.takeGrant_gate e j y ▸ .granted h
    · exact Yard.takeGrant_gate_ne e y hj ▸ .same
  port := Yard.issue_calm ..
  carries x hx := Yard.issue_carries_iff e _ _ _ (fun hxi => hx (hxi ▸ h))

theorem Yard.tellGranted_drifts {i : Fin 16} {y : Yard} (h : (y.gate i).state = .waitGrant) :
    Yard.Drifts e y (Yard.tellGranted e i y) := by
  obtain ⟨-, hg⟩ | ⟨-, hg⟩ := Yard.tellGranted_spec e i y <;> rw [hg]
  · exact .of_eq rfl rfl
  · exact Yard.takeGrant_drifts h

theorem Yard.setGroup_drifts (k : Fin 4) (g : Group) (y : Yard) : Yard.Drifts e y (y.setGroup k g) := .of_eq rfl rfl

theorem Yard.grantChecks_drifts (k : Fin 4) (n : Nat) (y : Yard) : Yard.Drifts e y (Yard.grantChecks e k n y) := by
  induction n generalizing y with
  | zero => exact Yard.earlyLockTest_drifts k y
  | succ n ih =>
    unfold Yard.grantChecks
    dsimp only
    split
    · exact .refl y
    · split
      · split
        · exact (Yard.setGroup_drifts ..).trans ((Yard.tellGranted_drifts (by simpa)).trans (ih _))
        · exact (Yard.setGroup_drifts ..).trans (ih _)
      · exact Yard.earlyLockTest_drifts k y

theorem Yard.grantCheck_drifts (k : Fin 4) (y : Yard) : Yard.Drifts e y (Yard.grantCheck e k y) :=
  Yard.grantChecks_drifts ..

theorem Yard.idleSignal_drifts (i : Fin 16) (y : Yard) : Yard.Drifts e y (Yard.idleSignal e i y) := by
  unfold Yard.idleSignal
  split
  · exact Yard.earlyLockRequest_drifts i y
  · exact .refl y

theorem Yard.join_drifts (i : Fin 16) (y : Yard) : Yard.Drifts e y (Yard.join e i y) :=
  (Yard.setGroup_drifts ..).trans (Yard.grantCheck_drifts ..)

theorem Yard.changePriority_drifts (i : Fin 16) (y : Yard) : Yard.Drifts e y (Yard.changePriority e i y) := by
  unfold Yard.changePriority
  dsimp only
  split
  · exact .refl y
  · split
    · exact .refl y
    · split
      · exact Yard.setGroup_drifts ..
      · exact (Yard.setGroup_drifts ..).trans (Yard.grantCheck_drifts ..)

theorem Yard.removeEntry_drifts (i : Fin 16) (y : Yard) : Yard.Drifts e y (Yard.removeEntry e i y) := by
  unfold Yard.removeEntry
  dsimp only
  split
  · exact (Yard.setGroup_drifts ..).trans (Yard.grantCheck_drifts ..)
  · exact Yard.setGroup_drifts ..

theorem Yard.releaseSlot_drifts (i : Fin 16) (y : Yard) : Yard.Drifts e y (Yard.releaseSlot e i y) :=
  (Yard.setGroup_drifts ..).trans (Yard.grantCheck_drifts ..)

theorem Yard.landGrant_drifts (i : Fin 16) (y : Yard) : Yard.Drifts e y (y.landGrant i) := .of_eq rfl rfl

theorem Yard.leaveQueue_drifts (i : Fin 16) (y : Yard) : Yard.Drifts e y (Yard.leaveQueue e i y) := by
  obtain ⟨-, h⟩ | ⟨-, h⟩ := Yard.leaveQueue_spec e i y <;> rw [h]
  · exact (Yard.landGrant_drifts ..).trans (Yard.releaseSlot_drifts ..)
  · exact Yard.removeEntry_drifts ..

theorem Yard.deliverGrant_drifts (i : Fin 16) (y : Yard) : Yard.Drifts e y (Yard.deliverGrant e i y) := by
  by_cases h : (y.gate i).state = .waitGrant
  · rw [Yard.deliverGrant_waiting e y h]
    exact (Yard.landGrant_drifts ..).trans (Yard.takeGrant_drifts (by simpa))
  · rw [Yard.deliverGrant_gone e y h]
    exact (Yard.landGrant_drifts ..).trans (Yard.releaseSlot_drifts ..)

end

/-! ## Operations of one gate -/

/-- An operation of gate `i`: the other gates drift at most, and keep the frames they were sent; the gate itself is given no order. -/
structure Yard.Acts (e : YardEnv) (i : Fin 16) (y y' : Yard) : Prop where
  others : ∀ j, j ≠ i → Gate.Drift e j (y.gate j) (y'.gate j)
  slot : (y'.gate i).slot.isSome = true → (y.gate i).slot.isSome = true
  port : y.portF.Calm y'.portF
  carries : ∀ x : DriveEntry, x.gate ≠ i → (y.gate x.gate).state ≠ .waitGrant → y.portF.Carries x → y'.portF.Carries x

section
variable {e : YardEnv} {i : Fin 16}

theorem Yard.Drifts.acts {y y' : Yard} (h : Yard.Drifts e y y') : Yard.Acts e i y y' where
  others j _ := h.gate j
  slot hs := by rwa [(h.gate i).slot] at hs
  port := h.port
  carries x _ hx := (h.carries x hx).2

theorem Yard.Acts.refl (y : Yard) : Yard.Acts e i y y := (Yard.Drifts.refl y).acts

theorem Yard.Acts.trans {a b c : Yard} (hab : Yard.Acts e i a b) (hbc : Yard.Acts e i b c) : Yard.Acts e i a c where
  others j hj := (hab.others j hj).trans (hbc.others j hj)
  slot := hab.slot ∘ hbc.slot
  port := hab.port.trans hbc.port
  carries x hi hx h := by
    have hx' : (b.gate x.gate).state ≠ .waitGrant := by rwa [(hab.others x.gate hi).state hx]
    exact hbc.carries x hi hx' (hab.carries x hi hx h)

theorem Yard.Acts.drifts {a b c : Yard} (hab : Yard.Acts e i a b) (hbc : Yard.Drifts e b c) : Yard.Acts e i a c :=
  hab.trans hbc.acts

theorem Yard.setGate_acts {g : Gate} {y : Yard} (h : g.slot.isSome = true → (y.gate i).slot.isSome = true) :
    Yard.Acts e i y (y.setGate i g) where
  others j hj := Yard.gate_setGate_ne y g hj ▸ .same
  slot hs := h (by rwa [Yard.gate_setGate] at hs)
  port := .refl _
  carries _ _ _ := id

/-- An operation that begins by a new record of its gate, with the order slot it had. -/
theorem Yard.Acts.after {g : Gate} {y y' : Yard} (h : Yard.Acts e i (y.setGate i g) y') (hs : g.slot = (y.gate i).slot) :
    Yard.Acts e i y y' :=
  (Yard.setGate_acts (by rw [hs]; exact id)).trans h

theorem Yard.issue_acts (c : DriveCommand) (n : Nat) (y : Yard) : Yard.Acts e i y (Yard.issue e i c n y) where
  others _ _ := .same
  slot := id
  port := Yard.issue_calm ..
  carries _ hi _ h := Yard.issue_keeps e i c n y h hi

theorem Yard.armLock_acts (y : Yard) : Yard.Acts e i y (Yard.armLock e i y) := Yard.setGate_acts id

theorem Yard.startRun_acts (toward : Nat) (y : Yard) : Yard.Acts e i y (Yard.startRun e i toward y) :=
  (Yard.issue_acts ..).after rfl

theorem Yard.startMove_acts (y : Yard) : Yard.Acts e i y (Yard.startMove e i y) := by
  unfold Yard.startMove
  dsimp only
  split
  · exact (Yard.issue_acts ..).after rfl
  · exact (Yard.startRun_acts ..).after rfl

theorem Yard.restFree_acts (y : Yard) : Yard.Acts e i y (Yard.restFree e i y) :=
  (Yard.armLock_acts y).drifts (Yard.idleSignal_drifts ..)

theorem Yard.testFree_acts (y : Yard) : Yard.Acts e i y (Yard.testFree e i y) := by
  unfold Yard.testFree
  dsimp only
  split
  · exact (Yard.startMove_acts _).after rfl
  · exact (Yard.restFree_acts _).after rfl

theorem Yard.enterFree_acts (y : Yard) : Yard.Acts e i y (Yard.enterFree e i y) :=
  (Yard.testFree_acts _).after rfl

theorem Yard.rest_acts (y : Yard) : Yard.Acts e i y (Yard.rest e i y) :=
  (Yard.restFree_acts _).after rfl

theorem Yard.endMove_acts (y : Yard) : Yard.Acts e i y (Yard.endMove e i y) := by
  unfold Yard.endMove
  dsimp only
  split
  · exact (Yard.rest_acts _).after rfl
  · exact (Yard.enterFree_acts _).after rfl

theorem Yard.stopRun_acts (y : Yard) : Yard.Acts e i y (Yard.stopRun e i y) :=
  (Yard.issue_acts ..).after rfl

theorem Yard.testLocked_acts (y : Yard) : Yard.Acts e i y (Yard.testLocked e i y) := by
  unfold Yard.testLocked
  dsimp only
  split
  · split
    · split
      · exact (Yard.join_drifts ..).acts.after rfl
      · exact Yard.setGate_acts id
    · exact (Yard.join_drifts ..).acts.after rfl
  · exact .refl y

theorem Yard.pendingLocked_acts (y : Yard) : Yard.Acts e i y (Yard.pendingLocked e i y) := by
  unfold Yard.pendingLocked
  dsimp only
  split
  · exact (Yard.testLocked_acts _).after rfl
  · exact Yard.setGate_acts id

theorem Yard.pendingWaiting_acts (y : Yard) : Yard.Acts e i y (Yard.pendingWaiting e i y) := by
  unfold Yard.pendingWaiting
  dsimp only
  split
  · exact (Yard.changePriority_drifts ..).acts.after rfl
  · exact (Yard.leaveQueue_drifts ..).acts.after rfl

theorem Gate.firstLockStanding_slot (g : Gate) : g.firstLockStanding.slot = g.slot := by
  unfold Gate.firstLockStanding
  split <;> rfl

theorem Yard.firstLock_acts (y : Yard) : Yard.Acts e i y (Yard.firstLock e i y) :=
  (Yard.pendingLocked_acts _).after (Gate.firstLockStanding_slot _)

theorem Yard.retargetWicket_acts (t : Nat) (y : Yard) : Yard.Acts e i y (Yard.retargetWicket e i t y) := by
  unfold Yard.retargetWicket
  dsimp only
  split
  · exact .refl y
  · split
    · exact (Yard.issue_acts ..).after rfl
    · exact Yard.setGate_acts id

theorem Yard.retargetSpill_acts (t : Nat) (y : Yard) : Yard.Acts e i y (Yard.retargetSpill e i t y) := by
  unfold Yard.retargetSpill
  dsimp only
  split
  · exact Yard.setGate_acts id
  · exact (Yard.stopRun_acts _).after rfl

theorem Yard.takeTarget_acts (t : Nat) (lockAfter : Bool) (p : Priority) (y : Yard) :
    Yard.Acts e i y (Yard.takeTarget e i t lockAfter p y) := by
  have taken : Yard.Acts e i y (y.setGate i { y.gate i with target := some t, lockAfter := lockAfter, priority := p }) :=
    Yard.setGate_acts id
  unfold Yard.takeTarget
  dsimp only
  split
  · exact taken.trans (Yard.pendingLocked_acts _)
  · exact taken.trans (Yard.pendingWaiting_acts _)
  · exact taken.trans (Yard.testFree_acts _)
  · split
    · exact taken.trans (Yard.retargetWicket_acts ..)
    · exact taken.trans (Yard.retargetSpill_acts ..)
  · exact taken.trans (Yard.setGate_acts (by simp))
  all_goals exact taken

/-- The record of a gate that enters FAULTED: its timers stop and its order slot is emptied (R24, R96). -/
def Gate.inFault (g : Gate) : Gate :=
  { g with state := .faulted, stateTimer := none, moveWatch := none, lagStart := none, lagReported := false, slot := none }

/-- The first steps of an entry to FAULTED: the record of the gate, and LOCK where it is due. -/
def Yard.faultGate (e : YardEnv) (i : Fin 16) (lock : Bool) (y : Yard) : Yard :=
  if lock then Yard.issue e i .lock 0 (y.setGate i (y.gate i).inFault) else y.setGate i (y.gate i).inFault

theorem Yard.enterFaulted_eq (lock : Bool) (y : Yard) : Yard.enterFaulted e i lock y =
    if (y.gate i).state = .waitGrant then Yard.leaveQueue e i (Yard.faultGate e i lock y)
    else if (y.gate i).state.holdsSlot then Yard.releaseSlot e i (Yard.faultGate e i lock y)
    else Yard.faultGate e i lock y := rfl

theorem Yard.faultGate_acts (lock : Bool) (y : Yard) : Yard.Acts e i y (Yard.faultGate e i lock y) := by
  have stopped : Yard.Acts e i y (y.setGate i (y.gate i).inFault) := Yard.setGate_acts (fun h => by cases h)
  unfold Yard.faultGate
  split
  · exact stopped.trans (Yard.issue_acts ..)
  · exact stopped

theorem Yard.enterFaulted_acts (lock : Bool) (y : Yard) : Yard.Acts e i y (Yard.enterFaulted e i lock y) := by
  rw [Yard.enterFaulted_eq]
  split
  · exact (Yard.faultGate_acts lock y).drifts (Yard.leaveQueue_drifts ..)
  · split
    · exact (Yard.faultGate_acts lock y).drifts (Yard.releaseSlot_drifts ..)
    · exact Yard.faultGate_acts lock y

/-- The setpoint and target that a freeze gives a gate: its reported position, clamped (R29). -/
def Gate.heldStill (c : GateCfg) (g : Gate) : Gate :=
  match g.state, g.position with
  | .unseen, _ => g
  | _, some p => { g with commanded := some (c.clamp p), target := some (c.clamp p) }
  | _, none => g

theorem Gate.heldStill_keeps (c : GateCfg) (g : Gate) : (g.heldStill c).slot = g.slot ∧ (g.heldStill c).standing = g.standing ∧
    (g.heldStill c).state = g.state := by
  unfold Gate.heldStill
  split <;> exact ⟨rfl, rfl, rfl⟩

theorem Yard.setGate_setGate (y : Yard) (i : Fin 16) (g g' : Gate) : (y.setGate i g).setGate i g' = y.setGate i g' := by
  simp only [Yard.setGate, Vector.set_set]

/-! The freeze of a gate by its state (R29). -/

theorem Yard.freezeGate_waiting {y : Yard} (h : (y.gate i).state = .waitGrant) : Yard.freezeGate e i y =
    y.setGate i { (y.gate i).heldStill (e.cfg i) with state := .locked, pending := false, stateTimer := none } := by
  unfold Yard.freezeGate Gate.heldStill
  simp only [h]
  cases (y.gate i).position <;> simp [h, Yard.setGate_setGate]

theorem Yard.freezeGate_locked {y : Yard} (h : (y.gate i).state = .locked) : Yard.freezeGate e i y =
    y.setGate i { (y.gate i).heldStill (e.cfg i) with
      pending := pendingTest (e.cfg i) ((y.gate i).heldStill (e.cfg i)).target ((y.gate i).heldStill (e.cfg i)).positionAtLock
      stateTimer := none } := by
  unfold Yard.freezeGate Gate.heldStill
  simp only [h]
  cases (y.gate i).position <;> simp [h, Yard.setGate_setGate]

theorem Yard.freezeGate_free {y : Yard} (h : (y.gate i).state = .free) : Yard.freezeGate e i y =
    Yard.armLock e i (y.setGate i { (y.gate i).heldStill (e.cfg i) with pending := false }) := by
  unfold Yard.freezeGate Gate.heldStill
  simp only [h]
  cases (y.gate i).position <;> simp [h, Yard.setGate_setGate]

theorem Yard.freezeGate_wicket {y : Yard} (h : (y.gate i).state = .moving) (hk : (e.cfg i).kind = .wicket) :
    Yard.freezeGate e i y =
      Yard.issue e i .move (((y.gate i).heldStill (e.cfg i)).target.getD 0)
        (y.setGate i { (y.gate i).heldStill (e.cfg i) with
          moveSetpoint := ((y.gate i).heldStill (e.cfg i)).target, moveWatch := some (e.now + (e.cfg i).moveTimeout) }) := by
  unfold Yard.freezeGate Gate.heldStill
  simp only [h]
  cases (y.gate i).position <;> simp [h, hk, Yard.setGate_setGate]

theorem Yard.freezeGate_spill {y : Yard} (h : (y.gate i).state = .moving) (hk : (e.cfg i).kind = .spill) :
    Yard.freezeGate e i y =
      Yard.stopRun e i (y.setGate i { (y.gate i).heldStill (e.cfg i) with trimCount := 2, pending := false }) := by
  unfold Yard.freezeGate Gate.heldStill
  simp only [h]
  cases (y.gate i).position <;> simp [h, hk, Yard.setGate_setGate]

theorem Yard.freezeGate_reversing {y : Yard} (h : (y.gate i).state = .reversing) : Yard.freezeGate e i y =
    y.setGate i { (y.gate i).heldStill (e.cfg i) with trimCount := 2, pending := false } := by
  unfold Yard.freezeGate Gate.heldStill
  simp only [h]
  cases (y.gate i).position <;> simp [h, Yard.setGate_setGate]

/-- Whether a freeze leaves a gate to go on as it was. -/
def GateState.goesOn : GateState → Bool
  | .unseen | .recovering | .unlocking | .locking | .faulted => true
  | .locked | .waitGrant | .free | .moving | .reversing => false

theorem Yard.freezeGate_other {y : Yard} (h : (y.gate i).state.goesOn = true) : Yard.freezeGate e i y =
    y.setGate i ((y.gate i).heldStill (e.cfg i)) := by
  unfold Yard.freezeGate Gate.heldStill
  cases hp : (y.gate i).position <;> cases hs : (y.gate i).state <;> simp_all [GateState.goesOn]

theorem Yard.freezeGate_acts (y : Yard) : Yard.Acts e i y (Yard.freezeGate e i y) := by
  obtain ⟨hslot, -⟩ := (y.gate i).heldStill_keeps (e.cfg i)
  cases hs : (y.gate i).state with
  | waitGrant => exact Yard.freezeGate_waiting hs ▸ Yard.setGate_acts (by rw [hslot]; exact id)
  | locked => exact Yard.freezeGate_locked hs ▸ Yard.setGate_acts (by rw [hslot]; exact id)
  | free => exact Yard.freezeGate_free hs ▸ (Yard.armLock_acts _).after hslot
  | moving =>
    cases hk : (e.cfg i).kind with
    | wicket => exact Yard.freezeGate_wicket hs hk ▸ (Yard.issue_acts ..).after hslot
    | spill => exact Yard.freezeGate_spill hs hk ▸ (Yard.stopRun_acts _).after hslot
  | reversing => exact Yard.freezeGate_reversing hs ▸ Yard.setGate_acts (by rw [hslot]; exact id)
  | unseen | recovering | unlocking | locking | faulted =>
    exact Yard.freezeGate_other (by rw [hs]; rfl) ▸ Yard.setGate_acts (by rw [hslot]; exact id)

theorem Yard.firstSeen_acts (r : Report) (y : Yard) : Yard.Acts e i y (Yard.firstSeen e i r y) := by
  unfold Yard.firstSeen
  dsimp only
  split
  · exact (Yard.issue_acts ..).after rfl
  · exact Yard.firstLock_acts y

theorem Yard.endCycle_acts (y : Yard) : Yard.Acts e i y (Yard.endCycle e i y) :=
  ((Yard.releaseSlot_drifts ..).acts.trans (Yard.pendingLocked_acts _)).after rfl

theorem Yard.endDwell_acts (y : Yard) : Yard.Acts e i y (Yard.endDwell e i y) := by
  unfold Yard.endDwell
  dsimp only
  split
  · exact Yard.setGate_acts id
  · split
    · split
      · exact (Yard.endMove_acts _).after rfl
      · refine Yard.Acts.after (Yard.Acts.after (Yard.startRun_acts ..) ?_) rfl
        rfl
    · split
      · exact Yard.endMove_acts y
      · split
        · exact (Yard.startRun_acts ..).after rfl
        · exact Yard.endMove_acts y

end

end Sys2Proof.Machine
end

section
/-! What the operations on the whole state keep within an event: a quiet one fills no queue, gives no gate an order and keeps the forecast in
order; a steady one leaves the mode and its timers besides. The invariants of every step rest on it. -/

namespace Sys2Proof.Machine

/-! ## Quiet and steady operations -/

/-- What an operation within an event keeps, whether or not it changes the mode. -/
structure State.Quiet (s t : State) : Prop where
  desk : s.desk.Calm t.desk
  port : s.yard.portF.Calm t.yard.portF
  slots : ∀ i, (t.gate i).slot.isSome = true → (s.gate i).slot.isSome = true
  forecast : s.ForecastOk → t.ForecastOk
  saving : t.saving = s.saving
  boot : t.boot = s.boot
  load : t.load = s.load

/-- What an operation within an event keeps that leaves the mode and its timers; the refresh timer is set in GOVERN and FALLBACK alone. -/
structure State.Steady (s t : State) : Prop extends State.Quiet s t where
  mdc : t.mdc = s.mdc
  round : t.rgv.roundTimer = s.rgv.roundTimer
  refresh : t.csu.refreshTimer.isSome = true → s.csu.refreshTimer.isSome = true ∨ s.mdc.mode.governing = true

theorem State.Quiet.trans {a b c : State} (hab : a.Quiet b) (hbc : b.Quiet c) : a.Quiet c where
  desk := hab.desk.trans hbc.desk
  port := hab.port.trans hbc.port
  slots i := hab.slots i ∘ hbc.slots i
  forecast := hbc.forecast ∘ hab.forecast
  saving := hbc.saving.trans hab.saving
  boot := hbc.boot.trans hab.boot
  load := hbc.load.trans hab.load

theorem State.Steady.trans {a b c : State} (hab : a.Steady b) (hbc : b.Steady c) : a.Steady c where
  toQuiet := hab.toQuiet.trans hbc.toQuiet
  mdc := hbc.mdc.trans hab.mdc
  round := hbc.round.trans hab.round
  refresh h := (hbc.refresh h).elim hab.refresh (fun hg => .inr (by rwa [hab.mdc] at hg))

/-- An operation on other blocks is quiet. -/
theorem State.Quiet.of_same {s t : State} (hdesk : t.desk = s.desk := by rfl) (hyard : t.yard = s.yard := by rfl)
    (hqueue : t.csu.queue = s.csu.queue := by rfl) (hsaving : t.saving = s.saving := by rfl)
    (hboot : t.boot = s.boot := by rfl) (hload : t.load = s.load := by rfl) : s.Quiet t where
  desk := hdesk ▸ .refl _
  port := hyard ▸ .refl _
  slots i h := by rwa [State.gate, hyard] at h
  forecast h := by rwa [State.ForecastOk, hqueue]
  saving := hsaving
  boot := hboot
  load := hload

/-- A quiet operation that leaves the mode, its timers and the refresh timer is steady. -/
theorem State.Quiet.steady {s t : State} (h : s.Quiet t) (hmdc : t.mdc = s.mdc := by rfl)
    (hround : t.rgv.roundTimer = s.rgv.roundTimer := by rfl)
    (hrefresh : t.csu.refreshTimer = s.csu.refreshTimer := by rfl) : s.Steady t where
  toQuiet := h
  mdc := hmdc
  round := hround
  refresh hr := .inl (hrefresh ▸ hr)

theorem State.Steady.refl (s : State) : s.Steady s := State.Quiet.steady .of_same

/-- An operation on the desk alone is steady where it is calm. -/
theorem State.Steady.of_desk {s : State} {d : Desk} (h : s.desk.Calm d) : s.Steady { s with desk := d } :=
  State.Quiet.steady ⟨h, .refl _, fun _ => id, id, rfl, rfl, rfl⟩

/-- An operation on the yard alone is steady where it is calm on Port F and gives no gate an order. -/
theorem State.Steady.of_yard {s : State} {y : Yard} (hport : s.yard.portF.Calm y.portF)
    (hslots : ∀ i, (y.gate i).slot.isSome = true → (s.gate i).slot.isSome = true) : s.Steady { s with yard := y } :=
  State.Quiet.steady ⟨.refl _, hport, hslots, id, rfl, rfl, rfl⟩

theorem State.Steady.foldl {α : Type} {f : State → α → State} (h : ∀ s a, State.Steady s (f s a)) (l : List α) (s : State) :
    s.Steady (l.foldl f s) :=
  foldl_keeps (fun t => s.Steady t) f (fun t a ht => ht.trans (h t a)) l s (.refl s)

section
variable (s : State)

/-! ## Conditions -/

theorem State.raise_steady (c : Cond) : s.Steady (s.raise c) := .of_desk (s.desk.raise_calm ..)

theorem State.clear_steady (c : Cond) : s.Steady (s.clear c) := .of_desk (s.desk.clear_calm ..)

theorem State.clearAll_steady (l : List Cond) : s.Steady (s.clearAll l) := .of_desk (s.desk.clearAll_calm ..)

/-! ## Gates -/

theorem State.setGate_steady {i : Fin 16} {g : Gate} (h : g.slot.isSome = true → (s.gate i).slot.isSome = true) :
    s.Steady (s.setGate i g) :=
  .of_yard (.refl _) fun j hj => by
    by_cases hji : j = i
    · subst hji
      exact h (by rwa [Yard.gate_setGate] at hj)
    · rwa [Yard.gate_setGate_ne _ _ hji] at hj

/-- An operation on one gate that leaves its order slot. -/
theorem State.setGate_steady_of_slot {i : Fin 16} {g : Gate} (h : g.slot = (s.gate i).slot) : s.Steady (s.setGate i g) :=
  s.setGate_steady (fun hg => h ▸ hg)

theorem State.yard_steady {e : YardEnv} {i : Fin 16} {y : Yard} (h : Yard.Acts e i s.yard y) : s.Steady { s with yard := y } :=
  .of_yard h.port fun j hj => by
    by_cases hji : j = i
    · subst hji
      exact h.slot hj
    · rwa [(h.others j hji).slot] at hj

theorem State.onYard_steady {i : Fin 16} {f : YardEnv → Yard → Yard} (h : ∀ e y, Yard.Acts e i y (f e y)) :
    s.Steady (s.onYard i f) := by
  unfold State.onYard
  dsimp only
  split
  · exact (s.yard_steady (h ..)).trans (State.clear_steady ..)
  · exact s.yard_steady (h ..)

theorem State.faultGate_steady (i : Fin 16) (lock : Bool) (c : Cond) : s.Steady (s.faultGate i lock c) :=
  ((s.onYard_steady (fun _ => Yard.enterFaulted_acts lock)).trans (State.clear_steady ..)).trans (State.raise_steady ..)

theorem State.emptySlots_steady : s.Steady s.emptySlots :=
  .foldl (fun s i => s.setGate_steady (fun h => by cases h)) ..

theorem Gate.startSeenWatch_slot (g : Gate) (t : Tables) (now : Tick) : (g.startSeenWatch t now).slot = g.slot := by
  unfold Gate.startSeenWatch
  split <;> rfl

theorem State.startSeenWatches_steady : s.Steady s.startSeenWatches := by
  unfold State.startSeenWatches
  refine State.Steady.foldl (fun t i => ?_) ..
  split
  · exact t.setGate_steady_of_slot (Gate.startSeenWatch_slot ..)
  · exact .refl t

theorem State.testLockedGates_steady : s.Steady s.testLockedGates :=
  .foldl (fun s _ => s.onYard_steady (fun _ => Yard.testLocked_acts)) ..

theorem State.freezeGates_steady : s.Steady s.freezeGates :=
  (State.Steady.foldl (fun s _ => s.onYard_steady (fun _ => Yard.freezeGate_acts)) ..).trans
    (.foldl (fun s _ => s.onYard_steady (fun _ _ => (Yard.leaveQueue_drifts ..).acts)) ..)

theorem State.reseatLocked_steady : s.Steady s.reseatLocked :=
  .foldl (fun s i => by
    split
    · exact s.setGate_steady id
    · exact .refl s) ..

theorem State.endLag_steady : s.Steady s.endLag := by
  unfold State.endLag
  refine State.Steady.trans ?_ (State.clearAll_steady ..)
  refine State.Steady.foldl (fun t i => ?_) ..
  exact t.setGate_steady_of_slot rfl

theorem State.setStandings_steady : s.Steady s.setStandings :=
  .foldl (fun s i => by
    split
    · exact s.setGate_steady id
    · exact .refl s) ..

/-! ## The Cascade Unit and the reach ports -/

theorem State.setReachPort_steady (p : ReachSide) (r : ReachPort) : s.Steady (s.setReachPort p r) := by
  cases p <;> exact State.Quiet.steady .of_same

theorem State.startReach_steady (p : ReachSide) : s.Steady (s.startReach p) := by
  cases p <;> exact State.Quiet.steady .of_same

theorem State.placeAccept_steady (a : Nat) : s.Steady (s.placeAccept a) := by
  unfold State.placeAccept
  split
  · exact State.Steady.trans (State.Quiet.steady .of_same) (State.startReach_steady ..)
  · exact .refl s

theorem State.computeOwnAcceptance_steady : s.Steady s.computeOwnAcceptance := by
  have own (a : Option Nat) : s.Steady { s with csu := { s.csu with ownAcceptance := a } } := State.Quiet.steady .of_same
  unfold State.computeOwnAcceptance
  dsimp only
  split
  · split
    · exact own _
    · exact (own _).trans (State.placeAccept_steady ..)
  · exact own _

theorem State.followReach_steady : s.Steady s.followReach := by
  unfold State.followReach
  split
  · exact State.Quiet.steady .of_same
  · exact .refl s

/-- A release notice is quiet, and steady in GOVERN and FALLBACK, where it may set the refresh timer. -/
theorem State.placeRelease_quiet : s.Quiet s.placeRelease :=
  State.Quiet.trans (b := { s with
    portD := { s.portD with pendingRelease := some s.rgv.planned }
    csu := { s.csu with
      lastNotified := some s.rgv.planned, lastRelease := some s.now
      refreshTimer := if 0 < s.tables.stationOr.noticeRefresh then some (s.now + s.tables.stationOr.noticeRefresh) else none } })
    .of_same (State.startReach_steady _ .D).toQuiet

theorem State.placeRelease_steady (h : s.mdc.mode.governing = true) : s.Steady s.placeRelease :=
  ⟨s.placeRelease_quiet, rfl, rfl, fun _ => .inr h⟩

theorem State.handOverPlanned_steady : s.Steady s.handOverPlanned := by
  unfold State.handOverPlanned
  split
  next hon =>
    have hg : s.mdc.mode.governing = true := by
      unfold State.noticesOn at hon
      exact (Bool.and_eq_true_iff.1 hon).1
    split
    · exact s.placeRelease_steady hg
    · split
      · exact s.placeRelease_steady hg
      · exact .refl s
  · exact .refl s

theorem State.setRefresh_steady (h : s.mdc.mode.governing = true) : s.Steady s.setRefresh := by
  unfold State.setRefresh
  dsimp only
  split
  · exact ⟨.of_same, rfl, rfl, fun _ => .inr h⟩
  · split
    · exact s.placeRelease_steady h
    · exact .refl s

theorem State.startPortTimers_steady (p : ReachSide) : s.Steady (s.startPortTimers p) := by
  unfold State.startPortTimers
  split
  · exact State.setReachPort_steady ..
  · exact .refl s

theorem State.forecastOk_nil {s : State} (h : s.csu.queue = []) : s.ForecastOk := by
  simp [State.ForecastOk, h]

theorem State.stationHeadOfCascade_steady : s.Steady s.stationHeadOfCascade := by
  unfold State.stationHeadOfCascade
  split
  · exact .refl s
  · exact State.Quiet.steady ⟨.refl _, .refl _, fun _ => id, fun _ => State.forecastOk_nil rfl, rfl, rfl, rfl⟩

theorem State.reachError_steady (p : ReachSide) : s.Steady (s.reachError p) := by
  have counted (n : Nat) : s.Steady (s.setReachPort p { s.reachPort p with errors := n }) := State.setReachPort_steady ..
  unfold State.reachError
  dsimp only
  split
  · split
    · exact (counted _).trans (State.raise_steady ..)
    · exact counted _
  · exact counted _

theorem State.linkHeard_steady (p : ReachSide) : s.Steady (s.linkHeard p) := by
  unfold State.linkHeard
  dsimp only
  split
  · exact (State.setReachPort_steady ..).trans (State.clear_steady ..)
  · exact State.setReachPort_steady ..

/-- A maturing takes entries from the head of the forecast queue alone (R110). -/
theorem mature_queue (now : Tick) (q : List ForecastEntry) (c : Csu) : (mature now q c).queue.Sublist q := by
  rw [mature_spec]
  exact List.dropWhile_sublist _

theorem State.ForecastOk.of_sublist {s t : State} (h : s.ForecastOk) (hq : t.csu.queue.Sublist s.csu.queue) : t.ForecastOk :=
  ⟨hq.length_le.trans h.1, h.2.sublist hq⟩

/-- A notice joins at the tail with a due tick held back to the tail's, so that due ticks never fall (R108, R109). -/
theorem State.noticeDue_last {s : State} (outflow : Nat) (h : s.ForecastOk) :
    ∀ x ∈ s.csu.queue, x.due ≤ s.noticeDue outflow := by
  intro x hx
  have hne : s.csu.queue ≠ [] := List.ne_nil_of_mem hx
  obtain ⟨front, tail, hq⟩ := s.csu.queue.eq_nil_or_concat'.resolve_left hne
  obtain ⟨-, hsort⟩ := h
  have hxtail : x.due ≤ tail.due := by
    rw [hq] at hx hsort
    obtain hf | ht := List.mem_append.1 hx
    · exact (List.pairwise_append.1 hsort).2.2 x hf tail (List.mem_singleton_self _)
    · exact (congrArg ForecastEntry.due (List.mem_singleton.1 ht)).le
  refine hxtail.trans ?_
  simp only [State.noticeDue, hq, List.getLast?_concat]
  exact le_max_right ..

theorem State.appendNotice_forecastOk (outflow : Nat) (h : s.ForecastOk) : (s.appendNotice outflow).ForecastOk := by
  have hlast := State.noticeDue_last outflow h
  obtain ⟨hlen, hsort⟩ := h
  unfold State.appendNotice
  dsimp only
  split
  · refine State.ForecastOk.of_sublist (s := { s with csu := { s.csu with queue := [{ outflow := outflow, due := s.noticeDue outflow }] } })
      ⟨by simp, by simp⟩ (mature_queue ..)
  next head rest hq =>
    rw [hq] at hlen hsort hlast
    split
    next hroom =>
      rw [hq] at hroom
      refine ⟨?_, List.pairwise_append.2 ⟨hsort, List.pairwise_singleton .., fun a ha b hb => ?_⟩⟩
      · simpa using hroom
      · obtain rfl := List.mem_singleton.1 hb
        exact hlast a ha
    · refine ⟨by simpa using hlen, List.pairwise_append.2 ⟨(List.pairwise_cons.1 hsort).2, List.pairwise_singleton ..,
        fun a ha b hb => ?_⟩⟩
      obtain rfl := List.mem_singleton.1 hb
      exact hlast a (List.mem_cons_of_mem head ha)

/-- An append changes the Cascade Unit and the Condition Unit alone. -/
theorem State.appendNotice_steady (outflow : Nat) : s.Steady (s.appendNotice outflow) := by
  have frame : (s.appendNotice outflow).yard = s.yard ∧ s.desk.Calm (s.appendNotice outflow).desk ∧
      (s.appendNotice outflow).saving = s.saving ∧ (s.appendNotice outflow).boot = s.boot ∧
      (s.appendNotice outflow).load = s.load ∧ (s.appendNotice outflow).mdc = s.mdc ∧
      (s.appendNotice outflow).rgv = s.rgv ∧ (s.appendNotice outflow).csu.refreshTimer = s.csu.refreshTimer := by
    unfold State.appendNotice
    dsimp only
    split
    · refine ⟨rfl, s.desk.clear_calm _, rfl, rfl, rfl, rfl, rfl, ?_⟩
      rw [mature_spec]
      rfl
    · split
      · exact ⟨rfl, s.desk.clear_calm _, rfl, rfl, rfl, rfl, rfl, rfl⟩
      · exact ⟨rfl, s.desk.raise_calm .., rfl, rfl, rfl, rfl, rfl, rfl⟩
  obtain ⟨hyard, hdesk, hsaving, hboot, hload, hmdc, hrgv, hrefresh⟩ := frame
  exact State.Quiet.steady ⟨hdesk, hyard ▸ .refl _, fun i hi => by rwa [State.gate, hyard] at hi,
    s.appendNotice_forecastOk outflow, hsaving, hboot, hload⟩ hmdc (congrArg Rgv.roundTimer hrgv) hrefresh

theorem State.takeRelease_steady (sequence outflow : Nat) : s.Steady (s.takeRelease sequence outflow) := by
  have heard (t : State) : t.Steady { t with csu := { t.csu with lastSequence := some sequence } } := State.Quiet.steady .of_same
  unfold State.takeRelease
  dsimp only
  split
  · exact (heard s).trans (State.appendNotice_steady ..)
  · split
    · exact ((State.clear_steady ..).trans (heard _)).trans (State.appendNotice_steady ..)
    · exact ((State.raise_steady ..).trans (heard _)).trans (State.appendNotice_steady ..)

theorem State.receiveReach_steady (p : ReachSide) (f : ReachFrame) : s.Steady (s.receiveReach p f) := by
  unfold State.receiveReach
  dsimp only
  split
  · split
    · split
      · exact (State.linkHeard_steady ..).trans (State.takeRelease_steady ..)
      · split
        · exact (State.linkHeard_steady ..).trans (State.Quiet.steady .of_same)
        · exact State.linkHeard_steady ..
    · exact State.reachError_steady ..
  · exact .refl s

/-! ## Levels -/

theorem State.setChannel_steady (c : Fin 8) (r : Channel) : s.Steady (s.setChannel c r) := State.Quiet.steady .of_same

theorem State.setRegime_steady (r : Regime) : s.Steady (s.setRegime r) := by
  unfold State.setRegime
  split
  · exact .refl s
  · exact State.Steady.trans (State.Quiet.steady .of_same) (State.computeOwnAcceptance_steady _)

theorem State.evaluateRegime_steady (h : Nat) : s.Steady (s.evaluateRegime h) := by
  unfold State.evaluateRegime
  dsimp only
  split
  · split
    · exact (State.setRegime_steady ..).trans (State.raise_steady ..)
    · exact .refl s
  · split
    · exact (State.setRegime_steady ..).trans (State.clear_steady ..)
    · exact .refl s

theorem State.evaluateHeadLow_steady (h : Nat) : s.Steady (s.evaluateHeadLow h) := by
  unfold State.evaluateHeadLow
  split
  · split
    · split
      · exact .refl s
      · exact State.raise_steady ..
    · split
      · exact State.clear_steady ..
      · exact .refl s
  · exact .refl s

/-- The steps of R48 are steps 1 to 4, each on what the one before leaves. -/
theorem State.updateHeadwater_steady : s.Steady s.updateHeadwater := by
  have levels (l : Lvu) : s.Steady { s with lvu := l } := State.Quiet.steady .of_same
  have evaluated (t : State) (result : Option Nat) : t.Steady (match result with
      | some h => State.evaluateHeadLow (if t.mdc.mode.supervised then t.evaluateRegime h else t) h
      | none => t) := by
    split
    · split
      · exact (State.evaluateRegime_steady ..).trans (State.evaluateHeadLow_steady ..)
      · exact State.evaluateHeadLow_steady ..
    · exact .refl t
  have lost (t : State) (before result : Option Nat) : t.Steady (match before, result with
      | some _, none => if t.mdc.mode.supervised then t.raise .levelLost else t
      | none, some _ => t.clear .levelLost
      | _, _ => t) := by
    split
    · split
      · exact State.raise_steady ..
      · exact .refl t
    · exact State.clear_steady ..
    · exact .refl t
  unfold State.updateHeadwater
  extract_lets result before held l s1 s2 s3
  have h1 : s.Steady s1 := levels _
  exact ((h1.trans (evaluated s1 result)).trans (lost s2 before result)).trans (State.computeOwnAcceptance_steady s3)

theorem State.updateTailwater_steady : s.Steady s.updateTailwater := by
  unfold State.updateTailwater
  dsimp only
  split <;> exact State.Quiet.steady .of_same

theorem State.tailwaterDefaultChanged_steady : s.Steady s.tailwaterDefaultChanged := by
  unfold State.tailwaterDefaultChanged
  split
  · exact State.Quiet.steady .of_same
  · exact .refl s

theorem State.deriveRole_steady (r : Role) : s.Steady (s.deriveRole r) := by
  cases r with
  | headwater => exact s.updateHeadwater_steady
  | tailwater => exact s.updateTailwater_steady
  | unused => exact .refl s

theorem State.gradeSample_steady (c : Fin 8) (x : Sample) : s.Steady (s.gradeSample c x) := by
  unfold State.gradeSample
  dsimp only
  split
  · exact (State.setChannel_steady ..).trans (State.clear_steady ..)
  · exact State.setChannel_steady ..

theorem State.goStale_steady (c : Fin 8) : s.Steady (s.goStale c) :=
  ((State.setChannel_steady ..).trans (State.raise_steady ..)).trans (State.deriveRole_steady ..)

theorem State.resetChannels_steady : s.Steady s.resetChannels :=
  State.Steady.trans (State.Quiet.steady .of_same) (State.computeOwnAcceptance_steady _)

theorem State.startStaleWatches_steady : s.Steady s.startStaleWatches :=
  .foldl (fun s c => by
    dsimp only
    split
    · exact .refl s
    · exact State.setChannel_steady ..) ..

/-! ## The Table Store -/

theorem State.ownerTakes_steady (d : TableData) : s.Steady (s.ownerTakes d) := by
  cases d with
  | station =>
    have stamped : s.Steady { s with stationValidSince := some s.now } := State.Quiet.steady .of_same
    exact ((((stamped.trans (State.startSeenWatches_steady _)).trans (State.startPortTimers_steady ..)).trans
      (State.startPortTimers_steady ..)).trans (State.stationHeadOfCascade_steady _)).trans
      (State.tailwaterDefaultChanged_steady _)
  | gates => exact s.startSeenWatches_steady
  | channels => exact s.startStaleWatches_steady
  | accept => exact s.computeOwnAcceptance_steady
  | reach => exact s.followReach_steady
  | groups | conditions | curve | ramp | flood | fill => exact .refl s

theorem State.tables_steady (t : Tables) : s.Steady { s with tables := t } := State.Quiet.steady .of_same

theorem State.takeContents_steady (d : TableData) : s.Steady (s.takeContents d) :=
  (s.tables_steady _).trans (State.ownerTakes_steady ..)

theorem State.swapShadows_steady : s.Steady s.swapShadows :=
  .foldl (fun s _ => (s.tables_steady _).trans (State.takeContents_steady ..)) ..

theorem State.ownerLoses_steady (t : TableId) : s.Steady (s.ownerLoses t) := by
  cases t with
  | station =>
    have stopped (l : List (Fin 16)) (u : State) : u.Steady (l.foldl
        (fun s i => if (s.gate i).state = .unseen then s.setGate i { s.gate i with stateTimer := none } else s) u) := by
      refine State.Steady.foldl (fun v i => ?_) l u
      split
      · exact v.setGate_steady_of_slot rfl
      · exact .refl v
    unfold State.ownerLoses
    dsimp only
    refine State.Steady.trans ?_ (State.tailwaterDefaultChanged_steady _)
    refine State.Steady.trans ?_ (State.clearAll_steady ..)
    refine State.Steady.trans ?_ (stopped _ _)
    exact State.Quiet.steady .of_same
  | gates =>
    unfold State.ownerLoses
    dsimp only
    refine State.Steady.trans ?_ (State.clearAll_steady ..)
    exact .of_yard (.refl _) (fun i h => by simp [Yard.gate] at h)
  | groups => exact .of_yard (.refl _) (fun _ => id)
  | channels => exact s.resetChannels_steady.trans (State.clearAll_steady ..)
  | conditions | curve | ramp | flood | accept | reach | fill => exact .refl s

/-! ## The round -/

theorem Gate.adopt_slot {g : Gate} (h : g.adopt.slot.isSome = true) : g.slot.isSome = true := by
  unfold Gate.adopt at h
  split at h
  next hslot => rw [hslot]; rfl
  · exact h

theorem State.adoptOrders_steady : s.Steady s.adoptOrders :=
  .foldl (fun s _ => s.setGate_steady Gate.adopt_slot) ..

theorem State.commitSetpoints_steady (l : List (Fin 16 × Nat)) : s.Steady (s.commitSetpoints l) := by
  unfold State.commitSetpoints
  refine State.Steady.foldl (fun t p => ?_) ..
  exact t.setGate_steady_of_slot rfl

theorem State.handTargets_steady (plans : List Plan) (l : List (Fin 16 × Nat)) : s.Steady (s.handTargets plans l) := by
  refine State.Steady.foldl (fun t p => ?_) plans s
  dsimp only
  split
  · exact .refl t
  · exact t.onYard_steady (fun _ _ => Yard.takeTarget_acts ..)

theorem State.recordResult_steady (r : RoundResult) : s.Steady (s.recordResult r) := by
  have recorded : s.Steady { s with rgv := { s.rgv with lastResult := r } } := State.Quiet.steady .of_same
  cases r with
  | held => exact recorded.trans (State.raise_steady ..)
  | applied | scaled => exact recorded.trans (State.clear_steady ..)
  | none => exact recorded

theorem State.commitRound_steady (plans : List Plan) (a : Accepted) : s.Steady (s.commitRound plans a) :=
  ((((s.commitSetpoints_steady _).trans (State.Quiet.steady .of_same)).trans (State.handTargets_steady ..)).trans
    (State.recordResult_steady ..)).trans (State.handOverPlanned_steady _)

/-- A round but for the restart of its timer. -/
theorem State.takeRound_steady : s.restartRound.Steady s.takeRound := by
  have start : s.restartRound.Steady s.roundStart := by
    unfold State.roundStart
    dsimp only
    split
    · exact (State.swapShadows_steady _).trans (State.adoptOrders_steady _)
    · exact State.swapShadows_steady _
  exact start.trans (State.commitRound_steady ..)

/-! ## Reports -/

theorem State.lagCheck_steady (i : Fin 16) : s.Steady (s.lagCheck i) := by
  unfold State.lagCheck
  dsimp only
  split
  · split
    · split
      · exact s.setGate_steady id
      · exact .refl s
    · exact (s.setGate_steady (by exact id)).trans (State.clear_steady ..)
  · exact .refl s

/-! ## Ports -/

theorem State.busError_steady (p : BusPort) : s.Steady (s.busError p) := by
  have counted (n : Nat) : s.Steady (s.setBusErrors p n) := by
    cases p with
    | L => exact .of_desk (.of_port ⟨le_rfl, le_max_right .., rfl, rfl, fun _ => ⟨rfl, rfl⟩⟩)
    | F => exact .of_yard ⟨le_rfl, id⟩ (fun _ => id)
  unfold State.busError
  dsimp only
  split
  · split
    · exact (counted _).trans (State.raise_steady ..)
    · exact counted _
  · exact counted _

/-- An acknowledgement is steady but for the counts that it sets to 0 (R145). -/
theorem State.acknowledge_steady (c : Cond) : (s.zeroErrors c).Steady (s.acknowledge c) := by
  have acknowledged : (s.zeroErrors c).Steady (State.zeroErrors { s with desk := s.desk.acknowledge c } c) := by
    unfold State.zeroErrors
    split
    · exact .of_desk (Desk.acknowledge_calm ..)
    · exact .of_desk (Desk.acknowledge_calm ..)
    · cases ‹ReachSide› <;> exact .of_desk (Desk.acknowledge_calm ..)
    · exact .of_desk (Desk.acknowledge_calm ..)
  unfold State.acknowledge
  dsimp only
  split
  · exact acknowledged.trans (State.clear_steady ..)
  · exact acknowledged

theorem State.clearGate_steady (i : Fin 16) : s.Steady (s.clearGate i) := by
  refine State.Steady.trans (s.setGate_steady (fun h => ?_)) (State.clearAll_steady ..)
  unfold Gate.startSeenWatch at h
  split at h <;> cases h

end

end Sys2Proof.Machine
end

section
/-! The invariants of every step (chapters 5 to 11): what each command keeps of the port queues, the notices, the forecast, and the timers
of the modes. An operation within an event is quiet or steady; the entries to the modes are read besides for the registers they set. -/

namespace Sys2Proof.Machine

/-! ## Safe events -/

/-- An event is safe where it keeps each of the four invariants. -/
structure State.Safe (s t : State) : Prop where
  queues : s.QueuesOk → t.QueuesOk
  notices : s.NoticesOk → t.NoticesOk
  forecasts : s.ForecastOk → t.ForecastOk
  modes : s.ModeOk → t.ModeOk

theorem State.Safe.refl (s : State) : s.Safe s := ⟨id, id, id, id⟩

theorem State.Safe.trans {a b c : State} (hab : a.Safe b) (hbc : b.Safe c) : a.Safe c :=
  ⟨hbc.queues ∘ hab.queues, hbc.notices ∘ hab.notices, hbc.forecasts ∘ hab.forecasts, hbc.modes ∘ hab.modes⟩

/-- A meaning that goes on, safely. -/
def State.GoesOnSafely (s : State) (o : Host.Outcome State Fault Refusal) : Prop := ∃ t, o = .next t ∧ s.Safe t

theorem State.Safe.goesOn {s t : State} (h : s.Safe t) : s.GoesOnSafely (.next t) := ⟨t, rfl, h⟩

/-- An expiry that is not due does nothing. -/
theorem State.GoesOnSafely.of_due {s t : State} {p : Prop} [Decidable p] (h : p → s.Safe t) :
    s.GoesOnSafely (if p then .next t else .next s) := by
  split
  next hp => exact (h hp).goesOn
  · exact (State.Safe.refl s).goesOn

theorem State.Quiet.queues {s t : State} (h : s.Quiet t) (hs : s.QueuesOk) : t.QueuesOk := by
  obtain ⟨hgeneral, hown, hport, hdrive, hplace⟩ := hs
  refine ⟨h.desk.port.general.trans hgeneral, ?_, h.port.general.trans hport, h.port.drive hdrive, fun hsaving => ?_⟩
  · have := h.desk.port.own
    omega
  · rw [h.desk.port.savePlace]
    exact hplace (h.saving ▸ hsaving)

/-- A quiet event is safe where it keeps the modes. -/
theorem State.Quiet.safe {s t : State} (h : s.Quiet t) (hm : s.ModeOk → t.ModeOk) : s.Safe t :=
  ⟨h.queues, h.desk.notices, h.forecast, hm⟩

/-- A steady event leaves every timer to the mode that allows it. -/
theorem State.Steady.modes {s t : State} (h : s.Steady t) (hs : s.ModeOk) : t.ModeOk := by
  obtain ⟨hround, horder, hrefresh, hcontrol, hphase, hboot, hwait, hsaving, hslots⟩ := hs
  unfold State.ModeOk
  rw [h.round, h.mdc, h.boot, h.saving, h.load]
  exact ⟨hround, horder, fun hr => (h.refresh hr).elim hrefresh id, hcontrol, hphase, hboot, hwait, hsaving,
    fun i hi => hslots i (h.slots i hi)⟩

theorem State.Steady.safe {s t : State} (h : s.Steady t) : s.Safe t := h.toQuiet.safe h.modes

/-- A quiet event that keeps the modes. -/
def State.Mild (s t : State) : Prop := s.Quiet t ∧ (s.ModeOk → t.ModeOk)

theorem State.Steady.mild {s t : State} (h : s.Steady t) : s.Mild t := ⟨h.toQuiet, h.modes⟩

theorem State.Mild.refl (s : State) : s.Mild s := (State.Steady.refl s).mild

theorem State.Mild.trans {a b c : State} (hab : a.Mild b) (hbc : b.Mild c) : a.Mild c :=
  ⟨hab.1.trans hbc.1, hbc.2 ∘ hab.2⟩

theorem State.Mild.safe {s t : State} (h : s.Mild t) : s.Safe t := h.1.safe h.2

/-- A frame of the part that joins the own queue after a quiet event, where the queue had room before it. -/
theorem State.Quiet.safe_pushOwn {s t : State} (h : s.Quiet t) (hroom : s.ownFull = false) (hm : s.ModeOk → t.ModeOk)
    (f : BusFrame) : s.Safe (t.pushOwn f) := by
  obtain ⟨hgeneral, hown, hplace, hnotices⟩ := t.desk.pushOwn_spec f
  have hroom' : s.desk.portL.ownTotal ≤ 7 := by
    have : ¬ 8 ≤ s.desk.portL.ownTotal := of_decide_eq_false hroom
    omega
  refine ⟨fun hs => ?_, fun hs => hnotices (h.desk.notices hs), h.forecast, hm⟩
  obtain ⟨hgen, -, hport, hdrive, hsave⟩ := h.queues hs
  refine ⟨hgeneral.trans hgen, ?_, hport, hdrive, fun hsaving => hplace.trans (hsave hsaving)⟩
  have := h.desk.port.own
  exact hown.trans (by omega)

theorem State.Steady.safe_reply {s t : State} (h : s.Steady t) (hroom : s.ownFull = false) (code : Byte) (r : Result)
    (data : List Byte) : s.Safe (t.reply code r data) :=
  h.toQuiet.safe_pushOwn hroom h.modes _

/-- A refusal, or a reply that changes nothing else. -/
theorem State.reply_safe {s : State} (hroom : s.ownFull = false) (code : Byte) (r : Result) (data : List Byte) :
    s.Safe (s.reply code r data) :=
  (State.Steady.refl s).safe_reply hroom code r data

/-- A frame dropped for want of room is counted alone (R154). -/
theorem State.dropOwn_safe (s : State) : s.Safe s.dropOwn := ⟨id, id, id, id⟩

/-- A request is safe where its block keeps the invariants in a queue with room (R156). -/
theorem State.request_safe {s : State} {code : Byte} {body : State → State} (h : s.ownFull = false → s.Safe (body s)) :
    s.Safe (s.request code body) := by
  unfold State.request
  split
  · exact s.dropOwn_safe
  next hroom =>
    rw [Bool.not_eq_true] at hroom
    split
    · exact State.reply_safe hroom ..
    · exact h hroom

/-- A request other than READ_STATUS reaches its block outside STARTING alone (R156). -/
theorem State.request_safe_of_routed {s : State} {code : Byte} {body : State → State} (hc : code ≠ 1)
    (h : s.Routed → s.Safe (body s)) : s.Safe (s.request code body) := by
  by_cases hm : s.mdc.mode = .starting
  · unfold State.request
    split
    · exact s.dropOwn_safe
    next hroom =>
      rw [if_pos ⟨hm, hc⟩]
      exact State.reply_safe (Bool.not_eq_true _ ▸ hroom) ..
  · exact State.request_safe fun hroom => h ⟨hroom, hm⟩

/-! ## What the modes allow -/

/-- Outside STARTING no start is under way (R121, R125). -/
theorem State.ModeOk.started {s : State} (h : s.ModeOk) (hm : s.mdc.mode ≠ .starting) :
    s.mdc.phase = none ∧ s.boot = none ∧ s.mdc.startWait = none := by
  obtain ⟨-, -, -, -, hphase, hboot, hwait, -⟩ := h
  have hnone : s.mdc.phase = none := Option.not_isSome_iff_eq_none.1 (hm ∘ hphase)
  refine ⟨hnone, Option.not_isSome_iff_eq_none.1 (fun hb => ?_), Option.not_isSome_iff_eq_none.1 (fun hw => ?_)⟩
  · exact absurd (hnone.symm.trans (hboot.1 hb)) (by simp)
  · exact absurd (hnone.symm.trans (hwait.1 hw)) (by simp)

/-- The boot read is over where the phase is another (R124). -/
theorem State.ModeOk.boot_none {s : State} (h : s.ModeOk) (hp : s.mdc.phase ≠ some .bootRead) : s.boot = none := by
  obtain ⟨-, -, -, -, -, hboot, -⟩ := h
  exact Option.not_isSome_iff_eq_none.1 (hp ∘ hboot.1)

/-- A SAVE is in flight in CONFIG alone (R168). -/
theorem State.ModeOk.saving_none {s : State} (h : s.ModeOk) (hm : s.mdc.mode ≠ .config) : s.saving = none := by
  obtain ⟨-, -, -, -, -, -, -, hsaving, -⟩ := h
  exact Option.not_isSome_iff_eq_none.1 (fun hs => hm (hsaving hs).1)

/-- The registers after an entry to a mode, with no start under way. -/
theorem State.modeOk_of_entered {t : State} {m : Mode} (hmode : t.mdc.mode = m) (hphase : t.mdc.phase = none)
    (hwait : t.mdc.startWait = none) (hboot : t.boot = none) (hcontrol : t.mdc.controlPresent = false)
    (hround : t.rgv.roundTimer.isSome = m.governing) (horder : t.mdc.orderTimer.isSome = true → m.governing = true)
    (hrefresh : t.csu.refreshTimer.isSome = true → m.governing = true)
    (hsaving : t.saving.isSome = true → m = .config ∧ t.load = none)
    (hslots : ∀ i, (t.gate i).slot.isSome = true → m = .govern) : t.ModeOk := by
  unfold State.ModeOk
  rw [hmode, hphase, hwait, hboot, hcontrol]
  exact ⟨hround, horder, hrefresh, by simp, by simp, by simp, by simp, hsaving, hslots⟩

theorem State.emptySlots_slot (s : State) (i : Fin 16) : (s.emptySlots.gate i).slot = none := by
  have h : s.emptySlots = s.eachGate (fun _ g => { g with slot := none }) := rfl
  rw [h, State.eachGate_gate]

/-- The round timer starts, or restarts (R128, R130). -/
def State.startRounds (s : State) : State :=
  { s with rgv := { s.rgv with roundTimer := some (s.now + s.tables.stationOr.roundInterval) } }

theorem State.gate_startRounds (s : State) (i : Fin 16) : s.startRounds.gate i = s.gate i := rfl
theorem State.gate_of_rgv (s : State) (r : Rgv) (i : Fin 16) : State.gate { s with rgv := r } i = s.gate i := rfl
theorem State.gate_stopRefresh (s : State) (i : Fin 16) : s.stopRefresh.gate i = s.gate i := rfl
theorem State.gate_clearAll (s : State) (l : List Cond) (i : Fin 16) : (s.clearAll l).gate i = s.gate i := rfl

/-- No order waits after the slots are emptied, whatever steady operations follow (R96). -/
theorem State.Steady.slot_none {s t : State} (h : s.emptySlots.Steady t) (i : Fin 16) : ¬ (t.gate i).slot.isSome = true := by
  intro hi
  have := h.slots i hi
  rw [s.emptySlots_slot i] at this
  exact absurd this (by simp)

/-! ## Entries to the modes -/

section
variable (s : State)

/-- The mode registers and the round timer replaced. -/
theorem State.quiet_of_registers {mdc : Mdc} {rgv : Rgv} : s.Quiet { s with mdc := mdc, rgv := rgv } := .of_same

theorem State.startRounds_quiet : s.Quiet s.startRounds := .of_same

theorem State.stopRefresh_quiet : s.Quiet s.stopRefresh := .of_same

/-- An entry to CONFIG between the mode registers and the refresh timer (R126). -/
def State.enteredConfig : State :=
  State.swapShadows (State.clear
    (State.setRegime (State.endLag (State.reseatLocked (State.emptySlots
      { s with
        mdc := { s.mdc with mode := .config, phase := none, orderTimer := none, startWait := none, controlPresent := false }
        rgv := { s.rgv with roundTimer := none } }))) .normal) .headHigh)

theorem State.enterConfig_eq_entered : s.enterConfig =
    s.enteredConfig.stopRefresh.clearAll ([.rampHeld, .controlSilent] ++ allGates.map .bypassBlocked) := rfl

theorem State.enteredConfig_steady : (State.emptySlots
    { s with
      mdc := { s.mdc with mode := .config, phase := none, orderTimer := none, startWait := none, controlPresent := false }
      rgv := { s.rgv with roundTimer := none } }).Steady s.enteredConfig :=
  ((((State.reseatLocked_steady _).trans (State.endLag_steady _)).trans (State.setRegime_steady ..)).trans
    (State.clear_steady ..)).trans (State.swapShadows_steady _)

theorem State.enterConfig_quiet : s.Quiet s.enterConfig := by
  rw [State.enterConfig_eq_entered]
  exact ((s.quiet_of_registers.trans (State.emptySlots_steady _).toQuiet).trans s.enteredConfig_steady.toQuiet).trans
    ((State.stopRefresh_quiet _).trans (State.clearAll_steady ..).toQuiet)

theorem State.enterConfig_modes (hboot : s.boot = none) (hload : s.saving.isSome = true → s.load = none) :
    s.enterConfig.ModeOk := by
  have hsteady := s.enteredConfig_steady
  have hquiet := s.enterConfig_quiet
  refine State.modeOk_of_entered (m := .config) ?_ ?_ ?_ (hquiet.boot.trans hboot) ?_ ?_ ?_ ?_ (fun hs => ⟨rfl, ?_⟩)
    (fun i hi => ?_)
  · rw [State.enterConfig_mdc]; rfl
  · rw [State.enterConfig_mdc]; rfl
  · rw [State.enterConfig_mdc]; rfl
  · rw [State.enterConfig_mdc]; rfl
  · rw [State.enterConfig_rgv]; rfl
  · rw [State.enterConfig_mdc]; exact fun h => nomatch h
  · rw [State.enterConfig_refreshTimer]; exact fun h => nomatch h
  · rw [hquiet.load]
    exact hload (hquiet.saving ▸ hs)
  · rw [State.enterConfig_eq_entered, State.gate_clearAll, State.gate_stopRefresh] at hi
    exact absurd hi (hsteady.slot_none i)

/-- Entry to CONFIG from another mode, or in the place of a start that ends. -/
theorem State.enterConfig_safe (hboot : s.ModeOk → s.boot = none) : s.Safe s.enterConfig :=
  s.enterConfig_quiet.safe fun h => s.enterConfig_modes (hboot h) fun hs => by
    obtain ⟨-, -, -, -, -, -, -, hsaving, -⟩ := h
    exact (hsaving hs).2

/-- The registers that an entry to GOVERN sets at its start (R128). -/
def State.enteringGovern : State :=
  let s1 := State.clear
    { s with mdc := { s.mdc with
      mode := .govern, phase := none, startWait := none, startReason := none, controlPresent := false } } .controlSilent
  { s1 with mdc := { s1.mdc with orderTimer := s1.orderReload } }

theorem State.enteringGovern_quiet : s.Quiet s.enteringGovern := by
  refine State.Quiet.trans ?_ (State.quiet_of_registers _)
  exact State.Quiet.trans .of_same (State.clear_steady ..).toQuiet

/-- The evaluation of the regime at an entry to GOVERN from STARTING or CONFIG (R128). -/
theorem State.freshRegime_steady (fresh : Bool) (h : Option Nat) : s.Steady (match fresh, h with
    | true, some h => s.evaluateRegime h
    | _, _ => s) := by
  split
  · exact State.evaluateRegime_steady ..
  · exact .refl s

theorem State.enterGovern_registers : s.Quiet s.enterGovern ∧ s.enterGovern.mdc = s.enteringGovern.mdc ∧
    s.enterGovern.rgv.roundTimer.isSome = true := by
  unfold State.enterGovern
  extract_lets fresh _ s1 _ s2 s3 s4 _ s5 s6
  have h4 : s.enteringGovern.Steady s4 := (State.setStandings_steady _).trans (State.freshRegime_steady ..)
  have h5 : s4.Quiet s5 := s4.startRounds_quiet
  have hmode : s5.mdc.mode.governing = true := by
    show s4.mdc.mode.governing = true
    rw [h4.mdc]
    rfl
  have hrest := (State.setRefresh_steady s5 hmode).trans (State.testLockedGates_steady s6)
  refine ⟨((s.enteringGovern_quiet.trans h4.toQuiet).trans h5).trans hrest.toQuiet, ?_, ?_⟩
  · rw [hrest.mdc]
    exact h4.mdc
  · rw [hrest.round]
    rfl

theorem State.enterGovern_quiet : s.Quiet s.enterGovern := s.enterGovern_registers.1

theorem State.enterGovern_modes (hboot : s.boot = none) (hsaving : s.saving = none) : s.enterGovern.ModeOk := by
  obtain ⟨hquiet, hmdc, hround⟩ := s.enterGovern_registers
  refine State.modeOk_of_entered (m := .govern) ?_ ?_ ?_ (hquiet.boot.trans hboot) ?_ hround (fun _ => rfl) (fun _ => rfl)
    (fun hs => ?_) (fun _ _ => rfl)
  · rw [hmdc]; rfl
  · rw [hmdc]; rfl
  · rw [hmdc]; rfl
  · rw [hmdc]; rfl
  · rw [hquiet.saving, hsaving] at hs
    cases hs

theorem State.enterFallback_quiet_round : s.Quiet s.enterFallback ∧ s.enterFallback.rgv.roundTimer.isSome = true ∧
    ∀ i, ¬ (s.enterFallback.gate i).slot.isSome = true := by
  unfold State.enterFallback
  extract_lets _ s1 s2 _ s3 s4
  have h2 : s1.Steady s2 := s1.emptySlots_steady
  have h3 : s2.Quiet s3 := s2.startRounds_quiet
  have hmode : s3.mdc.mode.governing = true := by
    show s2.mdc.mode.governing = true
    rw [h2.mdc]
    rfl
  have hrest := (State.setRefresh_steady s3 hmode).trans (State.testLockedGates_steady s4)
  refine ⟨(State.Quiet.trans .of_same h2.toQuiet).trans (h3.trans hrest.toQuiet), ?_, fun i hi => ?_⟩
  · rw [hrest.round]
    rfl
  · have hempty : (s2.gate i).slot = none := s1.emptySlots_slot i
    have hslot := hrest.slots i hi
    rw [show s3.gate i = s2.gate i from s2.gate_startRounds i, hempty] at hslot
    cases hslot

/-- Entry to FALLBACK from GOVERN. -/
theorem State.enterFallback_safe (hm : s.ModeOk → s.mdc.mode.governing = true) : s.Safe s.enterFallback := by
  obtain ⟨hquiet, hround, hslots⟩ := s.enterFallback_quiet_round
  refine hquiet.safe fun h => ?_
  have hmode := hm h
  have hne : s.mdc.mode ≠ .starting ∧ s.mdc.mode ≠ .config := by
    constructor <;> intro h0 <;> simp [h0, Mode.governing] at hmode
  obtain ⟨hphase, hboot, hwait⟩ := h.started hne.1
  have hmdc := s.enterFallback_mdc
  refine State.modeOk_of_entered (m := .fallback) ?_ ?_ ?_ (hquiet.boot.trans hboot) ?_ hround (fun _ => rfl) (fun _ => rfl)
    (fun hs => ?_) (fun i hi => absurd hi (hslots i))
  · rw [hmdc]
  · rw [hmdc]; exact hphase
  · rw [hmdc]; exact hwait
  · rw [hmdc]
  · rw [hquiet.saving, h.saving_none hne.2] at hs
    cases hs

theorem State.enterFrozen_quiet_round : s.Quiet s.enterFrozen ∧ s.enterFrozen.rgv.roundTimer = none ∧
    s.enterFrozen.csu.refreshTimer = none ∧ ∀ i, ¬ (s.enterFrozen.gate i).slot.isSome = true := by
  unfold State.enterFrozen
  extract_lets _ s1 _ s2 s3 _ s4 s5
  have h3 : s2.Steady s3 := s2.freezeGates_steady.trans (State.emptySlots_steady _)
  have h4 : State.Steady { s3 with rgv := { s3.rgv with planned := s3.plannedSum } } s4 := State.handOverPlanned_steady _
  have hlast : s5.Steady (s5.clear .rampHeld) := s5.clear_steady _
  have h5 : s4.Quiet s5 := s4.stopRefresh_quiet
  refine ⟨((s.quiet_of_registers.trans h3.toQuiet).trans s3.quiet_of_registers).trans
    (h4.toQuiet.trans (h5.trans hlast.toQuiet)), ?_, rfl, fun i hi => ?_⟩
  · rw [hlast.round]
    exact h4.round.trans h3.round
  · have hempty : (s3.gate i).slot = none := s2.freezeGates.emptySlots_slot i
    have hslot := hlast.slots i hi
    rw [show s5.gate i = s4.gate i from s4.gate_stopRefresh i] at hslot
    have hslot := h4.slots i hslot
    rw [State.gate_of_rgv, hempty] at hslot
    cases hslot

/-- Entry to FROZEN from GOVERN or FALLBACK. -/
theorem State.enterFrozen_mild (hm : s.mdc.mode.governing = true) : s.Mild s.enterFrozen := by
  obtain ⟨hquiet, hround, hrefresh, hslots⟩ := s.enterFrozen_quiet_round
  refine ⟨hquiet, fun h => ?_⟩
  have hne : s.mdc.mode ≠ .starting ∧ s.mdc.mode ≠ .config := by
    constructor <;> intro h0 <;> simp [h0, Mode.governing] at hm
  obtain ⟨hphase, hboot, hwait⟩ := h.started hne.1
  have hmdc := s.enterFrozen_mdc
  refine State.modeOk_of_entered (m := .frozen) ?_ ?_ ?_ (hquiet.boot.trans hboot) ?_ ?_ ?_ ?_
    (fun hs => ?_) (fun i hi => absurd hi (hslots i))
  · rw [hmdc]
  · rw [hmdc]; exact hphase
  · rw [hmdc]; exact hwait
  · rw [hmdc]
  · rw [hround]; rfl
  · rw [hmdc]; exact fun h => nomatch h
  · rw [hrefresh]; exact fun h => nomatch h
  · rw [hquiet.saving, h.saving_none hne.2] at hs
    cases hs

/-! ## The start -/

theorem State.failStartWait_quiet : s.Quiet s.failStartWait :=
  (State.Quiet.trans .of_same (State.raise_steady ..).toQuiet).trans (State.enterConfig_quiet _)

theorem State.decideStart_quiet : s.Quiet s.decideStart := by
  unfold State.decideStart
  split
  · exact s.enterConfig_quiet
  · exact s.enterConfig_quiet
  · split
    · exact State.Quiet.trans .of_same (State.enterConfig_quiet _)
    · split
      · exact s.enterGovern_quiet
      · split
        · exact s.failStartWait_quiet
        · exact .of_same

/-- The start is decided in STARTING, once the boot read is over (R124). -/
theorem State.decideStart_modes (hboot : s.boot = none) (hm : s.mdc.mode = .starting) (h : s.ModeOk) : s.decideStart.ModeOk := by
  have hsaving : s.saving = none := h.saving_none (by simp [hm])
  have hload : s.saving.isSome = true → s.load = none := by simp [hsaving]
  unfold State.decideStart
  split
  · exact s.enterConfig_modes hboot hload
  · exact s.enterConfig_modes hboot hload
  · split
    · exact State.enterConfig_modes _ hboot hload
    · split
      · exact s.enterGovern_modes hboot hsaving
      · split
        · exact State.enterConfig_modes _ hboot hload
        · obtain ⟨hround, horder, hrefresh, hcontrol, -, -, -, -, hslots⟩ := h
          exact ⟨hround, horder, hrefresh, hcontrol, fun _ => hm, by simp [hboot], by simp, by simp [hsaving], hslots⟩

theorem State.startWaitHeadwater_quiet : s.Quiet s.startWaitHeadwater := by
  unfold State.startWaitHeadwater
  split
  · exact s.enterGovern_quiet
  · exact .of_same

theorem State.startWaitHeadwater_mild : s.Mild s.startWaitHeadwater := by
  refine ⟨s.startWaitHeadwater_quiet, fun h => ?_⟩
  unfold State.startWaitHeadwater
  split
  next hwait =>
    obtain ⟨hm, hphase, -⟩ := hwait
    exact s.enterGovern_modes (h.boot_none (by simp [hphase])) (h.saving_none (by simp [hm]))
  · exact h

end

end Sys2Proof.Machine
end

section
/-! Every step is safe (chapters 5 to 11): one lemma for each command, or for what several commands share, and the four invariants from them. -/

namespace Sys2Proof.Machine

section
variable (s : State)

/-! ## Frames that are forwarded or fail a check -/

/-- A forwarded frame never brings a general queue above its 8 places (R152). -/
theorem PortF.forward_spec (p : PortF) (f : BusFrame) : (p.general.length ≤ 8 → (p.forward f).general.length ≤ 8) ∧
    ((p.drive.map (·.gate)).Nodup → ((p.forward f).drive.map (·.gate)).Nodup) := by
  unfold PortF.forward
  split
  · exact ⟨id, id⟩
  next hroom =>
    have h := PortF.start_calm { p with general := p.general ++ [f] }
    refine ⟨fun _ => h.general.trans ?_, h.drive⟩
    rw [List.length_append, List.length_singleton]
    omega

theorem State.forwardFrom_safe (p : BusPort) (f : BusFrame) : s.Safe (s.forwardFrom p f) := by
  cases p with
  | L =>
    obtain ⟨hgeneral, hdrive⟩ := s.yard.portF.forward_spec f
    exact ⟨fun ⟨hl, hown, hf, hd, hs⟩ => ⟨hl, hown, hgeneral hf, hdrive hd, hs⟩, id, id, id⟩
  | F =>
    obtain ⟨hgeneral, hown, hplace, hnotices⟩ := s.desk.forward_spec f
    refine ⟨fun ⟨hl, ho, hf, hd, hs⟩ => ⟨hgeneral hl, ?_, hf, hd, fun h => hplace.trans (hs h)⟩, hnotices, id, id⟩
    exact hown.trans (max_le (by decide) ho)

/-! ## Reports and samples (R23, R45) -/

theorem State.runawayCheck_mild (i : Fin 16) : s.Mild (s.runawayCheck i) := by
  have raised := s.raise_steady (.gateRunaway i)
  unfold State.runawayCheck
  dsimp only
  split
  · split
    · split
      next hg =>
        exact raised.mild.trans ((s.raise (.gateRunaway i)).enterFrozen_mild hg)
      · exact raised.mild
    · exact (s.clear_steady _).mild
  · exact .refl s

theorem State.lagChecked_steady (supervised : Bool) (i : Fin 16) :
    s.Steady (if supervised = true then s.lagCheck i else s) := by
  split
  · exact s.lagCheck_steady i
  · exact .refl s

theorem State.takeReport_mild (i : Fin 16) (r : Report) : s.Mild (s.takeReport i r) := by
  have stored : s.Steady (s.setGate i ((s.gate i).storeReport r s.now)) := s.setGate_steady_of_slot rfl
  unfold State.takeReport
  extract_lets before s1
  clear_value before
  have moved : s1.Steady
      (if endsWicketMove (s.cfg i) (s1.gate i) = true then s1.onYard i (fun e y => Yard.endMove e i y) else s1) := by
    split
    · exact State.onYard_steady _ (fun _ => Yard.endMove_acts)
    · exact .refl s1
  split
  · exact stored.mild
  · split
    · exact (stored.trans (State.faultGate_steady ..)).mild
    · cases before with
      | faulted => exact stored.mild
      | unseen => exact (stored.trans (State.onYard_steady _ (fun _ => Yard.firstSeen_acts r))).mild
      | moving => exact (stored.trans (moved.trans (State.lagChecked_steady ..))).mild
      | locked =>
        dsimp only
        split
        · exact (stored.trans (State.lagCheck_steady ..)).mild.trans (State.runawayCheck_mild ..)
        · split
          · exact stored.mild
          · refine (stored.trans ?_).mild
            exact s1.setGate_steady_of_slot rfl
      | recovering | waitGrant | unlocking | free | reversing | locking =>
        exact (stored.trans (State.lagChecked_steady ..)).mild

theorem State.offerReport_mild (address : Nat) (r : Report) : s.Mild (s.offerReport address r) :=
  foldl_keeps (fun t => s.Mild t) _ (fun t i h => h.trans (t.takeReport_mild i r)) _ _ (.refl s)

theorem State.startWaitAfter_mild (p : Prop) [Decidable p] : s.Mild (if p then s.startWaitHeadwater else s) := by
  split
  · exact s.startWaitHeadwater_mild
  · exact .refl s

theorem State.takeSample_mild (x : Sample) : s.Mild (s.takeSample x) := by
  unfold State.takeSample
  split
  · exact .refl s
  · exact ((State.gradeSample_steady ..).trans (State.deriveRole_steady ..)).mild.trans (State.startWaitAfter_mild ..)

theorem State.receiveF_safe (f : BusFrame) : s.Safe (s.receiveF f) := by
  unfold State.receiveF
  split
  · exact (s.busError_steady .F).safe
  · split
    · exact (s.takeSample_mild _).safe.trans (State.forwardFrom_safe ..)
    · split
      · exact (s.offerReport_mild ..).safe.trans (State.forwardFrom_safe ..)
      · exact s.forwardFrom_safe ..

/-! ## The control computer (R92, R98, R99) -/

theorem State.controlHeard_quiet : s.Quiet s.controlHeard := by
  unfold State.controlHeard
  split
  · exact .of_same
  · dsimp only
    split
    · exact .of_same
    · exact State.Quiet.trans .of_same (State.clear_steady ..).toQuiet
  · exact (State.Steady.refl s).toQuiet

theorem State.controlHeard_modes (h : s.ModeOk) : s.controlHeard.ModeOk := by
  obtain ⟨hround, horder, hrefresh, hcontrol, hphase, hboot, hwait, hsaving, hslots⟩ := h
  unfold State.controlHeard
  split
  next hm =>
    have hg : s.mdc.mode.governing = true := by rw [hm]; rfl
    exact ⟨hround, fun _ => hg, hrefresh, hcontrol, hphase, hboot, hwait, hsaving, hslots⟩
  next hm =>
    have hg : s.mdc.mode.governing = true := by rw [hm]; rfl
    have heard : State.ModeOk { s with mdc := { s.mdc with orderTimer := s.orderReload, controlPresent := true } } :=
      ⟨hround, fun _ => hg, hrefresh, fun _ => hm, hphase, hboot, hwait, hsaving, hslots⟩
    dsimp only
    split
    · exact heard
    · exact (State.clear_steady ..).modes heard
  · exact ⟨hround, horder, hrefresh, hcontrol, hphase, hboot, hwait, hsaving, hslots⟩

theorem State.controlHeard_safe : s.Safe s.controlHeard := s.controlHeard_quiet.safe s.controlHeard_modes

theorem State.judgeOrder_fills {i : Fin 16} {o : Order} (h : (s.judgeOrder i o).1.fills = true) : s.mdc.mode = .govern := by
  unfold State.judgeOrder at h
  split at h
  · cases h
  next hm => exact not_not.1 hm

/-- An order is taken in GOVERN alone, where a slot may hold one (R93, R96). -/
theorem State.orderSlot_modes {i : Fin 16} {g : Gate} (hm : s.mdc.mode = .govern) (h : s.ModeOk) : (s.setGate i g).ModeOk := by
  obtain ⟨hround, horder, hrefresh, hcontrol, hphase, hboot, hwait, hsaving, -⟩ := h
  exact ⟨hround, horder, hrefresh, hcontrol, hphase, hboot, hwait, hsaving, fun _ _ => hm⟩

theorem State.answerOrder_safe (hroom : s.ownFull = false) (i : Fin 16) (o : Order) : s.Safe (s.answerOrder i o) := by
  have answered := (State.Steady.refl s).toQuiet.safe_pushOwn hroom id
  unfold State.answerOrder
  dsimp only
  split
  next hfills =>
    have hm := s.judgeOrder_fills hfills
    exact ⟨(answered _).queues, (answered _).notices, id, s.orderSlot_modes hm⟩
  · exact answered _

theorem State.takeOrder_safe (i : Fin 16) (o : Order) : s.Safe (s.takeOrder i o) := by
  unfold State.takeOrder
  split
  · exact s.controlHeard_safe.trans (State.dropOwn_safe _)
  next hroom =>
    refine s.controlHeard_safe.trans (State.answerOrder_safe _ ?_ i o)
    have hport : s.controlHeard.desk.portL = s.desk.portL := by
      unfold State.controlHeard
      split
      · rfl
      · dsimp only
        split <;> rfl
      · rfl
    rw [State.ownFull, hport]
    exact Bool.not_eq_true _ ▸ hroom

theorem State.takeDrive_safe (f : BusFrame) : s.Safe (s.takeDrive f) := by
  unfold State.takeDrive
  split
  · split
    · exact (State.Steady.foldl (fun t i => t.raise_steady _) ..).safe
    · exact s.forwardFrom_safe ..
  · exact s.forwardFrom_safe ..

/-! ## Loads (R160 to R163) -/

/-- The load context alone replaced, with no SAVE in flight where one stands open (R168). -/
theorem State.setLoad_safe {l : Option LoadContext} (h : s.saving = none ∨ l = none) : s.Safe { s with load := l } := by
  refine ⟨id, id, id, fun hs => ?_⟩
  obtain ⟨hround, horder, hrefresh, hcontrol, hphase, hboot, hwait, hsaving, hslots⟩ := hs
  refine ⟨hround, horder, hrefresh, hcontrol, hphase, hboot, hwait, fun hx => ?_, hslots⟩
  obtain hnone | rfl := h
  · exact absurd hx (by simp [hnone])
  · exact ⟨(hsaving hx).1, rfl⟩

theorem State.openLoad_steady (t : TableId) (length : Nat) : State.Steady
    { s with load := some { table := t, length := length, bytes := [], idle := s.now + loadIdleTicks } } (s.openLoad t length) := by
  unfold State.openLoad
  dsimp only
  split
  · exact (State.tables_steady ..).trans (State.ownerLoses_steady ..)
  · exact State.tables_steady ..

theorem State.passLoad_steady (t : TableId) (d : TableData) : State.Steady { s with load := none } (s.passLoad t d) := by
  unfold State.passLoad
  dsimp only
  split
  · exact (State.clear_steady ..).trans (State.takeContents_steady ..)
  · split
    · exact ((State.clear_steady ..).trans (State.tables_steady ..)).trans (State.takeContents_steady ..)
    · exact (State.clear_steady ..).trans (State.tables_steady ..)

theorem State.failLoad_steady (t : TableId) : State.Steady { s with load := none } (s.failLoad t) :=
  (State.tables_steady ..).trans (State.raise_steady ..)

/-- A change of the load context, what follows from it, and the reply. -/
theorem State.load_safe_reply {l : Option LoadContext} {t : State} (h : s.saving = none ∨ l = none)
    (ht : State.Steady { s with load := l } t) (hroom : s.ownFull = false) (code : Byte) (r : Result) (data : List Byte) :
    s.Safe (t.reply code r data) :=
  (s.setLoad_safe h).trans (ht.safe_reply hroom code r data)

theorem execLoadBegin_safe (table : Byte) (length : BitVec 16) : s.GoesOnSafely (execLoadBegin table length s) := by
  refine (State.request_safe fun hroom => ?_).goesOn
  split
  next t hj =>
    have hsaving : s.saving = none := by
      unfold State.judgeLoadBegin at hj
      split at hj
      · cases hj
      next h => exact Option.not_isSome_iff_eq_none.1 h
    exact s.load_safe_reply (.inl hsaving) (s.openLoad_steady t _) hroom ..
  · exact State.reply_safe hroom ..

theorem execLoadSegment_safe (offset : BitVec 16) (data : List Byte) : s.GoesOnSafely (execLoadSegment offset data s) := by
  unfold execLoadSegment
  split
  · refine (State.request_safe fun hroom => ?_).goesOn
    split
    next c hj =>
      have hsaving : s.saving = none := by
        unfold State.judgeSegment at hj
        split at hj
        · cases hj
        next h => exact Option.not_isSome_iff_eq_none.1 h
      exact s.load_safe_reply (.inl hsaving) (.refl (s.appendSegment c data)) hroom ..
    · exact State.reply_safe hroom ..
  · refine State.Safe.goesOn ?_
    split
    · exact s.dropOwn_safe
    next hroom => exact State.reply_safe (Bool.not_eq_true _ ▸ hroom) ..

theorem execLoadEnd_safe (crc : BitVec 16) : s.GoesOnSafely (execLoadEnd crc s) := by
  refine (State.request_safe fun hroom => ?_).goesOn
  have failed (t : TableId) (r : Result) : s.Safe ((s.failLoad t).reply 10 r []) :=
    s.load_safe_reply (.inr rfl) (s.failLoad_steady t) hroom ..
  split
  · exact State.reply_safe hroom ..
  · split
    · exact State.reply_safe hroom ..
    · split
      · exact State.reply_safe hroom ..
      · split
        · exact failed ..
        · split
          · exact failed ..
          · exact s.load_safe_reply (.inr rfl) (s.passLoad_steady ..) hroom ..

theorem execLoadAbort_safe : s.GoesOnSafely (execLoadAbort s) := by
  refine (State.request_safe fun hroom => ?_).goesOn
  split
  · exact State.reply_safe hroom ..
  · split
    · exact State.reply_safe hroom ..
    · exact s.load_safe_reply (.inr rfl) (s.failLoad_steady _) hroom ..

/-- An idle load is given up, with no reply (R163). -/
theorem execLoadIdleExpiry_safe : s.GoesOnSafely (execLoadIdleExpiry s) := by
  unfold execLoadIdleExpiry
  split
  · exact .of_due fun _ => (s.setLoad_safe (.inr rfl)).trans (s.failLoad_steady _).safe
  · exact (State.Safe.refl s).goesOn

/-! ## SAVE and the boot read (R168, R169) -/

theorem State.beginSave_safe (hroom : s.ownFull = false) (hm : s.mdc.mode = .config) (hload : s.load = none) :
    s.Safe s.beginSave := by
  unfold State.beginSave
  split
  · exact State.reply_safe hroom ..
  · refine ⟨fun hs => ?_, id, id, fun hs => ?_⟩
    · obtain ⟨hgeneral, -, hport, hdrive, -⟩ := hs
      refine ⟨hgeneral, ?_, hport, hdrive, fun _ => rfl⟩
      have hfree : ¬ 8 ≤ s.desk.portL.ownTotal := of_decide_eq_false hroom
      unfold PortL.ownTotal at hfree
      show s.desk.portL.own.length + 1 ≤ 8
      omega
    · obtain ⟨hround, horder, hrefresh, hcontrol, hphase, hboot, hwait, -, hslots⟩ := hs
      exact ⟨hround, horder, hrefresh, hcontrol, hphase, hboot, hwait, fun _ => ⟨hm, hload⟩, hslots⟩

/-- A SAVE that ends frees its place for the reply (R154). -/
theorem State.endSave_safe (h : s.saving.isSome = true) (r : Result) (n : Nat) : s.Safe (s.endSave r n) := by
  set u := { s with saving := none, desk := { s.desk with portL := { s.desk.portL with savePlace := false } } } with hu
  obtain ⟨hgeneral, hown, hplace, hnotices⟩ := u.desk.pushOwn_spec (replyFrame 12 r (field1 (some n)))
  refine ⟨fun hs => ?_, hnotices, id, fun hs => ?_⟩
  · obtain ⟨hgen, hfull, hport, hdrive, hsave⟩ := hs
    refine ⟨hgeneral.trans hgen, ?_, hport, hdrive, fun hx => nomatch hx⟩
    have htotal : s.desk.portL.ownTotal = u.desk.portL.ownTotal + 1 := by
      simp only [PortL.ownTotal, hsave h, hu]
      rfl
    exact hown.trans (by omega)
  · obtain ⟨hround, horder, hrefresh, hcontrol, hphase, hboot, hwait, -, hslots⟩ := hs
    exact ⟨hround, horder, hrefresh, hcontrol, hphase, hboot, hwait, fun hx => (nomatch hx), hslots⟩

theorem execFlashWriteCompletion_safe (readBack : Option (List Byte)) :
    s.GoesOnSafely (execFlashWriteCompletion readBack s) := by
  unfold execFlashWriteCompletion
  split
  · exact ⟨s, rfl, .refl s⟩
  next w hw =>
    have hsome : s.saving.isSome = true := by rw [hw]; rfl
    have hsome' : (s.writeSlot w.current readBack).saving.isSome = true := hsome
    have written : s.Safe (s.writeSlot w.current readBack) := (State.Quiet.steady .of_same).safe
    split
    · split
      · exact ⟨_, rfl, written.trans (State.endSave_safe _ hsome' ..)⟩
      · refine ⟨_, rfl, fun hs => ?_, id, id, fun hs => ?_⟩
        · obtain ⟨hgeneral, hown, hport, hdrive, hsave⟩ := hs
          exact ⟨hgeneral, hown, hport, hdrive, fun _ => hsave hsome⟩
        · obtain ⟨hround, horder, hrefresh, hcontrol, hphase, hboot, hwait, hsaving, hslots⟩ := hs
          exact ⟨hround, horder, hrefresh, hcontrol, hphase, hboot, hwait, fun _ => hsaving hsome, hslots⟩
    · exact ⟨_, rfl, written.trans (State.endSave_safe _ hsome' ..)⟩

theorem State.raiseBad_steady (l : List (TableId × BootOutcome)) : s.Steady (s.raiseBad l) := by
  refine State.Steady.foldl (fun t p => ?_) l s
  split
  · exact t.raise_steady _
  · exact .refl t
  · exact .refl t

theorem State.takeOutcomes_steady (l : List (TableId × BootOutcome)) : s.Steady (s.takeOutcomes l) := by
  refine State.Steady.foldl (fun t p => ?_) l s
  split
  · exact t.tables_steady _
  · exact t.takeContents_steady _
  · exact .refl t

/-- The boot read ends in STARTING, and the start is decided (R124, R169). -/
theorem State.endBootRead_safe (outcomes : List BootOutcome) (h : s.boot.isSome = true) : s.Safe (s.endBootRead outcomes) := by
  unfold State.endBootRead
  extract_lets l s1
  have hsteady : s.Steady s1 := (s.raiseBad_steady l).trans (State.takeOutcomes_steady ..)
  set v := { s1 with boot := none, mdc := { s1.mdc with phase := none } } with hv
  have hquiet : v.Quiet v.decideStart := v.decideStart_quiet
  refine ⟨fun hs => hquiet.queues (hsteady.safe.queues hs), fun hs => hquiet.desk.notices (hsteady.safe.notices hs),
    fun hs => hquiet.forecast (hsteady.safe.forecasts hs), fun hs => ?_⟩
  obtain ⟨hround, horder, hrefresh, hcontrol, hphase, hboot, hwait, hsaving, hslots⟩ := hsteady.modes hs
  have hphase1 : s1.mdc.phase = some .bootRead := hboot.1 (hsteady.boot.symm ▸ h)
  have hmode : s1.mdc.mode = .starting := hphase (by rw [hphase1]; rfl)
  have hnowait : s1.mdc.startWait = none := Option.not_isSome_iff_eq_none.1 (fun hx => by
    have := hwait.1 hx
    rw [hphase1] at this
    cases this)
  refine v.decideStart_modes rfl hmode ⟨hround, horder, hrefresh, hcontrol, fun hx => (nomatch hx), by simp [hv], ?_, hsaving, hslots⟩
  simp [hv, hnowait]

theorem execFlashReadCompletion_safe : s.GoesOnSafely (execFlashReadCompletion s) := by
  unfold execFlashReadCompletion
  split
  · exact ⟨s, rfl, .refl s⟩
  next b hb =>
    have hsome : s.boot.isSome = true := by rw [hb]; rfl
    dsimp only
    split
    · refine ⟨_, rfl, id, id, id, fun hs => ?_⟩
      obtain ⟨hround, horder, hrefresh, hcontrol, hphase, hboot, hwait, hsaving, hslots⟩ := hs
      exact ⟨hround, horder, hrefresh, hcontrol, hphase, ⟨fun _ => hboot.1 hsome, fun _ => rfl⟩, hwait, hsaving, hslots⟩
    · exact ⟨_, rfl, s.endBootRead_safe _ hsome⟩

end

end Sys2Proof.Machine
end

section
/-! The four invariants (chapters 5 to 11), from the safety of every command. -/

namespace Sys2Proof.Machine

section
variable (s : State)

/-! ## Requests that are not loads -/

theorem State.drawUnless_steady (b : Bool) : s.Steady (s.drawUnless b) := by
  cases b <;> exact State.Quiet.steady .of_same

theorem execReadStatus_safe : s.GoesOnSafely (execReadStatus s) :=
  (State.request_safe fun hroom => State.reply_safe hroom ..).goesOn

theorem execReadPorts_safe : s.GoesOnSafely (execReadPorts s) :=
  (State.request_safe fun hroom => State.reply_safe hroom ..).goesOn

theorem execReadGate_safe (gate : Byte) : s.GoesOnSafely (execReadGate gate s) := by
  refine (State.request_safe fun hroom => ?_).goesOn
  split
  · exact (s.drawUnless_steady _).safe_reply hroom ..
  · exact State.reply_safe hroom ..

theorem execReadChannel_safe (channel : Byte) : s.GoesOnSafely (execReadChannel channel s) := by
  refine (State.request_safe fun hroom => ?_).goesOn
  split
  · exact (s.drawUnless_steady _).safe_reply hroom ..
  · exact State.reply_safe hroom ..

theorem execReadConditions_safe (start : Byte) : s.GoesOnSafely (execReadConditions start s) := by
  refine (State.request_safe fun hroom => ?_).goesOn
  split <;> exact State.reply_safe hroom ..

theorem execReadTable_safe (table : Byte) (offset : BitVec 16) : s.GoesOnSafely (execReadTable table offset s) := by
  refine (State.request_safe fun hroom => ?_).goesOn
  split
  · exact State.reply_safe hroom ..
  · split <;> exact State.reply_safe hroom ..

/-- The counts that an acknowledgement sets to 0 (R145). -/
theorem State.zeroErrors_safe (c : Cond) : s.Safe (s.zeroErrors c) ∧ (s.zeroErrors c).ownFull = s.ownFull := by
  unfold State.zeroErrors
  split
  · exact ⟨⟨id, id, id, id⟩, rfl⟩
  · exact ⟨⟨id, id, id, id⟩, rfl⟩
  · exact ⟨(State.setReachPort_steady ..).safe, by cases ‹ReachSide› <;> rfl⟩
  · exact ⟨.refl s, rfl⟩

theorem execAckCondition_safe (kind subject : Byte) : s.GoesOnSafely (execAckCondition kind subject s) := by
  refine (State.request_safe fun hroom => ?_).goesOn
  split
  next c _ =>
    obtain ⟨hzeroed, hfull⟩ := s.zeroErrors_safe c
    exact hzeroed.trans ((s.acknowledge_steady c).safe_reply (hfull.trans hroom) ..)
  · exact State.reply_safe hroom ..

theorem execSave_safe : s.GoesOnSafely (execSave s) := by
  refine (State.request_safe fun hroom => ?_).goesOn
  split
  · exact State.reply_safe hroom ..
  next hm =>
    split
    · exact State.reply_safe hroom ..
    · split
      · exact State.reply_safe hroom ..
      next hfree =>
        exact s.beginSave_safe hroom (not_not.1 hm) (Option.not_isSome_iff_eq_none.1 (not_or.1 hfree).2)

theorem execEnter_safe : s.GoesOnSafely (execEnter s) := by
  refine (State.request_safe_of_routed (by decide) fun hrouted => ?_).goesOn
  obtain ⟨hroom, hstarted⟩ := hrouted
  split
  · exact State.reply_safe hroom ..
  · split
    · exact State.reply_safe hroom ..
    · split
      · exact State.reply_safe hroom ..
      next hsaving =>
        split
        · exact State.reply_safe hroom ..
        · split
          · exact State.reply_safe hroom ..
          · exact s.enterGovern_quiet.safe_pushOwn hroom (fun h => s.enterGovern_modes (h.started hstarted).2.1
              (Option.not_isSome_iff_eq_none.1 hsaving)) _

/-- RESUME enters GOVERN from FALLBACK or FROZEN (R133). -/
theorem State.resumed_safe (hroom : s.ownFull = false) (hm : s.mdc.mode = .fallback ∨ s.mdc.mode = .frozen) :
    s.Safe (s.enterGovern.reply 14 .done []) := by
  refine s.enterGovern_quiet.safe_pushOwn hroom (fun h => s.enterGovern_modes (h.started ?_).2.1 (h.saving_none ?_)) _ <;>
    obtain hm | hm := hm <;> rw [hm] <;> decide

theorem execResume_safe : s.GoesOnSafely (execResume s) := by
  refine (State.request_safe fun hroom => ?_).goesOn
  split
  · exact State.reply_safe hroom ..
  · split
    next hm =>
      split
      · exact s.resumed_safe hroom (.inl hm)
      · exact State.reply_safe hroom ..
    next hm =>
      split
      · exact State.reply_safe hroom ..
      · exact s.resumed_safe hroom (.inr hm)
    all_goals exact State.reply_safe hroom ..

theorem execFreeze_safe : s.GoesOnSafely (execFreeze s) := by
  refine (State.request_safe fun hroom => ?_).goesOn
  split
  · exact State.reply_safe hroom ..
  next hg =>
    split
    · exact State.reply_safe hroom ..
    · obtain ⟨hquiet, hmodes⟩ := s.enterFrozen_mild (Bool.not_eq_false _ ▸ hg)
      exact hquiet.safe_pushOwn hroom hmodes _

theorem execConfigure_safe : s.GoesOnSafely (execConfigure s) := by
  refine (State.request_safe_of_routed (by decide) fun hrouted => ?_).goesOn
  obtain ⟨hroom, hstarted⟩ := hrouted
  split
  · exact State.reply_safe hroom ..
  · split
    · exact State.reply_safe hroom ..
    · split
      · exact State.reply_safe hroom ..
      · exact s.enterConfig_quiet.safe_pushOwn hroom (s.enterConfig_safe fun h => (h.started hstarted).2.1).modes _

theorem execRestart_safe : s.GoesOnSafely (execRestart s) := by
  refine (State.request_safe fun hroom => ?_).goesOn
  split
  · exact State.reply_safe hroom ..
  · refine State.Quiet.safe_pushOwn ?_ hroom ?_ _
    · exact .of_same
    · exact id

theorem execRestoreForecast_safe : s.GoesOnSafely (execRestoreForecast s) := by
  refine (State.request_safe fun hroom => ?_).goesOn
  split
  · exact State.reply_safe hroom ..
  · exact State.Steady.safe_reply (State.Quiet.steady .of_same) hroom ..

theorem execClearGate_safe (gate : Byte) : s.GoesOnSafely (execClearGate gate s) := by
  refine (State.request_safe fun hroom => ?_).goesOn
  split
  · dsimp only
    split
    · exact (s.clearGate_steady _).safe_reply hroom ..
    · exact State.reply_safe hroom ..
  · exact State.reply_safe hroom ..

/-- Every request (R156). -/
theorem Request.exec_safe (r : Request) : s.GoesOnSafely (r.exec s) := by
  cases r with
  | readStatus => exact execReadStatus_safe s
  | readGate g => exact execReadGate_safe s g
  | readChannel c => exact execReadChannel_safe s c
  | readConditions n => exact execReadConditions_safe s n
  | readPorts => exact execReadPorts_safe s
  | readTable t o => exact execReadTable_safe s t o
  | ackCondition k u => exact execAckCondition_safe s k u
  | loadBegin t n => exact execLoadBegin_safe s t n
  | loadSegment o d => exact execLoadSegment_safe s o d
  | loadEnd c => exact execLoadEnd_safe s c
  | loadAbort => exact execLoadAbort_safe s
  | save => exact execSave_safe s
  | enter => exact execEnter_safe s
  | resume => exact execResume_safe s
  | freeze => exact execFreeze_safe s
  | configure => exact execConfigure_safe s
  | restoreForecast => exact execRestoreForecast_safe s
  | clearGate g => exact execClearGate_safe s g
  | restart => exact execRestart_safe s

theorem State.unknownRequest_safe (payload : List Byte) : s.Safe (s.unknownRequest payload) := by
  unfold State.unknownRequest
  split
  · exact s.dropOwn_safe
  next hroom =>
    rw [Bool.not_eq_true] at hroom
    split
    · exact State.reply_safe hroom ..
    · exact State.Steady.safe_reply (State.Quiet.steady .of_same) hroom ..

/-! ## Frames -/

theorem State.receiveL_safe (f : BusFrame) : s.GoesOnSafely (s.receiveL f) := by
  unfold State.receiveL
  split
  · exact (s.busError_steady .L).safe.goesOn
  · split
    · split
      · exact (s.takeOrder_safe ..).goesOn
      · exact (s.forwardFrom_safe ..).goesOn
    · split
      · exact (s.takeDrive_safe f).goesOn
      · split
        · exact s.controlHeard_safe.goesOn
        · split
          · unfold State.manage
            split
            next r _ => exact Request.exec_safe s r
            · exact (s.unknownRequest_safe _).goesOn
          · exact (s.forwardFrom_safe ..).goesOn

theorem State.receive_safe (p : BusPort) (f : BusFrame) : s.GoesOnSafely (s.receive p f) := by
  cases p with
  | L => exact s.receiveL_safe f
  | F => exact (s.receiveF_safe f).goesOn

theorem execReceiveErrorDiscard_safe (p : BusPort) (raw : List Byte) : s.GoesOnSafely (execReceiveErrorDiscard p raw s) := by
  unfold execReceiveErrorDiscard
  split
  · exact s.receive_safe ..
  · exact (s.busError_steady p).safe.goesOn

theorem execReachReceiveError_safe (p : ReachSide) (raw : List Byte) : s.GoesOnSafely (execReachReceiveError p raw s) := by
  unfold execReachReceiveError
  split
  · exact (s.receiveReach_steady ..).safe.goesOn
  · refine State.Safe.goesOn ?_
    split
    · exact (s.reachError_steady p).safe
    · exact .refl s

/-! ## Power-on and RESTART (R122, R135) -/

/-- Reset values meet the invariants: no queue holds anything, no timer runs, and no start is under way. -/
theorem State.safe_of_fresh {t : State} (hdesk : t.desk = {}) (hyard : t.yard = {}) (hcsu : t.csu = {}) (hrgv : t.rgv = {})
    (hsource : t.mdc = { source := t.mdc.source }) (hboot : t.boot = none) (hsaving : t.saving = none) : s.Safe t := by
  refine ⟨fun _ => ?_, fun _ => ?_, fun _ => ?_, fun _ => ?_⟩
  · unfold State.QueuesOk
    rw [hdesk, hyard, hsaving]
    decide
  · unfold State.NoticesOk
    rw [hdesk]
    simp
  · unfold State.ForecastOk
    rw [hcsu]
    simp
  · unfold State.ModeOk State.gate
    rw [hyard, hcsu, hrgv, hsource, hboot, hsaving]
    refine ⟨rfl, (nomatch ·), (nomatch ·), (nomatch ·), (nomatch ·), by simp, by simp, (nomatch ·), fun i h => ?_⟩
    simp [Yard.gate] at h

theorem execPowerOn_safe (pins : BitVec 2) : s.GoesOnSafely (execPowerOn pins s) := by
  have reset : s.Safe (s.afterPowerOn pins) := s.safe_of_fresh rfl rfl rfl rfl rfl rfl rfl
  refine State.Safe.goesOn (reset.trans ?_)
  split
  · exact (s.afterPowerOn pins).enterConfig_safe fun _ => rfl
  · refine ⟨id, id, id, fun hs => ?_⟩
    obtain ⟨hround, horder, hrefresh, hcontrol, -, -, -, hsaving, hslots⟩ := hs
    exact ⟨hround, horder, hrefresh, hcontrol, fun _ => rfl, by simp, by simp [State.afterPowerOn], hsaving, hslots⟩

/-- The owners that start from the tables held VALID leave the registers of a RESTART as they are (R135). -/
theorem State.restartOwners_steady : ∃ t, s.afterRestart.Steady t ∧ s.restartEffect = t.decideStart := by
  unfold State.restartEffect
  extract_lets s0 s1 s2 s3
  refine ⟨_, ?_, rfl⟩
  have h1 : s0.Steady s1 := by
    unfold s1
    split
    · exact (State.startPortTimers_steady ..).trans (State.startPortTimers_steady ..)
    · exact .refl s0
  have h2 : s1.Steady s2 :=
    ((State.startSeenWatches_steady _).trans (State.startStaleWatches_steady _)).trans (State.followReach_steady _)
  have stamped (u : State) (v : Option Tick) : u.Steady { u with stationValidSince := v } := State.Quiet.steady .of_same
  have h3 : s2.Steady s3 := (stamped s2 _).trans (State.tailwaterDefaultChanged_steady _)
  exact ((h1.trans h2).trans h3).trans (State.computeOwnAcceptance_steady s3)

theorem State.restartEffect_safe : s.Safe s.restartEffect := by
  have reset : s.Safe s.afterRestart := s.safe_of_fresh rfl rfl rfl rfl rfl rfl rfl
  obtain ⟨t, hsteady, heq⟩ := s.restartOwners_steady
  rw [heq]
  have hboot : t.boot = none := hsteady.boot
  have hmode : t.mdc.mode = .starting := by rw [hsteady.mdc]; rfl
  exact (reset.trans hsteady.safe).trans (t.decideStart_quiet.safe (t.decideStart_modes hboot hmode))

theorem execTransmitCompletion_safe (p : BusPort) : s.GoesOnSafely (execTransmitCompletion p s) := by
  cases p with
  | L =>
    unfold execTransmitCompletion
    dsimp only
    split
    · exact (State.Safe.refl s).goesOn
    · split
      · exact s.restartEffect_safe.goesOn
      · have idle : s.Safe { s with desk := { s.desk with portL := { s.desk.portL with sending := none } } } := ⟨id, id, id, id⟩
        exact (idle.trans (State.Steady.of_desk (Desk.kick_calm _)).safe).goesOn
  | F =>
    unfold execTransmitCompletion
    dsimp only
    split
    · exact (State.Safe.refl s).goesOn
    · have idle : s.yard.portF.Calm { s.yard.portF with sending := none } := ⟨le_rfl, id⟩
      exact (State.Steady.of_yard (y := { s.yard with portF := _ }) (idle.trans (PortF.start_calm _)) fun _ => id).safe.goesOn

/-! ## Expiries of the cascade -/

theorem execReachTransmitCompletion_safe (p : ReachSide) : s.GoesOnSafely (execReachTransmitCompletion p s) := by
  unfold execReachTransmitCompletion
  split
  · exact ((State.setReachPort_steady ..).trans (State.startReach_steady ..)).safe.goesOn
  · exact (State.Safe.refl s).goesOn

theorem execReachSilenceExpiry_safe (p : ReachSide) : s.GoesOnSafely (execReachSilenceExpiry p s) := by
  refine State.GoesOnSafely.of_due fun _ => ?_
  refine (State.Steady.trans ?_ (State.raise_steady ..)).safe
  cases p with
  | U => exact State.Quiet.steady .of_same
  | D => exact State.Quiet.steady .of_same

theorem execLinkPeriodExpiry_safe (p : ReachSide) : s.GoesOnSafely (execLinkPeriodExpiry p s) := by
  unfold execLinkPeriodExpiry
  dsimp only
  split
  · split
    · exact ((State.setReachPort_steady ..).trans (State.placeAccept_steady ..)).safe.goesOn
    · exact ((State.setReachPort_steady ..).trans (State.startReach_steady ..)).safe.goesOn
  · exact (State.Safe.refl s).goesOn

theorem execForecastDueExpiry_safe : s.GoesOnSafely (execForecastDueExpiry s) := by
  refine State.GoesOnSafely.of_due fun _ => ?_
  have hrefresh : (mature s.now s.csu.queue s.csu).refreshTimer = s.csu.refreshTimer := by rw [mature_spec]
  have hquiet : s.Quiet { s with csu := mature s.now s.csu.queue s.csu } :=
    ⟨.refl _, .refl _, fun _ => id, fun h => h.of_sublist (mature_queue ..), rfl, rfl, rfl⟩
  exact (hquiet.steady rfl rfl hrefresh).safe

theorem State.stopRefresh_steady : s.Steady s.stopRefresh := ⟨s.stopRefresh_quiet, rfl, rfl, fun h => nomatch h⟩

theorem execRefreshTimerExpiry_safe : s.GoesOnSafely (execRefreshTimerExpiry s) := by
  refine State.GoesOnSafely.of_due fun _ => ?_
  split
  next hon => exact (s.placeRelease_steady (Bool.and_eq_true_iff.1 hon).1).safe
  · exact s.stopRefresh_steady.safe

/-! ## Expiries of the station -/

theorem timerDue_isSome {t : Timer} {now : Tick} (h : timerDue t now = true) : t.isSome = true := by
  cases t with
  | none => cases h
  | some _ => rfl

theorem execGoverningRound_safe : s.GoesOnSafely (execGoverningRound s) := by
  refine State.GoesOnSafely.of_due fun hdue => ?_
  have restarted : s.Safe s.restartRound := State.Quiet.safe .of_same fun h => by
    obtain ⟨hround, hrest⟩ := h
    exact ⟨(timerDue_isSome hdue).symm.trans hround, hrest⟩
  exact restarted.trans s.takeRound_steady.safe

theorem execStartWaitExpiry_safe : s.GoesOnSafely (execStartWaitExpiry s) := by
  refine State.GoesOnSafely.of_due fun hdue => s.failStartWait_quiet.safe fun h => ?_
  simp only [State.startWaitDue, Bool.and_eq_true, beq_iff_eq] at hdue
  obtain ⟨⟨hm, hphase⟩, -⟩ := hdue
  have hsaving : s.saving = none := h.saving_none (by simp [hm])
  refine State.enterConfig_modes _ (h.boot_none (by simp [hphase])) (fun hx => ?_)
  have hsome : s.saving.isSome = true := hx
  rw [hsaving] at hsome
  cases hsome

theorem execOrderTimerExpiry_safe : s.GoesOnSafely (execOrderTimerExpiry s) := by
  unfold execOrderTimerExpiry
  split
  next hdue =>
    split
    next hm =>
      refine ((s.raise_steady .controlSilent).safe.trans (State.enterFallback_safe _ fun _ => ?_)).goesOn
      show s.mdc.mode.governing = true
      rw [hm]
      rfl
    · refine State.Safe.goesOn (State.Safe.trans (State.Quiet.safe .of_same fun h => ?_) (State.raise_steady ..).safe)
      obtain ⟨hround, -, hrefresh, -, hrest⟩ := h
      exact ⟨hround, fun hx => (nomatch hx), hrefresh, fun hx => (nomatch hx), hrest⟩
  · exact (State.Safe.refl s).goesOn

theorem execStaleWatchExpiry_safe (c : Fin 8) : s.GoesOnSafely (execStaleWatchExpiry c s) :=
  State.GoesOnSafely.of_due fun _ => ((s.goStale_steady c).mild.trans (State.startWaitAfter_mild ..)).safe

/-! ## Expiries of gates and groups -/

theorem execSeenWatchExpiry_safe (i : Fin 16) : s.GoesOnSafely (execSeenWatchExpiry i s) :=
  .of_due fun _ => (s.faultGate_steady ..).safe

theorem execRecoveringExpiry_safe (i : Fin 16) : s.GoesOnSafely (execRecoveringExpiry i s) := by
  unfold execRecoveringExpiry
  split
  · split
    · exact (s.onYard_steady (fun _ => Yard.firstLock_acts)).safe.goesOn
    · exact (s.faultGate_steady ..).safe.goesOn
  · exact (State.Safe.refl s).goesOn

theorem execTcyWaitExpiry_safe (i : Fin 16) : s.GoesOnSafely (execTcyWaitExpiry i s) := by
  refine .of_due fun _ => (State.Steady.trans ?_ (State.onYard_steady _ (fun _ => Yard.testLocked_acts))).safe
  exact s.setGate_steady_of_slot rfl

theorem execUnlockingExpiry_safe (i : Fin 16) : s.GoesOnSafely (execUnlockingExpiry i s) := by
  unfold execUnlockingExpiry
  split
  · dsimp only
    split
    · refine (State.Steady.trans ?_ (State.onYard_steady _ (fun _ => Yard.enterFree_acts))).safe.goesOn
      exact s.setGate_steady_of_slot rfl
    · exact (s.faultGate_steady ..).safe.goesOn
  · exact (State.Safe.refl s).goesOn

theorem execLockAllowedExpiry_safe (i : Fin 16) : s.GoesOnSafely (execLockAllowedExpiry i s) := by
  refine .of_due fun _ => (s.onYard_steady fun e y => ?_).safe
  exact (Yard.issue_acts ..).after rfl

theorem execLockingExpiry_safe (i : Fin 16) : s.GoesOnSafely (execLockingExpiry i s) := by
  unfold execLockingExpiry
  split
  · split
    · exact (s.onYard_steady (fun _ => Yard.endCycle_acts)).safe.goesOn
    · exact (s.faultGate_steady ..).safe.goesOn
  · exact (State.Safe.refl s).goesOn

theorem execSpillRunExpiry_safe (i : Fin 16) : s.GoesOnSafely (execSpillRunExpiry i s) :=
  .of_due fun _ => (s.onYard_steady (fun _ => Yard.stopRun_acts)).safe

theorem execReversalDwellExpiry_safe (i : Fin 16) : s.GoesOnSafely (execReversalDwellExpiry i s) :=
  .of_due fun _ => (s.onYard_steady (fun _ => Yard.endDwell_acts)).safe

theorem execMoveWatchExpiry_safe (i : Fin 16) : s.GoesOnSafely (execMoveWatchExpiry i s) :=
  .of_due fun _ => (s.faultGate_steady ..).safe

theorem execSilenceWatchExpiry_safe (i : Fin 16) : s.GoesOnSafely (execSilenceWatchExpiry i s) :=
  .of_due fun _ => (s.faultGate_steady ..).safe

theorem execLagWatchExpiry_safe (i : Fin 16) : s.GoesOnSafely (execLagWatchExpiry i s) := by
  refine .of_due fun _ => (State.Steady.trans ?_ (State.raise_steady ..)).safe
  exact s.setGate_steady_of_slot rfl

theorem execSpacingExpiry_safe (k : Fin 4) : s.GoesOnSafely (execSpacingExpiry k s) :=
  .of_due fun _ => (s.yard_steady (e := s.yardEnv) (i := 0)
    ((Yard.setGroup_drifts ..).trans (Yard.grantCheck_drifts ..)).acts).safe

theorem execOrderHoldExpiry_safe (i : Fin 16) : s.GoesOnSafely (execOrderHoldExpiry i s) := by
  refine .of_due fun _ => State.Steady.safe (s.setGate_steady fun h => ?_)
  simpa using h

/-! ## Steps -/

theorem exec_safe (c : Instr) : s.GoesOnSafely (exec c s) := by
  cases c with
  | powerOn modePins => exact execPowerOn_safe s modePins
  | flashReadCompletion => exact execFlashReadCompletion_safe s
  | startWaitExpiry => exact execStartWaitExpiry_safe s
  | sampleReceived f => exact s.receive_safe .F f
  | reportReceived f => exact s.receive_safe .F f
  | orderReceived f => exact s.receive_safe .L f
  | keepaliveReceived f => exact s.receive_safe .L f
  | driveFrameReceived f => exact s.receive_safe .L f
  | frameForward p f => exact s.receive_safe p f
  | manageUnknownRequest f => exact s.receive_safe .L f
  | readStatus => exact execReadStatus_safe s
  | readGate gate => exact execReadGate_safe s gate
  | readChannel channel => exact execReadChannel_safe s channel
  | readConditions start => exact execReadConditions_safe s start
  | readPorts => exact execReadPorts_safe s
  | readTable table offset => exact execReadTable_safe s table offset
  | ackCondition kind subject => exact execAckCondition_safe s kind subject
  | loadBegin table length => exact execLoadBegin_safe s table length
  | loadSegment offset data => exact execLoadSegment_safe s offset data
  | loadEnd crc => exact execLoadEnd_safe s crc
  | loadAbort => exact execLoadAbort_safe s
  | loadIdleExpiry => exact execLoadIdleExpiry_safe s
  | save => exact execSave_safe s
  | flashWriteCompletion readBack => exact execFlashWriteCompletion_safe s readBack
  | enter => exact execEnter_safe s
  | resume => exact execResume_safe s
  | freeze => exact execFreeze_safe s
  | configure => exact execConfigure_safe s
  | restoreForecast => exact execRestoreForecast_safe s
  | clearGate gate => exact execClearGate_safe s gate
  | restart => exact execRestart_safe s
  | releaseReceived f => exact (s.receiveReach_steady .U f).safe.goesOn
  | acceptReceived f => exact (s.receiveReach_steady .D f).safe.goesOn
  | linkcheckReceived p f => exact (s.receiveReach_steady p f).safe.goesOn
  | transmitCompletion p => exact execTransmitCompletion_safe s p
  | reachTransmitCompletion p => exact execReachTransmitCompletion_safe s p
  | seenWatchExpiry g => exact execSeenWatchExpiry_safe s g
  | recoveringExpiry g => exact execRecoveringExpiry_safe s g
  | tcyWaitExpiry g => exact execTcyWaitExpiry_safe s g
  | unlockingExpiry g => exact execUnlockingExpiry_safe s g
  | lockAllowedExpiry g => exact execLockAllowedExpiry_safe s g
  | lockingExpiry g => exact execLockingExpiry_safe s g
  | spillRunExpiry g => exact execSpillRunExpiry_safe s g
  | reversalDwellExpiry g => exact execReversalDwellExpiry_safe s g
  | moveWatchExpiry g => exact execMoveWatchExpiry_safe s g
  | silenceWatchExpiry g => exact execSilenceWatchExpiry_safe s g
  | lagWatchExpiry g => exact execLagWatchExpiry_safe s g
  | spacingExpiry k => exact execSpacingExpiry_safe s k
  | governingRound => exact execGoverningRound_safe s
  | refreshTimerExpiry => exact execRefreshTimerExpiry_safe s
  | orderHoldExpiry g => exact execOrderHoldExpiry_safe s g
  | orderTimerExpiry => exact execOrderTimerExpiry_safe s
  | staleWatchExpiry c => exact execStaleWatchExpiry_safe s c
  | reachSilenceExpiry p => exact execReachSilenceExpiry_safe s p
  | linkPeriodExpiry p => exact execLinkPeriodExpiry_safe s p
  | forecastDueExpiry => exact execForecastDueExpiry_safe s
  | receiveErrorDiscard p raw => exact execReceiveErrorDiscard_safe s p raw
  | reachReceiveError p raw => exact execReachReceiveError_safe s p raw

/-- What is safe after the queue of commands, the draws or the tick moved on is safe from before. -/
theorem State.GoesOnSafely.after {u : State} {o : Host.Outcome State Fault Refusal} (hu : s.Safe u) (h : u.GoesOnSafely o) :
    s.GoesOnSafely o := by
  obtain ⟨t, ht, hsafe⟩ := h
  exact ⟨t, ht, hu.trans hsafe⟩

theorem OwnEvent.exec_safe (e : OwnEvent) : s.GoesOnSafely (e.exec s) := by
  cases e with
  | expiry c => exact Machine.exec_safe s c
  | grant i => exact (s.yard_steady (e := s.yardEnv) (i := i) (Yard.deliverGrant_drifts ..).acts).safe.goesOn

theorem step_safe : s.GoesOnSafely (step s) := by
  unfold step State.idle
  split
  · exact .after s (State.Quiet.steady .of_same).safe (exec_safe ..)
  · split
    · exact (State.Quiet.steady .of_same).safe.goesOn
    · exact .after s (State.Quiet.steady .of_same).safe (OwnEvent.exec_safe ..)

end

theorem step_safe_of_next {s t : State} (h : step s = .next t) : s.Safe t := by
  obtain ⟨u, hu, hsafe⟩ := step_safe s
  obtain rfl : u = t := Host.Outcome.next.inj (hu.symm.trans h)
  exact hsafe

/-! ## The invariants -/

/-- Settles O56: no operation within an event fills a queue beyond what the hand-off test allows, a request is taken with room alone, and a
forwarded frame is dropped where its queue is full. -/
theorem queuesStayBounded : Obligations.QueuesStayBounded := fun _ _ hs h => (step_safe_of_next h).queues hs

/-- Settles O57: a raise alone places a notice, of a record it found not latched, and an acknowledgement takes the notice with the latch. -/
theorem noticesStayInOrder : Obligations.NoticesStayInOrder := fun _ _ hs h => (step_safe_of_next h).notices hs

/-- Settles O58: a notice joins at the tail with its due tick held back to the tail's, and a full queue gives up its head for it. -/
theorem forecastsStayInOrder : Obligations.ForecastsStayInOrder := fun _ _ hs h => (step_safe_of_next h).forecasts hs

/-- Settles O59: the entries to the modes set the timers each mode allows, and every other operation is steady. -/
theorem timersFollowTheMode : Obligations.TimersFollowTheMode := fun _ _ hs h => (step_safe_of_next h).modes hs

/-- Settles O60: in the reset state every queue is empty, and the boot read is the one thing under way. -/
theorem resetMeetsTheInvariants : Obligations.ResetMeetsTheInvariants := by
  unfold Obligations.ResetMeetsTheInvariants State.QueuesOk State.NoticesOk State.ForecastOk State.ModeOk
  decide +kernel

end Sys2Proof.Machine
end

section
/-! Steps, ports and frames (chapters 0 and 10): the queue of commands, frames that are forwarded or fail a check, requests in the order of
their judging, and the frame that a transmitter takes next. -/

namespace Sys2Proof.Machine

/-! ## Steps -/

/-- Settles O1: the front of the queue decides the step. -/
theorem stepTakesTheFrontCommand : Obligations.StepTakesTheFrontCommand := fun _ _ _ => rfl

theorem step_of_no_command {s : State} (h : s.pending = []) : step s = s.idle := by
  simp only [step, h]

/-- Where events of the part's own are due, one of them comes. -/
theorem State.idle_event {s : State} (h : s.ownEvents ≠ []) :
    ∃ e ∈ s.ownEvents, s.idle = e.exec { s with draws := s.draws + 1 } := by
  unfold State.idle
  cases he : s.ownEvents with
  | nil => exact absurd he h
  | cons e r =>
    have hlt : Config.tieBreak s.draws % (r.length + 1) < (e :: r).length := Nat.mod_lt _ (Nat.succ_pos _)
    refine ⟨(e :: r).getD (Config.tieBreak s.draws % (r.length + 1)) e, ?_, rfl⟩
    rw [List.getD_eq_getElem _ _ hlt]
    exact List.getElem_mem hlt

/-- Settles O2: an expiry that is due or a grant in flight comes first, and the tick goes up where there is neither. -/
theorem idleStepsTakeDueExpiriesOrTick : Obligations.IdleStepsTakeDueExpiriesOrTick := by
  intro s hs
  have hnone : s.ownEvents = [] ↔ s.dueEvents = [] ∧ s.yard.inFlight = [] := by simp [State.ownEvents]
  refine ⟨fun hdue hflight => ?_, fun h => ?_⟩
  · rw [step_of_no_command hs]
    simp only [State.idle, hnone.2 ⟨hdue, hflight⟩]
  · obtain ⟨e, he, hidle⟩ := State.idle_event (mt hnone.1 h)
    rw [step_of_no_command hs, hidle]
    obtain hexp | hgrant := List.mem_append.1 he
    · obtain ⟨c, hc, rfl⟩ := List.mem_map.1 hexp
      exact .inl ⟨c, hc, rfl⟩
    · obtain ⟨i, hi, rfl⟩ := List.mem_map.1 hgrant
      exact .inr ⟨i, hi, rfl⟩

/-! ## Forwarding (R150 to R152) -/

section
variable {s : State} {f : BusFrame}

theorem Desk.forward_busy {d : Desk} (f : BusFrame) (hroom : d.portL.general.length < 8) (hs : d.portL.sending.isSome = true) :
    d.forward f = { d with portL := { d.portL with general := d.portL.general ++ [f] } } := by
  obtain ⟨x, hx⟩ := Option.isSome_iff_exists.1 hs
  simp [Desk.forward, Desk.kick, Nat.not_le.2 hroom, hx]

theorem Desk.forward_idle {d : Desk} (f : BusFrame) (hg : d.portL.general = []) (ho : d.portL.own = [])
    (hs : d.portL.sending = none) : d.forward f = { d with portL := { d.portL with sending := some (.general f) } } := by
  simp [Desk.forward, Desk.kick, PortL.start, hg, ho, hs]

theorem Desk.forward_full {d : Desk} (f : BusFrame) (h : 8 ≤ d.portL.general.length) :
    d.forward f = { d with portL := { d.portL with dropped := countUp d.portL.dropped } } := by
  simp [Desk.forward, h]

theorem PortF.forward_busy {p : PortF} (f : BusFrame) (hroom : p.general.length < 8) (hs : p.sending.isSome = true) :
    p.forward f = { p with general := p.general ++ [f] } := by
  obtain ⟨x, hx⟩ := Option.isSome_iff_exists.1 hs
  simp [PortF.forward, PortF.start, Nat.not_le.2 hroom, hx]

theorem PortF.forward_idle {p : PortF} (f : BusFrame) (hg : p.general = []) (hd : p.drive = []) (hs : p.sending = none) :
    p.forward f = { p with sending := some (.general f) } := by
  simp [PortF.forward, PortF.start, hg, hd, hs]

theorem PortF.forward_full {p : PortF} (f : BusFrame) (h : 8 ≤ p.general.length) :
    p.forward f = { p with dropped := countUp p.dropped } := by
  simp [PortF.forward, h]

theorem State.receiveF_other (hv : busFrameValid .F f = true) (hsample : f.kind ≠ kindSample) (hreport : f.kind ≠ kindReport) :
    s.receiveF f = s.forwardFrom .F f := by
  simp [State.receiveF, hv, hsample, hreport]

theorem State.receiveF_sample (hv : busFrameValid .F f = true) (hk : f.kind = kindSample) :
    s.receiveF f = (s.takeSample (readSample f)).forwardFrom .F f := by
  simp [State.receiveF, hv, hk]

theorem State.receiveF_report (hv : busFrameValid .F f = true) (hk : f.kind = kindReport) :
    s.receiveF f = (s.offerReport f.source.toNat (readReport f)).forwardFrom .F f := by
  simp [State.receiveF, hv, hk, (by decide : kindReport ≠ kindSample)]

theorem State.receiveL_other (hv : busFrameValid .L f = true) (horder : f.kind ≠ kindOrder) (hdrive : f.kind ≠ kindDrive)
    (hd : f.destination ≠ partAddress) : s.receiveL f = .next (s.forwardFrom .L f) := by
  simp [State.receiveL, hv, horder, hdrive, hd]

theorem State.takeSample_unmatched {x : Sample} (h : s.tables.sampleChannel x = none) : s.takeSample x = s := by
  simp [State.takeSample, h]

theorem State.offerReport_unmatched {address : Nat} (h : s.tables.reportGates address = []) (r : Report) :
    s.offerReport address r = s := by
  simp [State.offerReport, h]

/-- A frame forwarded after a quiet event, while the transmitter of Port L is busy. -/
theorem State.Quiet.forwarded {t : State} (h : s.Quiet t) (hs : s.desk.portL.sending.isSome = true) (f : BusFrame) :
    let l := s.desk.portL
    let out := (t.forwardFrom .F f).desk.portL
    out.sending = l.sending ∧
    (l.general.length < 8 → out.general = l.general ++ [f] ∧ out.dropped = l.dropped) ∧
    (l.general.length = 8 → out.general = l.general ∧ out.dropped = min (l.dropped + 1) 65535) := by
  intro l out
  obtain ⟨hsending, hgeneral⟩ := h.desk.port.busy hs
  have hdropped := h.desk.port.dropped
  have hbusy : t.desk.portL.sending.isSome = true := hsending ▸ hs
  by_cases hroom : l.general.length < 8
  · have hout : out = { t.desk.portL with general := t.desk.portL.general ++ [f] } :=
      congrArg Desk.portL (Desk.forward_busy f (by rwa [hgeneral]) hbusy)
    rw [hout, hgeneral]
    exact ⟨hsending, fun _ => ⟨rfl, hdropped⟩, fun h8 => absurd hroom (by omega)⟩
  · have hout : out = { t.desk.portL with dropped := countUp t.desk.portL.dropped } :=
      congrArg Desk.portL (Desk.forward_full f (by rw [hgeneral]; exact Nat.not_lt.1 hroom))
    rw [hout, hdropped]
    exact ⟨hsending, fun h8 => absurd h8 hroom, fun _ => ⟨hgeneral, rfl⟩⟩

end

/-- Settles O25: a frame that no block takes is forwarded as its port stands, and a SAMPLE or REPORT after a quiet event. -/
theorem framesAreForwarded : Obligations.FramesAreForwarded := by
  intro s f l p
  refine ⟨fun hsample hreport horder hdrive hd => ⟨fun hv => ?_, fun hv => ?_⟩, fun c hv hc => ?_⟩
  · have hexec : exec (.frameForward .F f) s = .next { s with desk := s.desk.forward f } :=
      congrArg Host.Outcome.next (State.receiveF_other hv hsample hreport)
    rw [hexec]
    refine ⟨fun hroom hs => ?_, fun hg ho hs => ?_, fun h8 => ?_⟩
    · rw [Desk.forward_busy f hroom hs]
    · rw [Desk.forward_idle f hg ho hs]
    · rw [Desk.forward_full f h8.ge]
      rfl
  · have hexec : exec (.frameForward .L f) s = .next { s with yard := { s.yard with portF := s.yard.portF.forward f } } :=
      State.receiveL_other hv horder hdrive hd
    rw [hexec]
    refine ⟨fun hroom hs => ?_, fun hg ho hs => ?_, fun h8 => ?_⟩
    · rw [PortF.forward_busy f hroom hs]
    · rw [PortF.forward_idle f hg ho hs]
    · rw [PortF.forward_full f h8.ge]
      rfl
  · obtain ⟨hk, rfl⟩ | ⟨hk, rfl⟩ := hc
    · have hexec : exec (.sampleReceived f) s = .next ((s.takeSample (readSample f)).forwardFrom .F f) :=
        congrArg Host.Outcome.next (State.receiveF_sample hv hk)
      refine ⟨fun hnone _ => ?_, fun hs => ⟨_, hexec, (s.takeSample_mild _).1.forwarded hs f⟩⟩
      rw [hexec, State.takeSample_unmatched (hnone hk)]
      rfl
    · have hexec : exec (.reportReceived f) s = .next ((s.offerReport f.source.toNat (readReport f)).forwardFrom .F f) :=
        congrArg Host.Outcome.next (State.receiveF_report hv hk)
      refine ⟨fun _ hnone => ?_, fun hs => ⟨_, hexec, (s.offerReport_mild ..).1.forwarded hs f⟩⟩
      rw [hexec, State.offerReport_unmatched (hnone hk)]
      rfl

/-! ## Receive errors (R102, R104, R148, R149) -/

section
variable (s : State)

@[simp] theorem State.busErrors_setBusErrors (p : BusPort) (n : Nat) : (s.setBusErrors p n).busErrors p = n := by
  cases p <;> rfl

/-- A raise leaves the counts of the ports. -/
theorem State.busErrors_raise (c : Cond) (p : BusPort) : (s.raise c).busErrors p = s.busErrors p := by
  cases p with
  | F => rfl
  | L =>
    have pushed (q : PortL) (f : BusFrame) : (q.pushOwn f).errors = q.errors := by
      cases h : q.sending <;> cases ho : q.own <;> simp [PortL.pushOwn, PortL.start, h, ho]
    have handed (records : Vector CondRecord 120) (l : List NoticeEntry) (q : PortL) :
        (handOff records l q).2.errors = q.errors := by
      induction l generalizing q with
      | nil => rfl
      | cons e r ih =>
        unfold handOff
        split
        · rw [ih, pushed]
        · rfl
    show (s.desk.raise s.raiseEnv c).portL.errors = s.desk.portL.errors
    unfold Desk.raise Desk.offer Desk.placeNotice
    dsimp only
    split
    · rfl
    · split
      · rfl
      · split
        · split
          · exact handed ..
          · split
            · rfl
            · split
              · exact handed ..
              · rfl
        · rfl

/-- A count of receive errors and its threshold test: alone below the threshold, or where no STATION table is VALID (R104, R149). -/
theorem State.raiseAtThreshold_spec (u : State) (n : Nat) (c : Cond) :
    let t := match s.tables.station with
      | .valid st => if st.portErrorThreshold ≤ n then u.raise c else u
      | _ => u
    ((∀ st, s.tables.station = .valid st → n < st.portErrorThreshold) → t = u) ∧
    (∀ st, s.tables.station = .valid st → st.portErrorThreshold ≤ n → t = u.raise c) ∧ (t = u ∨ t = u.raise c) := by
  cases hst : s.tables.station with
  | valid st =>
    by_cases hn : st.portErrorThreshold ≤ n
    · refine ⟨fun h => absurd (h st rfl) (by omega), fun x hx _ => ?_, .inr (by simp [hn])⟩
      simp [hn]
    · refine ⟨fun _ => by simp [hn], fun x hx hxn => ?_, .inl (by simp [hn])⟩
      obtain rfl := TableSlot.valid.inj hx
      exact absurd hxn hn
  | absent | loading | invalid => exact ⟨fun _ => rfl, fun _ h => (nomatch h), .inl rfl⟩

theorem State.reachPort_raise (c : Cond) (p : ReachSide) : (s.raise c).reachPort p = s.reachPort p := by cases p <;> rfl

end

theorem exec_receiveErrorDiscard_of_bad {p : BusPort} {raw : List Byte}
    (h : ∀ f, readBusWire raw = some f → busFrameValid p f = false) (s : State) :
    exec (.receiveErrorDiscard p raw) s = .next (s.busError p) := by
  show execReceiveErrorDiscard p raw s = _
  unfold execReceiveErrorDiscard
  split
  next f hf => cases p <;> simp [State.receive, State.receiveL, State.receiveF, h f hf]
  · rfl

theorem exec_reachReceiveError_of_bad {s : State} {p : ReachSide} {raw : List Byte} (hp : s.portPresent p = true)
    (h : ∀ f, readReachWire raw = some f → reachFrameValid p (s.neighbour p) f = false) :
    exec (.reachReceiveError p raw) s = .next (s.reachError p) := by
  show execReachReceiveError p raw s = _
  unfold execReachReceiveError
  split
  next f hf => simp [State.receiveReach, hp, h f hf]
  · simp [hp]

theorem exec_reachReceiveError_of_absent {s : State} {p : ReachSide} (hp : s.portPresent p = false) (raw : List Byte) :
    exec (.reachReceiveError p raw) s = .next s := by
  show execReachReceiveError p raw s = _
  unfold execReachReceiveError
  split <;> simp [State.receiveReach, hp]

/-- Settles O26: a bad frame counts, and PORT_ERRORS is raised at the threshold of a VALID STATION table. -/
theorem receiveErrorsAreCounted : Obligations.ReceiveErrorsAreCounted := by
  intro s raw
  refine ⟨fun p hbad => ?_, fun p hp hbad => ?_, fun p hp => exec_reachReceiveError_of_absent hp raw⟩
  · intro n
    obtain ⟨hbelow, hat, hor⟩ := s.raiseAtThreshold_spec (s.setBusErrors p n) n (.portErrorsBus p)
    refine ⟨_, exec_receiveErrorDiscard_of_bad hbad s, ?_, hbelow, fun st hst hn => ?_⟩
    · obtain h | h := hor
      · exact (congrArg (State.busErrors · p) h).trans (s.busErrors_setBusErrors p n)
      · exact (congrArg (State.busErrors · p) h).trans ((State.busErrors_raise ..).trans (s.busErrors_setBusErrors p n))
    · exact (congrArg (State.Raised · (.portErrorsBus p)) (hat st hst hn)).mpr (State.raised_raise ..)
  · intro n
    obtain ⟨hbelow, hat, hor⟩ :=
      s.raiseAtThreshold_spec (s.setReachPort p { s.reachPort p with errors := n }) n (.portErrorsReach p)
    refine ⟨_, exec_reachReceiveError_of_bad hp hbad, ?_, hbelow, fun st hst hn => ?_⟩
    · obtain h | h := hor
      · exact (congrArg (State.reachPort · p) h).trans (State.setReachPort_reachPort ..)
      · exact (congrArg (State.reachPort · p) h).trans ((State.reachPort_raise ..).trans (State.setReachPort_reachPort ..))
    · exact (congrArg (State.Raised · (.portErrorsReach p)) (hat st hst hn)).mpr (State.raised_raise ..)

/-! ## Requests in the order of their judging (R123, R154, R156) -/

theorem State.request_full {s : State} {code : Byte} {body : State → State} (h : s.ownFull = true) : s.request code body = s.dropOwn := by
  simp only [State.request, h, if_true]

/-- Every request but a LOAD_SEGMENT of another length goes through the judging with its code. -/
theorem Request.exec_judged (r : Request) (hr : ∀ o d, r = .loadSegment o d → segmentLengthOk d = true) (s : State) :
    ∃ body, r.exec s = .next (s.request r.code body) := by
  cases r with
  | loadSegment o d => exact ⟨_, if_pos (hr o d rfl)⟩
  | _ => exact ⟨_, rfl⟩

theorem Request.code_eq_one {r : Request} (h : r.code = 1) : r = .readStatus := by
  cases r with
  | readStatus => rfl
  | _ => exact absurd h (by simp [Request.code])

theorem State.receiveL_manage {s : State} {f : BusFrame} (hv : busFrameValid .L f = true) (hk : f.kind = kindManage)
    (hd : f.destination = partAddress) : s.receiveL f = s.manage f.payload := by
  simp [State.receiveL, hv, hk, hd, (by decide : kindManage ≠ kindOrder), (by decide : kindManage ≠ kindDrive),
    (by decide : kindManage ≠ kindKeepalive)]

/-- Settles O27: a full own queue comes first, then STARTING; a payload that spells no request is answered with its code. -/
theorem requestsAreJudgedInOrder : Obligations.RequestsAreJudgedInOrder := by
  refine ⟨fun s r hr => ?_, fun s f code args hv hk hd hpayload hparse hroom => ?_⟩
  · obtain ⟨body, hbody⟩ := r.exec_judged hr s
    refine ⟨fun hfull => ?_, fun hroom hm hne => ?_⟩
    · rw [hbody, State.request_full hfull]
      rfl
    · rw [hbody, State.request_starting hroom hm (mt Request.code_eq_one hne), State.reply, replyFrame_nil]
      rfl
  · have hreceive : exec (.manageUnknownRequest f) s = s.manage f.payload := State.receiveL_manage hv hk hd
    rw [hreceive]
    unfold State.manage
    rw [hparse]
    show Host.Outcome.next (s.unknownRequest f.payload) = _
    unfold State.unknownRequest
    rw [hroom, hpayload, if_neg Bool.false_ne_true]
    simp only [State.reply, replyFrame_nil]
    rfl

/-! ## Transmit completions (R155) -/

/-- Settles O28: on each port the queue of the part's own frames comes before the general queue. -/
theorem transmitCompletionsTakeTheNextFrame : Obligations.TransmitCompletionsTakeTheNextFrame := by
  intro s
  refine ⟨fun hs => ?_, fun hs hdue => ?_⟩
  · have hexec : exec (.transmitCompletion .F) s =
        .next { s with yard := { s.yard with portF := PortF.start { s.yard.portF with sending := none } } } := by
      obtain ⟨x, hx⟩ := Option.isSome_iff_exists.1 hs
      simp [exec, execTransmitCompletion, hx]
    refine ⟨_, hexec, ?_⟩
    cases hd : s.yard.portF.drive with
    | cons e r => simp [PortF.start, hd]
    | nil => cases hg : s.yard.portF.general <;> simp [PortF.start, hd, hg]
  · have hexec : exec (.transmitCompletion .L) s =
        .next { s with desk := Desk.kick { s.desk with portL := { s.desk.portL with sending := none } } } := by
      obtain ⟨x, hx⟩ := Option.isSome_iff_exists.1 hs
      simp [exec, execTransmitCompletion, hx, hdue]
    rw [hexec]
    cases ho : s.desk.portL.own with
    | cons e r => simp [Desk.kick, PortL.start, ho]
    | nil => cases hg : s.desk.portL.general <;> simp [Desk.kick, PortL.start, ho, hg]

end Sys2Proof.Machine
end

section
/-! Requests that read, acknowledge, save and clear (chapters 1, 9, 10 and 11), each from the equation of its body outside STARTING. -/

namespace Sys2Proof.Machine

/-! ## Codes of requests, tables and conditions (R136, R157, R171) -/

theorem beBytes_one (n : Nat) : beBytes 1 n = [BitVec.ofNat 8 n] := rfl

theorem TableId.ofCode_code (id : TableId) : TableId.ofCode id.code = some id := by
  cases id with
  | curve k => revert k; decide
  | _ => decide

theorem TableId.code_of_ofCode {n : Nat} {id : TableId} (h : TableId.ofCode n = some id) : n = id.code :=
  (beq_iff_eq.1 (List.find?_some h :)).symm

theorem Cond.mem_allConds (c : Cond) : c ∈ allConds := List.mem_of_getElem? c.allConds_number

theorem Cond.ofCodes_of_mem : ∀ c ∈ allConds,
    Cond.ofCodes (BitVec.ofNat 8 c.kindCode) (BitVec.ofNat 8 c.subjectCode) = some c := by
  decide +kernel

/-- Each kind and subject of R136 names its own condition. -/
theorem Cond.ofCodes_eq {kind subject : Byte} {c : Cond} (hk : kind.toNat = c.kindCode) (hs : subject.toNat = c.subjectCode) :
    Cond.ofCodes kind subject = some c := by
  have h := Cond.ofCodes_of_mem c c.mem_allConds
  rwa [← hk, ← hs, BitVec.ofNat_toNat, BitVec.ofNat_toNat, BitVec.setWidth_eq, BitVec.setWidth_eq] at h

theorem Cond.ofCodes_none {kind subject : Byte} (h : ∀ c : Cond, ¬(kind.toNat = c.kindCode ∧ subject.toNat = c.subjectCode)) :
    Cond.ofCodes kind subject = none := by
  refine List.find?_eq_none.2 fun c _ hc => h c ?_
  simp only [Bool.and_eq_true, beq_iff_eq] at hc
  exact ⟨hc.1.symm, hc.2.symm⟩

/-! ## Reads (R44, R146, R147, R166, R167) -/

section
variable {s : State}

theorem execReadStatus_eq (h : s.ownFull = false) : execReadStatus s = .next (s.reply 1 .done s.statusData) := by
  simp [execReadStatus, State.request, h]

theorem execReadGate_of_lt (h : s.Routed) {n : Byte} (hn : n.toNat < 16) : execReadGate n s =
    .next ((s.drawUnless s.tables.gates.isValid).reply 2 .done (s.gateData ⟨n.toNat, hn⟩)) :=
  congrArg _ ((h.request_eq 2 _).trans (dif_pos hn))

theorem execReadGate_of_ge (h : s.Routed) {n : Byte} (hn : 15 < n.toNat) :
    execReadGate n s = .next (s.reply 2 .unknownRequest []) :=
  congrArg _ ((h.request_eq 2 _).trans (dif_neg (Nat.not_lt.2 hn)))

theorem execReadChannel_of_lt (h : s.Routed) {n : Byte} (hn : n.toNat < 8) : execReadChannel n s =
    .next ((s.drawUnless s.tables.channels.isValid).reply 3 .done (s.channelData ⟨n.toNat, hn⟩)) :=
  congrArg _ ((h.request_eq 3 _).trans (dif_pos hn))

theorem execReadChannel_of_ge (h : s.Routed) {n : Byte} (hn : 7 < n.toNat) :
    execReadChannel n s = .next (s.reply 3 .unknownRequest []) :=
  congrArg _ ((h.request_eq 3 _).trans (dif_neg (Nat.not_lt.2 hn)))

theorem execReadConditions_of_lt (h : s.Routed) {n : Byte} (hn : n.toNat ≤ 119) :
    execReadConditions n s = .next (s.reply 4 .done (s.conditionsData n.toNat)) := by
  simp only [execReadConditions, h.request_eq, Nat.lt_succ_of_le hn, if_true]

theorem execReadConditions_of_ge (h : s.Routed) {n : Byte} (hn : 119 < n.toNat) :
    execReadConditions n s = .next (s.reply 4 .unknownRequest []) := by
  simp only [execReadConditions, h.request_eq, if_neg (Nat.not_lt.2 hn)]

theorem execReadPorts_eq (h : s.Routed) : execReadPorts s = .next (s.reply 5 .done s.portsData) :=
  congrArg _ (h.request_eq 5 _)

theorem execReadTable_of_image (h : s.Routed) {n : Byte} {o : BitVec 16} {image : List Byte}
    (hi : (TableId.ofCode n.toNat).bind s.tables.image? = some image) : execReadTable n o s = .next
      (if image.length ≤ o.toNat then s.reply 6 .badSegment []
       else s.reply 6 .done (beBytes 2 image.length ++ crcBytes (crc16 image) ++ beBytes 2 o.toNat ++
         (image.drop o.toNat).take 200)) := by
  simp only [execReadTable, h.request_eq, hi]

theorem execReadTable_of_none (h : s.Routed) {n : Byte} {o : BitVec 16}
    (hi : (TableId.ofCode n.toNat).bind s.tables.image? = none) : execReadTable n o s = .next (s.reply 6 .badTable []) := by
  simp only [execReadTable, h.request_eq, hi]

end

theorem State.drawUnless_true (s : State) : s.drawUnless true = s := rfl

theorem BitVec.toNat_ofNat_fin {n : Nat} (hn : n ≤ 256) (i : Fin n) : (BitVec.ofNat 8 i.val).toNat = i.val := by
  rw [BitVec.toNat_ofNat]
  omega

/-- Settles O32: each read is one reply, with the records as they stand. -/
theorem readsAnswerAndChangeNothing : Obligations.ReadsAnswerAndChangeNothing := by
  intro s hroom answered
  have replied (c : Instr) {code : Byte} {r : Result} {data : List Byte} (h : exec c s = .next (s.reply code r data)) :
      answered c ([code, BitVec.ofNat 8 r.code] ++ data) := h.trans (congrArg _ (State.reply_eq ..))
  refine ⟨replied .readStatus (execReadStatus_eq hroom), fun hm => ?_⟩
  have h : s.Routed := ⟨hroom, hm⟩
  refine ⟨fun i hv => ?_, fun n hn => replied (.readGate n) (execReadGate_of_ge h hn), fun c hv => ?_,
    fun n hn => replied (.readChannel n) (execReadChannel_of_ge h hn), fun n hn => replied (.readConditions n) (execReadConditions_of_lt h hn),
    fun n hn => replied (.readConditions n) (execReadConditions_of_ge h hn), replied .readPorts (execReadPorts_eq h), fun n o id d hn hd => ?_,
    fun n o hnone => replied (.readTable n o) (execReadTable_of_none h ?_)⟩
  · have hi := BitVec.toNat_ofNat_fin (by decide) i
    have hread := execReadGate_of_lt h (n := BitVec.ofNat 8 i.val) (hi.trans_lt i.isLt)
    simp only [hi, hv, State.drawUnless_true] at hread
    exact replied (.readGate _) hread
  · have hc := BitVec.toNat_ofNat_fin (by decide) c
    have hread := execReadChannel_of_lt h (n := BitVec.ofNat 8 c.val) (hc.trans_lt c.isLt)
    simp only [hc, hv, State.drawUnless_true] at hread
    exact replied (.readChannel _) hread
  · have himage : (TableId.ofCode n.toNat).bind s.tables.image? = some d.image := by
      rw [hn, TableId.ofCode_code, Option.bind_some, Tables.image?, hd, Option.map_some]
    have hread := execReadTable_of_image (o := o) h himage
    split_ifs at hread ⊢ with hend hin hin
    · omega
    · exact replied (.readTable n o) hread
    · simpa [crcBytes, Result.code, List.append_assoc] using replied (.readTable n o) hread
    · omega
  · cases hc : TableId.ofCode n.toNat with
    | none => rfl
    | some id => simp [Tables.image?, hnone id (TableId.code_of_ofCode hc)]

/-! ## Acknowledgements (R145) -/

theorem execAckCondition_of_some {s : State} (h : s.Routed) {kind subject : Byte} {c : Cond} (hc : Cond.ofCodes kind subject = some c) :
    execAckCondition kind subject s = .next ((s.acknowledge c).reply 7 .done []) := by
  simp only [execAckCondition, h.request_eq, hc]

theorem execAckCondition_of_none {s : State} (h : s.Routed) {kind subject : Byte} (hc : Cond.ofCodes kind subject = none) :
    execAckCondition kind subject s = .next (s.reply 7 .unknownRequest []) := by
  simp only [execAckCondition, h.request_eq, hc]

/-- The desk after an acknowledgement of a record: latch and first-set tick cleared, and the active state of the kinds that nothing else
clears; its notice taken (R145). -/
def Desk.acknowledged (d : Desk) (c : Cond) : Desk :=
  { d.setRecord c { active := (d.record c).active && !(c.kindCode == 13 || c.kindCode == 16), latched := false, firstSet := none } with
    notices := d.notices.filter (fun e => decide (e.cond ≠ c)) }

theorem Desk.acknowledge_then_clear (d : Desk) {c : Cond} (h : (c.kindCode == 13 || c.kindCode == 16) = true) :
    (d.acknowledge c).clear c = d.acknowledged c := by
  simp [Desk.acknowledge, Desk.acknowledged, Desk.clear, Desk.setRecord, Desk.record, h]

theorem Desk.acknowledge_alone (d : Desk) {c : Cond} (h : (c.kindCode == 13 || c.kindCode == 16) = false) :
    d.acknowledge c = d.acknowledged c := by
  simp [Desk.acknowledge, Desk.acknowledged, h]

theorem Cond.ackClears_eq (c : Cond) : c.ackClears = (c.kindCode == 13 || c.kindCode == 16) := by
  cases c <;> rfl

theorem Desk.acknowledged_record_ne (d : Desk) {c x : Cond} (h : x ≠ c) : (d.acknowledged c).record x = d.record x :=
  d.record_setRecord_ne _ h

/-- An acknowledgement: the record alone, but for PORT_ERRORS, which sets the counts of its port to 0 (R104, R145, R149). -/
theorem State.acknowledge_eq (s : State) (c : Cond) : s.acknowledge c = State.zeroErrors { s with desk := s.desk.acknowledged c } c := by
  have hclear := s.desk.acknowledge_then_clear (c := c)
  have halone := s.desk.acknowledge_alone (c := c)
  cases c with
  | portErrorsBus p =>
    cases p with
    | L => exact congrArg (fun d : Desk => { s with desk := { d with portL := { d.portL with errors := 0, dropped := 0 } } }) (hclear rfl)
    | F => exact congrArg (fun d : Desk => State.zeroErrors { s with desk := d } (.portErrorsBus .F)) (hclear rfl)
  | portErrorsReach p =>
    cases p with
    | U => exact congrArg (fun d : Desk => State.zeroErrors { s with desk := d } (.portErrorsReach .U)) (hclear rfl)
    | D => exact congrArg (fun d : Desk => State.zeroErrors { s with desk := d } (.portErrorsReach .D)) (hclear rfl)
  | noticeLost => exact congrArg (fun d : Desk => { s with desk := d }) (hclear rfl)
  | _ => exact congrArg (fun d : Desk => { s with desk := d }) (halone rfl)

/-- The desk after an acknowledgement, with the counts of Port L at 0 where it is that port's. -/
theorem State.acknowledge_desk (s : State) (c : Cond) : (s.acknowledge c).desk =
    if c = .portErrorsBus .L then { s.desk.acknowledged c with portL := { s.desk.portL with errors := 0, dropped := 0 } }
    else s.desk.acknowledged c := by
  rw [State.acknowledge_eq]
  cases c with
  | portErrorsBus p => cases p <;> rfl
  | portErrorsReach p => cases p <;> rfl
  | _ => rfl

/-- Settles O34: the acknowledgement of the record that the codes name, or UNKNOWN_REQUEST where they name none. -/
theorem acknowledgementsClearTheLatch : Obligations.AcknowledgementsClearTheLatch := by
  intro s kind subject h
  refine ⟨fun c hk hs => ?_, fun hnone => ?_⟩
  swap
  · exact (execAckCondition_of_none h (Cond.ofCodes_none hnone)).trans (congrArg _ (State.reply_eq ..))
  intro cleared
  refine ⟨_, execAckCondition_of_some h (Cond.ofCodes_eq hk hs), ?_, fun d hd => ?_, fun hc => ?_, fun hc => ?_, fun p hc => ?_⟩
  · rw [State.reply_eq, State.acknowledge_desk]
    rfl
  · rw [State.reply_eq]
    show (Desk.pushOwn _ _).record d = _
    rw [Desk.pushOwn_record, State.acknowledge_desk]
    split
    · exact s.desk.acknowledged_record_ne hd
    · exact s.desk.acknowledged_record_ne hd
  · rw [State.reply_eq, State.acknowledge_eq]
    cases c with
    | portErrorsBus p =>
      cases p with
      | L => rfl
      | F => exact absurd hc (by simp [Cond.kindCode])
    | portErrorsReach p => exact absurd hc (by simp [Cond.kindCode])
    | _ => rfl
  · subst hc
    rw [State.reply_eq, State.acknowledge_eq]
    rfl
  · subst hc
    rw [State.reply_eq, State.acknowledge_eq]
    cases p <;> rfl

/-! ## Loads given up (R161, R163) -/

section
variable {s : State}

theorem execLoadAbort_saving (h : s.Routed) (hs : s.saving.isSome = true) :
    execLoadAbort s = .next (s.reply 11 .refusedBusy []) := by
  simp only [execLoadAbort, h.request_eq, hs, if_true]

theorem execLoadAbort_closed (h : s.Routed) (hs : s.saving = none) (hl : s.load = none) :
    execLoadAbort s = .next (s.reply 11 .refusedMode []) := by
  simp [execLoadAbort, h.request_eq, hs, hl]

theorem execLoadAbort_open (h : s.Routed) (hs : s.saving = none) {c : LoadContext} (hl : s.load = some c) :
    execLoadAbort s = .next ((s.failLoad c.table).reply 11 .done []) := by
  simp [execLoadAbort, h.request_eq, hs, hl]

/-- Settles O39: abort and idle expiry give the load up in the same way. -/
theorem loadsGivenUpAreDropped : Obligations.LoadsGivenUpAreDropped := by
  intro s reply
  refine ⟨fun h hs => ?_, fun h hs hl => ?_, fun c hl => ?_⟩
  · exact (execLoadAbort_saving h hs).trans (congrArg _ (State.reply_eq ..))
  · exact (execLoadAbort_closed h hs hl).trans (congrArg _ (State.reply_eq ..))
  · intro tables dropped failed
    have hraised : (s.failLoad c.table).Raised (.loadFailed c.table) := State.raised_raise ..
    refine ⟨hraised.1, hraised.2, fun h hs => ?_, fun hdue => execLoadIdleExpiry_due hl hdue⟩
    exact (execLoadAbort_open h hs hl).trans (congrArg _ (State.reply_eq ..))

/-! ## SAVE (R154, R168) -/

theorem execSave_of_config (h : s.Routed) (hm : s.mdc.mode = .config) (hr : s.mdc.restartPending = false) (hs : s.saving = none)
    (hl : s.load = none) : execSave s = .next s.beginSave := by
  simp [execSave, h.request_eq, hm, hr, hs, hl]

theorem execSave_busy (h : s.Routed) (hm : s.mdc.mode = .config)
    (hbusy : s.mdc.restartPending = true ∨ s.saving.isSome = true ∨ s.load.isSome = true) :
    execSave s = .next (s.reply 12 .refusedBusy []) := by
  cases hr : s.mdc.restartPending with
  | true => simp [execSave, h.request_eq, hm, hr]
  | false =>
    obtain hx | hx := hbusy
    · exact absurd (hr.symm.trans hx) Bool.false_ne_true
    · simp [execSave, h.request_eq, hm, hr, hx]

theorem execSave_mode (h : s.Routed) (hm : s.mdc.mode ≠ .config) : execSave s = .next (s.reply 12 .refusedMode []) := by
  simp [execSave, h.request_eq, hm]

theorem State.slotImage_of_data {t : TableId} {d : TableData} (h : s.tables.data? t = some d) :
    s.slotImage t = slotBytes t d.image := by
  simp [State.slotImage, Tables.image?, h]

/-- Settles O40: SAVE by its cases, and each write by what its read-back says. -/
theorem savesWriteTableByTable : Obligations.SavesWriteTableByTable := by
  intro s
  refine ⟨fun h hm hr hs hl => ⟨fun x r hx => ?_, fun hx => ?_⟩, fun h hm hbusy => ?_, fun h hm => ?_, fun w d readBack hw hd => ?_⟩
  · refine (execSave_of_config h hm hr hs hl).trans ?_
    simp only [State.beginSave, hx]
  · refine (execSave_of_config h hm hr hs hl).trans ?_
    simp only [State.beginSave, hx, State.reply_eq]
    rfl
  · exact (execSave_busy h hm hbusy).trans (congrArg _ (State.reply_eq ..))
  · exact (execSave_mode h hm).trans (congrArg _ (State.reply_eq ..))
  · intro bytes flash ended
    have himage := State.slotImage_of_data hd
    have hended (r : Result) (n : Nat) : (s.writeSlot w.current readBack).endSave r n = ended r.code n := by
      simp only [State.endSave, State.writeSlot, State.reply_eq, himage]
      rfl
    have hwritten (p : Option SaveProgress) : ({ s.writeSlot w.current readBack with saving := p } : State) = { s with flash := flash, saving := p } :=
      congrArg (fun b : List Byte => { s with flash := s.flash.set w.current.index (.holds (readBack.getD b)), saving := p }) himage
    show execFlashWriteCompletion readBack s = _
    simp only [execFlashWriteCompletion, hw, himage, hended]
    split
    · cases w.rest with
      | nil => rfl
      | cons x r => exact congrArg Host.Outcome.next (hwritten (some { current := x, rest := r, written := w.written + 1 }))
    · rfl

end

/-! ## CLEAR_GATE (R8, R28, R100) -/

section
variable {s : State}

theorem execClearGate_of_ge (h : s.Routed) {n : Byte} (hn : 15 < n.toNat) :
    execClearGate n s = .next (s.reply 18 .unknownRequest []) :=
  congrArg _ ((h.request_eq 18 _).trans (dif_neg (Nat.not_lt.2 hn)))

theorem execClearGate_of_fin (h : s.Routed) (i : Fin 16) : execClearGate (BitVec.ofNat 8 i.val) s = .next
    (if (s.gate i).state = .faulted ∧ (s.cfg i).inService = true then (s.clearGate i).reply 18 .done []
     else s.reply 18 .refusedMode []) := by
  have hi := BitVec.toNat_ofNat_fin (by decide) i
  have hlt : (BitVec.ofNat 8 i.val).toNat < 16 := hi.trans_lt i.isLt
  have hfin : (⟨(BitVec.ofNat 8 i.val).toNat, hlt⟩ : Fin 16) = i := Fin.ext hi
  refine congrArg _ ((h.request_eq 18 _).trans ((dif_pos hlt).trans ?_))
  simp only [hfin]

/-- Settles O46: the record of the gate takes its reset values, and the conditions it owns are no longer active. -/
theorem clearGateReturnsToUnseen : Obligations.ClearGateReturnsToUnseen := by
  refine ⟨fun s n hroom hm => ?_, fun s h => ?_⟩
  · exact (congrArg _ (State.request_starting hroom hm (by decide) _)).trans (congrArg _ (State.reply_eq ..))
  · intro refused
    refine ⟨fun n hn => ?_, fun i hi => ?_, fun i hf hi => ?_⟩
    · exact (execClearGate_of_ge h hn).trans (congrArg _ (State.reply_eq ..))
    · refine (execClearGate_of_fin h i).trans ?_
      rw [if_neg (fun hx => hi.elim (fun hs => hs hx.1) (fun hs => Bool.false_ne_true (hs.symm.trans hx.2))), State.reply_eq]
      rfl
    · have hexec := (execClearGate_of_fin h i).trans (congrArg _ ((if_pos ⟨hf, hi⟩).trans (State.reply_eq ..)))
      have hcleared (c : Cond) (hc : c ∈ [Cond.gateFault i, .gateUnseen i, .bypassBlocked i]) :
          ((s.clearGate i).reply 18 .done []).active c = false := by
        show ((Desk.pushOwn (s.desk.clearAll _) _).record c).active = _
        rw [Desk.pushOwn_record]
        exact Desk.clearAll_active hc
      refine ⟨_, hexec, rfl, ?_, fun st hst => ?_, fun hst => ?_, fun j hj => ?_, rfl, rfl, ?_, ?_, ?_, fun c => ?_⟩
      · have hdesk : (s.clearGate i).desk = { s.desk with records := (s.clearGate i).desk.records } := Desk.clearAll_frame ..
        show Desk.pushOwn _ _ = Desk.pushOwn { s.desk with records := (Desk.pushOwn _ _).records } _
        rw [Desk.pushOwn_records, ← hdesk]
        rfl
      · show (s.setGate i _).gate i = _
        rw [State.gate_setGate]
        simp only [Gate.startSeenWatch, hst]
      · show (s.setGate i _).gate i = _
        rw [State.gate_setGate]
        cases ht : s.tables.station with
        | valid st =>
          rw [ht] at hst
          cases hst
        | _ => simp only [Gate.startSeenWatch, ht]
      · exact s.gate_setGate_ne _ hj
      · exact hcleared _ (by simp)
      · exact hcleared _ (by simp)
      · exact hcleared _ (by simp)
      · show ((Desk.pushOwn (s.desk.clearAll _) _).record c).latched = _
        rw [Desk.pushOwn_record]
        exact Desk.clearAll_latched ..

end

end Sys2Proof.Machine
end

section
/-! Where entries stand in the queues of the arbiter and of the notices, what a hand-off takes, and what READ_CONDITIONS lists (chapters 2 and 9). -/

namespace Sys2Proof.Machine

/-! ## Hand-off (R144) -/

/-- With the transmitter busy each frame joins the tail of the own queue, until that holds 6. -/
theorem handOff_busy (records : Vector CondRecord 120) (l : List NoticeEntry) {p : PortL} (hs : p.sending.isSome = true) :
    handOff records l p =
      (l.drop (min l.length (6 - p.ownTotal)),
       { p with own := p.own ++ (l.take (min l.length (6 - p.ownTotal))).map (fun e => noticeFrame e records[e.cond.number]) }) := by
  obtain ⟨x, hx⟩ := Option.isSome_iff_exists.1 hs
  induction l generalizing p with
  | nil => simp [handOff]
  | cons e r ih =>
    unfold handOff
    split
    next hroom =>
      have htotal : (p.pushOwn (noticeFrame e records[e.cond.number])).ownTotal = p.ownTotal + 1 := by
        rw [PortL.pushOwn_busy _ hx]
        simp only [PortL.ownTotal, List.length_append, List.length_singleton]
        omega
      have hk : min (e :: r).length (6 - p.ownTotal) = min r.length (6 - (p.ownTotal + 1)) + 1 := by
        rw [List.length_cons]
        omega
      rw [ih (by rw [PortL.pushOwn_busy _ hx]; exact hs) (by rw [PortL.pushOwn_busy _ hx]; exact hx), htotal, hk,
        PortL.pushOwn_busy _ hx]
      simp
    next hfull =>
      have hk : min (e :: r).length (6 - p.ownTotal) = 0 := by omega
      rw [hk]
      simp

/-- Settles O29, by induction on the notices. -/
theorem noticesAreHandedOver : Obligations.NoticesAreHandedOver := by
  intro d hs k
  unfold Desk.handOff
  rw [handOff_busy d.records d.notices hs]
  have hframe (e : NoticeEntry) : noticeFrame e d.records[e.cond.number] = makeBusFrame 0 254 kindNotice
      ([BitVec.ofNat 8 e.cond.kindCode, BitVec.ofNat 8 e.cond.subjectCode, BitVec.ofNat 8 e.level,
        BitVec.ofNat 8 ((d.record e.cond).active.toNat + 2 * (d.record e.cond).latched.toNat)] ++
       beBytes 4 ((d.record e.cond).firstSet.getD 4294967295)) := rfl
  simp only [hframe]
  rfl

/-! ## Waiting queues (R32, R33) -/

/-- An URGENT entry passes the URGENT ones and stops before the others (R32). -/
theorem insertUrgent_append (x : QueueEntry) {u n : List QueueEntry} (hu : ∀ a ∈ u, a.priority = .urgent)
    (hn : ∀ a ∈ n, a.priority = .normal) : insertUrgent x (u ++ n) = u ++ [x] ++ n := by
  induction u with
  | nil =>
    cases n with
    | nil => rfl
    | cons h r => simp [insertUrgent, hn h List.mem_cons_self]
  | cons h r ih =>
    obtain ⟨hh, hr⟩ := List.forall_mem_cons.1 hu
    simp [insertUrgent, hh, ih hr]

theorem enqueue_append (x : QueueEntry) {u n : List QueueEntry} (hu : ∀ a ∈ u, a.priority = .urgent)
    (hn : ∀ a ∈ n, a.priority = .normal) :
    enqueue x (u ++ n) = (match x.priority with | .urgent => u ++ [x] ++ n | .normal => u ++ n ++ [x]) := by
  unfold enqueue
  cases x.priority with
  | urgent => exact insertUrgent_append x hu hn
  | normal => rfl

theorem dequeue_append {i : Fin 16} {front rest : List QueueEntry} {x : QueueEntry} (hx : x.gate = i)
    (hne : ∀ a ∈ front ++ rest, a.gate ≠ i) : dequeue i (front ++ x :: rest) = front ++ rest := by
  have hkeep : (front ++ rest).filter (fun a => decide (a.gate ≠ i)) = front ++ rest :=
    List.filter_eq_self.2 fun a ha => decide_eq_true (hne a ha)
  rw [List.filter_append] at hkeep
  rw [dequeue, List.filter_append, List.filter_cons_of_neg (by simp [hx]), hkeep]

theorem find_gate_append {i : Fin 16} {front rest : List QueueEntry} {x : QueueEntry} (hx : x.gate = i)
    (hne : ∀ a ∈ front ++ rest, a.gate ≠ i) : (front ++ x :: rest).find? (fun a => a.gate == i) = some x := by
  rw [List.find?_append, List.find?_eq_none.2 (fun a ha => by simpa using hne a (List.mem_append_left _ ha)), Option.none_or,
    List.find?_cons_of_pos (by simp [hx])]

section
variable {e : YardEnv} {i : Fin 16} {y : Yard} {front rest : List QueueEntry} {x : QueueEntry}

theorem Yard.changePriority_same (hq : (y.group (e.cfg i).group).queue = front ++ x :: rest) (hx : x.gate = i)
    (hne : ∀ a ∈ front ++ rest, a.gate ≠ i) (hp : x.priority = (y.gate i).priority) : Yard.changePriority e i y = y := by
  simp [Yard.changePriority, hq, find_gate_append hx hne, hp]

theorem Yard.changePriority_moved (hq : (y.group (e.cfg i).group).queue = front ++ x :: rest) (hx : x.gate = i)
    (hne : ∀ a ∈ front ++ rest, a.gate ≠ i) (hp : x.priority ≠ (y.gate i).priority) :
    let k := (e.cfg i).group
    let q := enqueue { gate := i, priority := (y.gate i).priority } (front ++ rest)
    let moved := y.setGroup k { y.group k with queue := q }
    Yard.changePriority e i y =
      if q.head?.map (·.gate) = (y.group k).queue.head?.map (·.gate) then moved else Yard.grantCheck e k moved := by
  intro k q moved
  have hfind : (y.group (e.cfg i).group).queue.find? (fun a => a.gate == i) = some x := hq ▸ find_gate_append hx hne
  have hdequeue : dequeue i (y.group (e.cfg i).group).queue = front ++ rest := hq ▸ dequeue_append hx hne
  unfold Yard.changePriority
  simp only [hfind, hp, if_false, hdequeue]
  rfl

end

/-! ## The notice queue (R142, R143) -/

/-- A new notice passes those of its level or higher and stops before the lower ones (R142). -/
theorem insertNotice_append (e : NoticeEntry) {high low : List NoticeEntry} (hhigh : ∀ a ∈ high, e.level ≤ a.level)
    (hlow : ∀ a ∈ low, a.level < e.level) : insertNotice e (high ++ low) = high ++ [e] ++ low := by
  induction high with
  | nil =>
    cases low with
    | nil => rfl
    | cons h r => simp [insertNotice, Nat.not_le.2 (hlow h List.mem_cons_self)]
  | cons h r ih =>
    obtain ⟨hh, hr⟩ := List.forall_mem_cons.1 hhigh
    simp [insertNotice, hh, ih hr]

/-- A hand-off test takes nothing from the notices while the own queue holds 6 frames or more (R144). -/
theorem Desk.handOff_full {d : Desk} (h : 6 ≤ d.portL.ownTotal) : d.handOff = d := by
  have hnone (l : List NoticeEntry) : Machine.handOff d.records l d.portL = (l, d.portL) := by
    cases l with
    | nil => rfl
    | cons e r => simp [Machine.handOff, Nat.not_le.2 (Nat.lt_of_lt_of_le (by decide : 5 < 6) h)]
  simp only [Desk.handOff, hnone]

theorem Desk.raiseNoticeLost_record (d : Desk) (now : Tick) :
    ((d.raiseNoticeLost now).record .noticeLost).active = true ∧ ((d.raiseNoticeLost now).record .noticeLost).latched = true := by
  rw [Desk.raiseNoticeLost, Desk.record_setRecord]
  unfold CondRecord.raised
  split
  next h => exact ⟨rfl, h⟩
  · exact ⟨rfl, rfl⟩

section
variable {d : Desk} {e last : NoticeEntry} {front : List NoticeEntry} (now : Tick)

theorem Desk.placeNotice_of_room (h : d.notices.length < 16) :
    d.placeNotice now e = Desk.handOff { d with notices := insertNotice e d.notices } := if_pos h

/-- A full queue gives up its last entry, which is the youngest of the lowest level, to a higher one (R143). -/
theorem Desk.placeNotice_evicting (hn : d.notices = front ++ [last]) (h : d.notices.length = 16) (hl : last.level < e.level) :
    d.placeNotice now e = Desk.handOff (Desk.raiseNoticeLost { d with notices := insertNotice e front } now) := by
  have hfull : ¬d.notices.length < 16 := by omega
  have hlast : d.notices.getLast? = some last := by rw [hn, List.getLast?_concat]
  have hfront : d.notices.dropLast = front := by rw [hn, List.dropLast_concat]
  simp only [Desk.placeNotice, hfull, if_false, hlast, hl, if_true, hfront]

theorem Desk.placeNotice_dropped (hn : d.notices = front ++ [last]) (h : d.notices.length = 16) (hl : e.level ≤ last.level) :
    d.placeNotice now e = d.raiseNoticeLost now := by
  have hfull : ¬d.notices.length < 16 := by omega
  have hlast : d.notices.getLast? = some last := by rw [hn, List.getLast?_concat]
  simp only [Desk.placeNotice, hfull, if_false, hlast, Nat.not_lt.2 hl]

end

/-- Settles O31: each insertion passes the entries of its rank, and a full notice queue is judged by its last entry. -/
theorem newEntriesStandByRank : Obligations.NewEntriesStandByRank := by
  refine ⟨fun u n x hu hn => enqueue_append x hu hn, fun e i y front rest x => ?_, fun d now e high low hd hhigh hlow hroom => ?_,
    fun d now e last front hn h16 hown => ?_⟩
  · intro k p hq hx hne
    exact ⟨Yard.changePriority_same hq hx hne, Yard.changePriority_moved hq hx hne⟩
  · rw [Desk.placeNotice_of_room now hroom, hd, insertNotice_append e hhigh hlow]
  · intro out
    by_cases hl : last.level < e.level
    · have hout : out = Desk.raiseNoticeLost { d with notices := insertNotice e front } now :=
        (Desk.placeNotice_evicting now hn h16 hl).trans (Desk.handOff_full hown)
      obtain ⟨hactive, hlatched⟩ := Desk.raiseNoticeLost_record { d with notices := insertNotice e front } now
      rw [hout]
      exact ⟨hactive, hlatched, rfl, fun _ => rfl, fun hle => absurd hl (Nat.not_lt.2 hle)⟩
    · have hout : out = d.raiseNoticeLost now := Desk.placeNotice_dropped now hn h16 (Nat.not_lt.1 hl)
      obtain ⟨hactive, hlatched⟩ := d.raiseNoticeLost_record now
      rw [hout]
      exact ⟨hactive, hlatched, rfl, fun hlt => absurd hlt hl, fun _ => rfl⟩

/-! ## The walk over the records (R146) -/

theorem allConds_ascend : allConds.Pairwise (fun a b => a.number < b.number) := by decide +kernel

/-- What stands from a place of the list on has that number or a higher one. -/
theorem mem_drop_allConds {c : Cond} {n : Nat} : c ∈ allConds.drop n ↔ n ≤ c.number.val := by
  constructor
  · intro h
    obtain ⟨k, hk⟩ := List.mem_iff_getElem?.1 h
    rw [List.getElem?_drop] at hk
    obtain ⟨hlt, hget⟩ := List.getElem?_eq_some_iff.1 hk
    obtain ⟨hlt', hget'⟩ := List.getElem?_eq_some_iff.1 c.allConds_number
    have hnodup : allConds.Nodup :=
      List.Pairwise.imp (fun {a b} (h : a.number < b.number) (heq : a = b) => lt_irrefl b.number (heq ▸ h)) allConds_ascend
    have hplace : n + k = c.number.val := (hnodup.getElem_inj_iff).1 (hget.trans hget'.symm)
    omega
  · intro h
    refine List.mem_iff_getElem?.2 ⟨c.number.val - n, ?_⟩
    rw [List.getElem?_drop, Nat.add_sub_cancel' h]
    exact c.allConds_number

section
variable {s : State} {n : Nat}

theorem State.standing_iff (c : Cond) : s.standing c = true ↔ s.active c = true ∨ s.latched c = true := Bool.or_eq_true_iff

/-- The standing records from a number on, in ascending order. -/
def State.standingFrom (s : State) (n : Nat) : List Cond := (allConds.drop n).filter s.standing

theorem State.mem_standingFrom {c : Cond} : c ∈ s.standingFrom n ↔ n ≤ c.number.val ∧ (s.active c = true ∨ s.latched c = true) := by
  rw [State.standingFrom, List.mem_filter, mem_drop_allConds, State.standing_iff]

theorem State.standingFrom_ascend : (s.standingFrom n).Pairwise (fun a b => a.number < b.number) :=
  allConds_ascend.sublist (List.filter_sublist.trans (List.drop_sublist ..))

theorem State.listed_eq : s.listed n = (s.standingFrom n).take 20 := rfl

theorem continuation_of_short {l : List Cond} (h : l.length < 20) : continuation l = 120 := if_pos h

theorem continuation_of_full {front : List Cond} {last : Cond} (h : (front ++ [last]).length = 20) :
    continuation (front ++ [last]) = last.number.val + 1 := by
  unfold continuation
  rw [if_neg (by omega), List.getLast?_concat]

/-- What stands after the last record listed has a higher number. -/
theorem State.listed_of_lt {c front last} (hl : s.listed n = front ++ [last]) (hc : c ∈ s.standingFrom n)
    (hlt : c.number.val < last.number.val + 1) : c ∈ s.listed n := by
  rw [← List.take_append_drop 20 (s.standingFrom n)] at hc
  obtain hc | hc := List.mem_append.1 hc
  · exact hc
  · have hsplit := s.standingFrom_ascend (n := n)
    rw [← List.take_append_drop 20 (s.standingFrom n)] at hsplit
    have hlast : last ∈ s.listed n := by simp [hl]
    exact absurd ((List.pairwise_append.1 hsplit).2.2 last hlast c hc) (by rw [Fin.lt_def]; omega)

end

/-- Settles O33: the list is the front of the standing records, and what it leaves stands after its last. -/
theorem conditionWalksMissNothing : Obligations.ConditionWalksMissNothing := by
  intro s n
  refine ⟨List.length_take_le .., continuation_of_short, fun front last hl h20 => ?_,
    State.standingFrom_ascend.sublist (List.take_sublist ..), fun c hc => State.mem_standingFrom.1 (List.mem_of_mem_take hc),
    fun c hn hstanding hlt => ?_⟩
  · rw [hl] at h20 ⊢
    exact continuation_of_full h20
  · have hc : c ∈ s.standingFrom n := State.mem_standingFrom.2 ⟨hn, hstanding⟩
    by_cases hshort : (s.standingFrom n).length ≤ 20
    · rwa [State.listed_eq, List.take_of_length_le hshort]
    · have h20 : (s.listed n).length = 20 := by
        rw [State.listed_eq, List.length_take]
        omega
      obtain h0 | ⟨front, last, hl⟩ := (s.listed n).eq_nil_or_concat
      · rw [h0] at h20
        cases h20
      · rw [List.concat_eq_append] at hl
        rw [hl] at h20 hlt
        rw [continuation_of_full h20] at hlt
        exact State.listed_of_lt hl hc hlt

end Sys2Proof.Machine
end

section
/-! The entries to GOVERN, FALLBACK and FROZEN (chapter 8): what each does to the blocks, read from the equations of its steps. -/

namespace Sys2Proof.Machine

/-! ## Tests of LOCKED gates (R10, R27) -/

/-- From one desk to the other, active states of GATE_RUNAWAY are cleared at most, as a gate leaves LOCKED (R27). -/
def Desk.ClearsRunaway (d d' : Desk) : Prop :=
  d' = { d with records := d'.records } ∧ ∀ c, (∀ i, c ≠ .gateRunaway i) → d'.record c = d.record c

theorem Desk.ClearsRunaway.refl (d : Desk) : d.ClearsRunaway d := ⟨rfl, fun _ _ => rfl⟩

theorem Desk.ClearsRunaway.trans {a b c : Desk} (hab : a.ClearsRunaway b) (hbc : b.ClearsRunaway c) : a.ClearsRunaway c := by
  refine ⟨?_, fun x hx => (hbc.2 x hx).trans (hab.2 x hx)⟩
  rw [hbc.1, hab.1]

section
variable (s : State)

theorem State.onYard_clearsRunaway (i : Fin 16) (f : YardEnv → Yard → Yard) : s.desk.ClearsRunaway (s.onYard i f).desk := by
  obtain ⟨h, -⟩ | h := s.onYard_spec i f
  · rw [h]
    exact .refl _
  · rw [h]
    exact ⟨rfl, fun c hc => s.desk.clear_record_ne (hc i)⟩

theorem State.testLockedGates_clearsRunaway : s.desk.ClearsRunaway s.testLockedGates.desk :=
  foldl_keeps (fun t : State => s.desk.ClearsRunaway t.desk) _ (fun t i h => h.trans (t.onYard_clearsRunaway i _)) _ _ (.refl _)

/-- What a test leaves of a gate's targets: the commanded setpoint and the standing target. -/
def Gate.SameTargets (g g' : Gate) : Prop := g'.commanded = g.commanded ∧ g'.standing = g.standing

theorem Gate.SameTargets.refl (g : Gate) : g.SameTargets g := ⟨rfl, rfl⟩

theorem Gate.SameTargets.trans {a b c : Gate} (hab : a.SameTargets b) (hbc : b.SameTargets c) : a.SameTargets c :=
  ⟨hbc.1.trans hab.1, hbc.2.trans hab.2⟩

theorem Gate.Drift.sameTargets {e : YardEnv} {i : Fin 16} {g g' : Gate} (h : Gate.Drift e i g g') : g.SameTargets g' :=
  ⟨h.commanded, h.standing⟩

theorem Yard.setGate_sameTargets (y : Yard) {i : Fin 16} {g : Gate} (h : (y.gate i).SameTargets g) (j : Fin 16) :
    (y.gate j).SameTargets ((y.setGate i g).gate j) := by
  by_cases hj : j = i
  · subst hj
    rwa [Yard.gate_setGate]
  · rw [Yard.gate_setGate_ne _ _ hj]
    exact .refl _

theorem Yard.testLocked_sameTargets (e : YardEnv) (i : Fin 16) (y : Yard) (j : Fin 16) :
    (y.gate j).SameTargets ((Yard.testLocked e i y).gate j) := by
  have waiting : (y.gate j).SameTargets ((y.setGate i { y.gate i with state := .waitGrant, stateTimer := none }).gate j) := by
    refine y.setGate_sameTargets ?_ j
    exact ⟨rfl, rfl⟩
  have joined := waiting.trans ((Yard.join_drifts (e := e) i _).gate j).sameTargets
  unfold Yard.testLocked
  dsimp only
  split
  · split
    · split
      · exact joined
      · refine y.setGate_sameTargets ?_ j
        exact ⟨rfl, rfl⟩
    · exact joined
  · exact .refl _

theorem State.testLockedGates_sameTargets (j : Fin 16) : (s.gate j).SameTargets (s.testLockedGates.gate j) := by
  refine foldl_keeps (fun t : State => (s.gate j).SameTargets (t.gate j)) _ (fun t i h => h.trans ?_) _ _ (.refl _)
  show (t.gate j).SameTargets ((t.onYard i _).yard.gate j)
  rw [State.onYard_yard]
  exact Yard.testLocked_sameTargets ..

/-! ## Standing targets (R97) -/

/-- A gate's record with its standing target at its commanded setpoint. -/
def Gate.stood (g : Gate) : Gate :=
  match g.commanded with
  | some c => { g with standing := { opening := some c, lockAfter := true, origin := .position } }
  | none => g

theorem State.setStandings_eq_eachGate : s.setStandings = s.eachGate (fun _ => Gate.stood) := by
  unfold State.setStandings State.eachGate
  congr 1
  funext t i
  unfold Gate.stood
  split <;> simp [*]

theorem Gate.stood_targets (g : Gate) : g.stood.commanded = g.commanded ∧ g.stood.standing =
    (match g.commanded with
     | some q => { opening := some q, lockAfter := true, origin := .position }
     | none => g.standing) := by
  unfold Gate.stood
  split
  next h => exact ⟨rfl, rfl⟩
  · exact ⟨rfl, rfl⟩

/-! ## The regime (R51) -/

theorem State.evaluateRegime_lvu (h : Nat) : (s.evaluateRegime h).lvu = { s.lvu with
    regime := (match s.lvu.regime with
      | .normal => if s.tables.stationOr.floodEntry ≤ h then .flood else .normal
      | .flood => if h ≤ s.tables.stationOr.floodExit then .normal else .flood) } := by
  unfold State.evaluateRegime
  cases hr : s.lvu.regime with
  | normal =>
    dsimp only
    split
    · rw [State.raise_lvu, State.setRegime_lvu]
    · rw [← hr]
  | flood =>
    dsimp only
    split
    · rw [State.clear_lvu, State.setRegime_lvu]
    · rw [← hr]

theorem State.evaluateRegime_desk (h : Nat) : (s.evaluateRegime h).desk =
    (match s.lvu.regime with
      | .normal => if s.tables.stationOr.floodEntry ≤ h then s.desk.raise s.raiseEnv .headHigh else s.desk
      | .flood => if h ≤ s.tables.stationOr.floodExit then s.desk.clear .headHigh else s.desk) := by
  unfold State.evaluateRegime
  cases s.lvu.regime with
  | normal =>
    dsimp only
    split
    · rw [State.raise_desk, State.setRegime_desk, State.raiseEnv, State.setRegime_frame]
      rfl
    · rfl
  | flood =>
    dsimp only
    split
    · rw [State.clear_desk, State.setRegime_desk]
    · rfl

/-! ## The own acceptance and the notices (R116 to R119) -/

/-- What a release notice and the refresh timer read of the state, and the outgoing sequence where no RELEASE waits on Port U. -/
structure State.SameNotices (s t : State) : Prop where
  now : t.now = s.now
  tables : t.tables = s.tables
  planned : t.rgv.planned = s.rgv.planned
  lastNotified : t.csu.lastNotified = s.csu.lastNotified
  lastRelease : t.csu.lastRelease = s.csu.lastRelease
  refreshTimer : t.csu.refreshTimer = s.csu.refreshTimer
  portD : t.portD = s.portD
  sequence : s.portU.pendingRelease = none → t.csu.outSequence = s.csu.outSequence ∧ t.portU.pendingRelease = none

theorem State.SameNotices.of_eq {t : State} (hnow : t.now = s.now := by rfl) (htables : t.tables = s.tables := by rfl)
    (hplanned : t.rgv.planned = s.rgv.planned := by rfl) (hcsu : t.csu = s.csu := by rfl) (hU : t.portU = s.portU := by rfl)
    (hD : t.portD = s.portD := by rfl) : s.SameNotices t :=
  ⟨hnow, htables, hplanned, congrArg _ hcsu, congrArg _ hcsu, congrArg _ hcsu, hD, fun h => ⟨congrArg _ hcsu, hU ▸ h⟩⟩

theorem State.SameNotices.trans {a b c : State} (hab : a.SameNotices b) (hbc : b.SameNotices c) : a.SameNotices c where
  now := hbc.now.trans hab.now
  tables := hbc.tables.trans hab.tables
  planned := hbc.planned.trans hab.planned
  lastNotified := hbc.lastNotified.trans hab.lastNotified
  lastRelease := hbc.lastRelease.trans hab.lastRelease
  refreshTimer := hbc.refreshTimer.trans hab.refreshTimer
  portD := hbc.portD.trans hab.portD
  sequence h := by
    obtain ⟨hseq, hU⟩ := hab.sequence h
    obtain ⟨hseq', hU'⟩ := hbc.sequence hU
    exact ⟨hseq'.trans hseq, hU'⟩

theorem ReachPort.start_sequence {r : ReachPort} (h : r.pendingRelease = none) (station sequence : Nat) :
    (r.start station sequence).2 = sequence ∧ (r.start station sequence).1.pendingRelease = none := by
  cases hs : r.sending with
  | some x => simp [ReachPort.start, hs, h]
  | none => cases ha : r.pendingAccept <;> cases hl : r.pendingLinkcheck <;> simp [ReachPort.start, hs, h, ha, hl]

theorem State.placeAccept_sameNotices (a : Nat) : s.SameNotices (s.placeAccept a) := by
  unfold State.placeAccept
  split
  · refine ⟨rfl, rfl, rfl, rfl, rfl, rfl, rfl, fun h => ?_⟩
    exact ReachPort.start_sequence (r := { s.portU with pendingAccept := some a }) h ..
  · exact .of_eq s

theorem State.computeOwnAcceptance_sameNotices : s.SameNotices s.computeOwnAcceptance := by
  have own (a : Option Nat) : s.SameNotices { s with csu := { s.csu with ownAcceptance := a } } :=
    ⟨rfl, rfl, rfl, rfl, rfl, rfl, rfl, fun h => ⟨rfl, h⟩⟩
  unfold State.computeOwnAcceptance
  dsimp only
  split
  · split
    · exact own _
    · exact (own _).trans (State.placeAccept_sameNotices ..)
  · exact own _

theorem State.setRegime_sameNotices (r : Regime) : s.SameNotices (s.setRegime r) := by
  unfold State.setRegime
  split
  · exact .of_eq s
  · exact State.SameNotices.trans (b := { s with lvu := { s.lvu with regime := r } }) (.of_eq s)
      (State.computeOwnAcceptance_sameNotices _)

theorem State.evaluateRegime_sameNotices (h : Nat) : s.SameNotices (s.evaluateRegime h) := by
  unfold State.evaluateRegime
  dsimp only
  split
  · split
    · exact (State.setRegime_sameNotices ..).trans (.of_eq _)
    · exact .of_eq s
  · split
    · exact (State.setRegime_sameNotices ..).trans (.of_eq _)
    · exact .of_eq s

variable {s}

theorem State.SameNotices.portPresent {u : State} (h : s.SameNotices u) (p : ReachSide) : u.portPresent p = s.portPresent p := by
  have hneighbour : u.neighbour p = s.neighbour p := by cases p <;> simp only [State.neighbour, h.tables]
  rw [State.portPresent, hneighbour, State.portPresent]

/-- A refresh timer set from a state that has the same notices is set from the first one. -/
theorem State.RefreshSet.of_same {u t : State} (h : s.SameNotices u) (ht : u.RefreshSet t) : s.RefreshSet t := by
  obtain ⟨hpositive, hfirst, hrest⟩ := ht
  have hnot : u.NotNotified t → s.NotNotified t := fun ⟨hlast, hrelease, hportD⟩ =>
    ⟨hlast.trans h.lastNotified, hrelease.trans h.lastRelease, hportD.trans h.portD⟩
  have hnotified (n : Nat) : u.Notified t u.rgv.planned n → s.Notified t s.rgv.planned n := by
    unfold State.Notified
    rw [h.now, h.tables, h.planned, h.portD]
    exact id
  rw [h.tables, h.now, h.lastRelease] at hpositive
  rw [h.tables, h.lastRelease, h.portPresent .D] at hfirst hrest
  refine ⟨fun hr => ?_, fun hr hl hp => ?_, fun hr hl => ?_⟩
  · obtain ⟨hkept, htimer⟩ := hpositive hr
    exact ⟨hnot hkept, htimer⟩
  · obtain ⟨n, hn, hseq⟩ := hfirst hr hl hp
    refine ⟨n, hnotified n hn, fun hU => ?_⟩
    obtain ⟨hsame, hnone⟩ := h.sequence hU
    exact (hseq hnone).trans hsame
  · obtain ⟨hkept, htimer⟩ := hrest hr hl
    exact ⟨hnot hkept, htimer.trans h.refreshTimer⟩

/-- What follows in the event leaves the notices as the refresh timer was set. -/
theorem State.RefreshSet.then {t t' : State} (h : s.RefreshSet t) (hcsu : t'.csu = t.csu) (hD : t'.portD = t.portD) :
    s.RefreshSet t' := by
  unfold State.RefreshSet State.NotNotified State.Notified at *
  rw [hcsu, hD]
  exact h

variable (s)

/-! ## Entry to GOVERN (R128) -/

/-- The regime is evaluated at an entry to GOVERN from STARTING or CONFIG, where headwater is valid (R128). -/
def State.regimeAtEntry (fresh : Bool) : State :=
  match fresh, s.lvu.headwater with
  | true, some h => s.evaluateRegime h
  | _, _ => s

/-- Whether an entry to GOVERN is one from STARTING or CONFIG. -/
def Mode.starts (m : Mode) : Bool := m == .starting || m == .config

theorem State.enterGovern_eq : s.enterGovern = State.testLockedGates (State.setRefresh
    (State.startRounds (s.enteringGovern.setStandings.regimeAtEntry s.mdc.mode.starts))) := by
  unfold State.enterGovern
  extract_lets fresh _ s1 _ s2 s3 s4 _ s5 s6
  have h4 : s4 = s3.regimeAtEntry fresh := by
    clear_value s3 fresh
    rfl
  show State.testLockedGates (State.setRefresh (State.startRounds s4)) = _
  rw [h4]
  rfl

/-- The state of an entry to GOVERN before the refresh timer is set. -/
def State.governing : State :=
  State.startRounds (s.enteringGovern.setStandings.regimeAtEntry s.mdc.mode.starts)

theorem State.enterGovern_eq_governing : s.enterGovern = s.governing.setRefresh.testLockedGates := s.enterGovern_eq

theorem State.regimeAtEntry_frame (fresh : Bool) : s.regimeAtEntry fresh = { s with
    lvu := (s.regimeAtEntry fresh).lvu, csu := (s.regimeAtEntry fresh).csu, portU := (s.regimeAtEntry fresh).portU
    desk := (s.regimeAtEntry fresh).desk } := by
  unfold State.regimeAtEntry
  split
  · exact s.evaluateRegime_frame _
  · rfl

theorem State.regimeAtEntry_sameNotices (fresh : Bool) : s.SameNotices (s.regimeAtEntry fresh) := by
  unfold State.regimeAtEntry
  split
  · exact s.evaluateRegime_sameNotices _
  · exact .of_eq s

theorem State.governing_frame : s.governing = { s with
    mdc := s.enteringGovern.mdc, yard := s.enteringGovern.setStandings.yard
    lvu := s.governing.lvu, csu := s.governing.csu, portU := s.governing.portU, desk := s.governing.desk
    rgv := { s.rgv with roundTimer := some (s.now + s.tables.stationOr.roundInterval) } } := by
  unfold State.governing
  have he := s.enteringGovern.setStandings_frame
  have hv := s.enteringGovern.setStandings.regimeAtEntry_frame s.mdc.mode.starts
  generalize s.enteringGovern.setStandings.regimeAtEntry s.mdc.mode.starts = v at hv ⊢
  generalize s.enteringGovern.setStandings = e at he hv ⊢
  rw [hv, he]
  rfl

theorem State.governing_sameNotices : s.SameNotices s.governing := by
  have entering : s.SameNotices s.enteringGovern := .of_eq s
  have standing : s.enteringGovern.SameNotices s.enteringGovern.setStandings := by
    rw [State.setStandings_frame]
    exact .of_eq _
  have started (u : State) : u.SameNotices u.startRounds := .of_eq u
  exact ((entering.trans standing).trans (State.regimeAtEntry_sameNotices ..)).trans (started _)

theorem State.enterGovern_frame : s.enterGovern = { s.governing with
    csu := s.governing.setRefresh.csu, portD := s.governing.setRefresh.portD
    yard := s.enterGovern.yard, desk := s.enterGovern.desk } := by
  rw [State.enterGovern_eq_governing]
  have hset := s.governing.setRefresh_frame
  have htest := s.governing.setRefresh.testLockedGates_frame
  generalize s.governing.setRefresh.testLockedGates = t at htest ⊢
  generalize s.governing.setRefresh = u at hset htest ⊢
  rw [htest, hset]

theorem State.enterGovern_mdc : s.enterGovern.mdc = s.governing.mdc := (congrArg State.mdc s.enterGovern_frame :)
theorem State.enterGovern_rgv : s.enterGovern.rgv = s.governing.rgv := (congrArg State.rgv s.enterGovern_frame :)

theorem State.enterGovern_csu : s.enterGovern.csu = s.governing.setRefresh.csu := by
  have h := (congrArg State.csu s.enterGovern_frame :)
  exact h

theorem State.enterGovern_portD : s.enterGovern.portD = s.governing.setRefresh.portD := by
  have h := (congrArg State.portD s.enterGovern_frame :)
  exact h

theorem State.setRefresh_gate (i : Fin 16) : s.setRefresh.gate i = s.gate i :=
  (congrArg (State.gate · i) s.setRefresh_frame :)

theorem State.enteringGovern_gate (i : Fin 16) : s.enteringGovern.gate i = s.gate i := by
  have hyard : s.enteringGovern.yard = s.yard := rfl
  exact congrArg (Yard.gate · i) hyard

theorem State.governing_yard : s.governing.yard = s.enteringGovern.setStandings.yard := by
  have h := s.governing_frame
  generalize s.enteringGovern.setStandings = e at h ⊢
  generalize s.governing = g at h ⊢
  rw [h]

theorem State.setStandings_gate (i : Fin 16) : s.setStandings.gate i = (s.gate i).stood := by
  rw [State.setStandings_eq_eachGate, State.eachGate_gate]

theorem State.governing_gate (i : Fin 16) : s.governing.gate i = (s.gate i).stood := by
  have hstood := s.enteringGovern.setStandings_gate i
  rw [State.enteringGovern_gate] at hstood
  rw [← hstood]
  exact congrArg (Yard.gate · i) s.governing_yard

theorem State.enterGovern_targets (i : Fin 16) : (s.gate i).stood.SameTargets (s.enterGovern.gate i) := by
  have h := State.testLockedGates_sameTargets s.governing.setRefresh i
  rwa [State.setRefresh_gate, State.governing_gate, ← State.enterGovern_eq_governing] at h

theorem State.enterGovern_refreshSet : s.RefreshSet s.enterGovern :=
  ((State.setRefresh_set s.governing).of_same s.governing_sameNotices).then s.enterGovern_csu s.enterGovern_portD

theorem State.governing_mdc : s.governing.mdc = s.enteringGovern.mdc := (congrArg State.mdc s.governing_frame :)

theorem State.governing_rgv :
    s.governing.rgv = { s.rgv with roundTimer := some (s.now + s.tables.stationOr.roundInterval) } :=
  (congrArg State.rgv s.governing_frame :)

theorem State.enterGovern_entersGovern : s.EntersGovern s.enterGovern := by
  refine ⟨s.enterGovern_mdc.trans (s.governing_mdc.trans rfl), s.enterGovern_rgv.trans s.governing_rgv,
    s.enterGovern_refreshSet, fun i => ?_⟩
  obtain ⟨hcommanded, hstanding⟩ := s.enterGovern_targets i
  obtain ⟨hstood, hset⟩ := (s.gate i).stood_targets
  exact ⟨hcommanded.trans hstood, hstanding.trans hset⟩

/-- The regime after an evaluation at a headwater, or after none (R51). -/
def State.regimeAfter (evaluated : Option Nat) : Regime :=
  match evaluated, s.lvu.regime with
  | none, r => r
  | some h, .normal => if s.tables.stationOr.floodEntry ≤ h then .flood else .normal
  | some h, .flood => if h ≤ s.tables.stationOr.floodExit then .normal else .flood

/-- Whether an evaluation begins a FLOOD (R51). -/
def State.floodsAt (evaluated : Option Nat) : Prop :=
  ∃ h, evaluated = some h ∧ s.lvu.regime = .normal ∧ s.tables.stationOr.floodEntry ≤ h

/-- The headwater at which an entry to GOVERN evaluates the regime (R128). -/
def State.evaluatedAtEntry (fresh : Bool) : Option Nat := if fresh then s.lvu.headwater else none

theorem State.regimeAtEntry_lvu (fresh : Bool) :
    (s.regimeAtEntry fresh).lvu = { s.lvu with regime := s.regimeAfter (s.evaluatedAtEntry fresh) } := by
  unfold State.regimeAtEntry State.regimeAfter State.evaluatedAtEntry
  cases fresh with
  | false => rfl
  | true =>
    cases hw : s.lvu.headwater with
    | none => rfl
    | some h =>
      refine (s.evaluateRegime_lvu h).trans (congrArg (fun r => { s.lvu with regime := r }) ?_)
      cases hr : s.lvu.regime <;> simp

/-- The desk after it: HEAD_HIGH is raised where a FLOOD begins, and at most its active state cleared where none does. -/
theorem State.regimeAtEntry_desk (fresh : Bool) :
    (s.floodsAt (s.evaluatedAtEntry fresh) → (s.regimeAtEntry fresh).desk = s.desk.raise s.raiseEnv .headHigh) ∧
    (¬s.floodsAt (s.evaluatedAtEntry fresh) →
      (s.regimeAtEntry fresh).desk = s.desk ∨ (s.regimeAtEntry fresh).desk = s.desk.clear .headHigh) := by
  unfold State.regimeAtEntry State.floodsAt State.evaluatedAtEntry
  cases fresh with
  | false => simp
  | true =>
    cases hw : s.lvu.headwater with
    | none => simp
    | some h =>
      dsimp only
      rw [State.evaluateRegime_desk]
      cases hr : s.lvu.regime with
      | normal => by_cases hflood : s.tables.stationOr.floodEntry ≤ h <;> simp [hflood]
      | flood => by_cases hexit : h ≤ s.tables.stationOr.floodExit <;> simp [hexit]

theorem State.governing_lvu_desk :
    s.governing.lvu = { s.lvu with regime := s.regimeAfter (s.evaluatedAtEntry s.mdc.mode.starts) } ∧
    (s.floodsAt (s.evaluatedAtEntry s.mdc.mode.starts) → s.governing.desk = ((s.clear .controlSilent).raise .headHigh).desk) ∧
    (¬s.floodsAt (s.evaluatedAtEntry s.mdc.mode.starts) →
      s.governing.desk = s.desk.clear .controlSilent ∨ s.governing.desk = (s.desk.clear .controlSilent).clear .headHigh) := by
  have hlvu := s.enteringGovern.setStandings.regimeAtEntry_lvu s.mdc.mode.starts
  have hdesk := s.enteringGovern.setStandings.regimeAtEntry_desk s.mdc.mode.starts
  have he := s.enteringGovern.setStandings_frame
  unfold State.governing State.startRounds
  generalize s.enteringGovern.setStandings.regimeAtEntry s.mdc.mode.starts = v at hlvu hdesk ⊢
  generalize s.enteringGovern.setStandings = e at he hlvu hdesk
  rw [he] at hlvu hdesk
  exact ⟨hlvu, hdesk⟩

theorem State.enterGovern_lvu :
    s.enterGovern.lvu = { s.lvu with regime := s.regimeAfter (s.evaluatedAtEntry s.mdc.mode.starts) } :=
  (congrArg State.lvu s.enterGovern_frame :).trans s.governing_lvu_desk.1

theorem State.setRefresh_desk : s.setRefresh.desk = s.desk := (congrArg State.desk s.setRefresh_frame :)

theorem State.enterGovern_clearsRunaway : s.governing.desk.ClearsRunaway s.enterGovern.desk := by
  have h := s.governing.setRefresh.testLockedGates_clearsRunaway
  rwa [State.setRefresh_desk, ← State.enterGovern_eq_governing] at h

/-- The whole frame of an entry to GOVERN. -/
theorem State.enterGovern_blocks : s.enterGovern = { s with
    mdc := s.enterGovern.mdc, yard := s.enterGovern.yard, lvu := s.enterGovern.lvu, rgv := s.enterGovern.rgv
    csu := s.enterGovern.csu, portU := s.enterGovern.portU, portD := s.enterGovern.portD, desk := s.enterGovern.desk } := by
  have ht := s.enterGovern_frame
  have hg := s.governing_frame
  generalize s.enterGovern = t at ht ⊢
  generalize s.governing = g at ht hg
  rw [ht, hg]

end

end Sys2Proof.Machine
end

section
/-! PROOFS. ENTER and RESUME, the timers of the modes, and the power-on (O41, O51, O3). -/

namespace Sys2Proof.Machine

section
variable {s : State}

/-! ## ENTER and RESUME (R127, R133) -/

theorem State.runawayLatched_iff : s.runawayLatched = true ↔ ∃ i, s.latched (.gateRunaway i) = true := by
  simp only [State.runawayLatched, List.any_eq_true, mem_allGates, true_and]

theorem execEnter_mode (h : s.Routed) (hm : s.mdc.mode ≠ .config) : execEnter s = .next (s.reply 13 .refusedMode []) := by
  simp [execEnter, h.request_eq, hm]

theorem execEnter_busy (h : s.Routed) (hm : s.mdc.mode = .config) (hbusy : s.mdc.restartPending = true ∨ s.saving ≠ none) :
    execEnter s = .next (s.reply 13 .refusedBusy []) := by
  by_cases hr : s.mdc.restartPending = true
  · simp [execEnter, h.request_eq, hm, hr]
  · simp [execEnter, h.request_eq, hm, hr, Option.isSome_iff_ne_none.2 (hbusy.resolve_left hr)]

theorem execEnter_config (h : s.Routed) (hm : s.mdc.mode = .config) (hr : s.mdc.restartPending = false) (hs : s.saving = none) :
    execEnter s = .next (match s.tables.entryCheck with
      | some r => s.reply 13 .refusedTables r.bytes
      | none => if s.lvu.headwater.isNone then s.reply 13 .refusedLevel [] else s.enterGovern.reply 13 .done []) := by
  simp [execEnter, h.request_eq, hm, hr, hs] <;> rfl

theorem State.reply_desk (code : Byte) (r : Result) (data : List Byte) :
    (s.reply code r data).desk = s.desk.pushOwn (makeBusFrame 0 254 kindReply ([code, BitVec.ofNat 8 r.code] ++ data)) :=
  congrArg State.desk (s.reply_eq code r data)

theorem State.reply_records (code : Byte) (r : Result) (data : List Byte) : (s.reply code r data).desk.records = s.desk.records := by
  rw [State.reply_desk, Desk.pushOwn_records]

theorem State.reply_active (code : Byte) (r : Result) (data : List Byte) (c : Cond) : (s.reply code r data).active c = s.active c := by
  rw [State.active, State.reply_desk, Desk.pushOwn_record]
  rfl

theorem State.reply_latched (code : Byte) (r : Result) (data : List Byte) (c : Cond) :
    (s.reply code r data).latched c = s.latched c := by
  rw [State.latched, State.reply_desk, Desk.pushOwn_record]
  rfl

theorem execResume_of_routed (h : s.Routed) : execResume s = .next (
    if s.mdc.restartPending then s.reply 14 .refusedBusy []
    else
      match s.mdc.mode with
      | .fallback => if s.mdc.controlPresent then s.enterGovern.reply 14 .done [] else s.reply 14 .refusedMode []
      | .frozen => if s.runawayLatched then s.reply 14 .refusedMode [] else s.enterGovern.reply 14 .done []
      | .starting | .config | .govern => s.reply 14 .refusedMode []) :=
  congrArg _ (h.request_eq 14 _)

variable (s)

/-- The desk after an entry to GOVERN, but for the records of GATE_RUNAWAY (R26, R51, R140). -/
theorem State.enterGovern_desk :
    s.enterGovern.active .controlSilent = false ∧
    (s.floodsAt (s.evaluatedAtEntry s.mdc.mode.starts) → s.enterGovern.Raised .headHigh ∧
      s.enterGovern.desk = { ((s.clear .controlSilent).raise .headHigh).desk with records := s.enterGovern.desk.records }) ∧
    (¬s.floodsAt (s.evaluatedAtEntry s.mdc.mode.starts) →
      s.enterGovern.desk = { s.desk with records := s.enterGovern.desk.records }) := by
  obtain ⟨hframe, hrecord⟩ := s.enterGovern_clearsRunaway
  obtain ⟨-, hflood, hdry⟩ := s.governing_lvu_desk
  have hsame {c : Cond} (hc : ∀ i, c ≠ .gateRunaway i) : s.enterGovern.desk.record c = s.governing.desk.record c := hrecord c hc
  refine ⟨?_, fun h => ⟨?_, ?_⟩, fun h => ?_⟩
  · rw [State.active, hsame (by simp)]
    by_cases h : s.floodsAt (s.evaluatedAtEntry s.mdc.mode.starts)
    · rw [hflood h, State.raise_desk, Desk.raise_record_ne _ _ (by simp) (by simp)]
      exact s.active_clear .controlSilent
    · obtain hd | hd := hdry h <;> rw [hd]
      · exact s.active_clear .controlSilent
      · rw [Desk.clear_record_ne _ (by simp)]
        exact s.active_clear .controlSilent
  · rw [State.Raised, State.active, State.latched, hsame (by simp), hflood h]
    exact State.raised_raise ..
  · rw [← hflood h]
    exact hframe
  · refine hframe.trans ?_
    obtain hd | hd := hdry h <;> rw [hd] <;> rfl

/-- What an accepted ENTER or RESUME leaves. -/
theorem State.enterGovern_reply (code : Byte) {evaluated : Option Nat} (he : s.evaluatedAtEntry s.mdc.mode.starts = evaluated) :
    ∃ t, s.enterGovern.reply code .done [] = t ∧ t = { s with
        mdc := t.mdc, yard := t.yard, lvu := t.lvu, rgv := t.rgv, csu := t.csu, portU := t.portU, portD := t.portD, desk := t.desk } ∧
      s.EntersGovern t ∧
      t.lvu = { s.lvu with regime := s.regimeAfter evaluated } ∧
      t.active .controlSilent = false ∧ (s.floodsAt evaluated → t.Raised .headHigh) ∧
      (¬s.floodsAt evaluated →
        t.desk = Desk.pushOwn { s.desk with records := t.desk.records } (makeBusFrame 0 254 kindReply [code, 0])) ∧
      (s.floodsAt evaluated →
        t.desk = Desk.pushOwn { ((s.clear .controlSilent).raise .headHigh).desk with records := t.desk.records }
          (makeBusFrame 0 254 kindReply [code, 0])) := by
  subst he
  obtain ⟨hsilent, hflood, hdry⟩ := s.enterGovern_desk
  have hblocks := s.enterGovern_blocks
  have henters := s.enterGovern_entersGovern
  have hlvu := s.enterGovern_lvu
  generalize s.enterGovern = t at hsilent hflood hdry hblocks henters hlvu ⊢
  have hreply := t.reply_eq code .done []
  have hrecords := t.reply_records code .done []
  have hdesk := t.reply_desk code .done []
  refine ⟨_, rfl, ?_, ?_, ?_, (State.reply_active ..).trans hsilent, fun h => ?_, fun h => ?_, fun h => ?_⟩
  · rw [hreply, hblocks]
  · rw [hreply]
    exact henters
  · rw [hreply]
    exact hlvu
  · rw [State.Raised, State.reply_active, State.reply_latched]
    exact (hflood h).1
  · rw [hrecords, hdesk, ← hdry h]
    rfl
  · rw [hrecords, hdesk, ← (hflood h).2]
    rfl

end

/-- Settles O41: the judging of ENTER and RESUME, and one account of the entry to GOVERN for both. -/
theorem enterAndResumeGovern : Obligations.EnterAndResumeGovern := by
  refine ⟨fun s hroom hm => ⟨?_, ?_⟩, fun s h => ?_⟩
  · exact (congrArg _ (State.request_starting hroom hm (by decide) _)).trans (congrArg _ (State.reply_eq ..))
  · exact (congrArg _ (State.request_starting hroom hm (by decide) _)).trans (congrArg _ (State.reply_eq ..))
  intro refused st governs
  have refuses {c : Instr} {code : Byte} {r : Result} {data : List Byte} (he : exec c s = .next (s.reply code r data)) :
      refused c ([code, BitVec.ofNat 8 r.code] ++ data) := he.trans (congrArg _ (State.reply_eq ..))
  have govern {c : Instr} {code : Byte} {evaluated : Option Nat} (he : exec c s = .next (s.enterGovern.reply code .done []))
      (hv : s.evaluatedAtEntry s.mdc.mode.starts = evaluated) : governs c code evaluated := by
    obtain ⟨t, ht, hrest⟩ := s.enterGovern_reply code hv
    exact ⟨t, he.trans (congrArg _ ht), hrest⟩
  refine ⟨fun hm => refuses (c := .enter) (execEnter_mode h hm), fun hm hb => refuses (c := .enter) (execEnter_busy h hm hb), fun hm hr hs => ?_, ?_⟩
  · have hexec : exec .enter s = _ := execEnter_config h hm hr hs
    refine ⟨fun r hcheck => refuses (r := .refusedTables) (hexec.trans ?_), fun hcheck hw => refuses (r := .refusedLevel) (hexec.trans ?_),
      fun hcheck hw => govern (hexec.trans ?_) ?_⟩
    · rw [hcheck]
    · rw [hcheck, hw]
      rfl
    · rw [hcheck]
      exact congrArg _ (if_neg fun hnone => hw (Option.isNone_iff_eq_none.1 hnone))
    · rw [hm]
      rfl
  · have hexec : exec .resume s = _ := execResume_of_routed h
    split
    next hr => exact refuses (r := .refusedBusy) (hexec.trans (congrArg _ (if_pos hr)))
    next hr =>
      replace hexec := hexec.trans (congrArg _ (if_neg hr))
      split
      next hm =>
        rw [hm] at hexec
        split
        next hp => exact govern (hexec.trans (congrArg _ (if_pos hp))) (congrArg (s.evaluatedAtEntry ·.starts) hm)
        next hp => exact refuses (r := .refusedMode) (hexec.trans (congrArg _ (if_neg hp)))
      next hm =>
        rw [hm] at hexec
        split
        next hl => exact refuses (r := .refusedMode) (hexec.trans (congrArg _ (if_pos (State.runawayLatched_iff.2 hl))))
        next hl => exact govern (hexec.trans (congrArg _ (if_neg (hl ∘ State.runawayLatched_iff.1)))) (congrArg (s.evaluatedAtEntry ·.starts) hm)
      next hf hz =>
        refine refuses (r := .refusedMode) (hexec.trans ?_)
        cases hm : s.mdc.mode with
        | fallback => exact absurd hm hf
        | frozen => exact absurd hm hz
        | starting | config | govern => rfl

/-! ## Order timer and start wait (R125, R129, R130) -/

section
variable (s : State)

/-- The state of an entry to FALLBACK before the refresh timer is set. -/
def State.inFallback : State :=
  State.startRounds (State.emptySlots { s with mdc := { s.mdc with mode := .fallback, controlPresent := false, orderTimer := none } })

theorem State.enterFallback_eq : s.enterFallback = s.inFallback.setRefresh.testLockedGates := rfl

theorem State.inFallback_frame : s.inFallback = { s with
    mdc := { s.mdc with mode := .fallback, controlPresent := false, orderTimer := none }, yard := s.inFallback.yard
    rgv := { s.rgv with roundTimer := some (s.now + s.tables.stationOr.roundInterval) } } := by
  unfold State.inFallback State.startRounds
  rw [State.emptySlots_frame]

theorem State.enterFallback_frame : s.enterFallback = { s.inFallback with
    csu := s.inFallback.setRefresh.csu, portD := s.inFallback.setRefresh.portD
    yard := s.enterFallback.yard, desk := s.enterFallback.desk } := by
  rw [State.enterFallback_eq]
  have hset := s.inFallback.setRefresh_frame
  have htest := s.inFallback.setRefresh.testLockedGates_frame
  generalize s.inFallback.setRefresh.testLockedGates = t at htest ⊢
  generalize s.inFallback.setRefresh = u at hset htest ⊢
  rw [htest, hset]

theorem State.inFallback_sameNotices : s.SameNotices s.inFallback := by
  rw [State.inFallback_frame]
  exact .of_eq _

theorem State.enterFallback_refreshSet : s.RefreshSet s.enterFallback := by
  have hcsu := (congrArg State.csu s.enterFallback_frame :)
  have hportD := (congrArg State.portD s.enterFallback_frame :)
  exact ((State.setRefresh_set s.inFallback).of_same s.inFallback_sameNotices).then hcsu hportD

theorem State.enterFallback_blocks : s.enterFallback.rgv = { s.rgv with roundTimer := some (s.now + s.tables.stationOr.roundInterval) } ∧
    s.enterFallback.tables = s.tables ∧ s.enterFallback.lvu = s.lvu ∧ s.enterFallback.portU = s.portU := by
  have ht := s.enterFallback_frame
  have hf := s.inFallback_frame
  generalize s.enterFallback = t at ht ⊢
  generalize s.inFallback = f at ht hf
  rw [ht, hf]
  exact ⟨rfl, rfl, rfl, rfl⟩

theorem State.enterFallback_clearsRunaway : s.desk.ClearsRunaway s.enterFallback.desk := by
  have h := s.inFallback.setRefresh.testLockedGates_clearsRunaway
  rw [State.setRefresh_desk, ← State.enterFallback_eq] at h
  rwa [(congrArg State.desk s.inFallback_frame :)] at h

variable {s} in
theorem Desk.ClearsRunaway.raised {t : State} {c : Cond} (h : s.desk.ClearsRunaway t.desk) (hc : ∀ i, c ≠ .gateRunaway i)
    (hr : s.Raised c) : t.Raised c := by
  unfold State.Raised State.active State.latched at *
  rwa [h.2 c hc]

variable {s} in
/-- A condition that the entry to CONFIG does not clear stands after it. -/
theorem State.enterConfig_record {c : Cond} (hc : c ∉ configCleared) : s.enterConfig.desk.record c = s.desk.record c := by
  rw [State.enterConfig_desk, (Desk.clearAll_spec ..).2.2, if_neg hc]

theorem levelLost_not_configCleared : Cond.levelLost ∉ configCleared := by decide

theorem State.failStartWait_levelLost : s.failStartWait.Raised .levelLost := by
  unfold State.failStartWait
  rw [State.Raised, State.active, State.latched, State.enterConfig_record levelLost_not_configCleared]
  exact State.raised_raise ..

theorem State.failStartWait_mdc : s.failStartWait.mdc =
    { s.mdc with mode := .config, phase := none, startWait := none, orderTimer := none, controlPresent := false } :=
  State.enterConfig_mdc ..

end

theorem timerDue_of_le {e now : Tick} (h : e ≤ now) : timerDue (some e) now = true := decide_eq_true h

/-- Settles O51: the entries to FALLBACK and CONFIG, each after its condition is raised. -/
theorem modeTimersChangeTheMode : Obligations.ModeTimersChangeTheMode := by
  intro s e he
  refine ⟨fun ht hm => ?_, fun ht hm => ?_, fun hm hp hw => ?_⟩
  · have hexec : exec .orderTimerExpiry s = .next (s.raise .controlSilent).enterFallback := by
      show execOrderTimerExpiry s = _
      rw [execOrderTimerExpiry, ht, timerDue_of_le he, hm]
      rfl
    have hclears := (s.raise .controlSilent).enterFallback_clearsRunaway
    obtain ⟨hrgv, htables, hlvu, hportU⟩ := (s.raise .controlSilent).enterFallback_blocks
    obtain ⟨-, -, hslots⟩ := (s.raise .controlSilent).enterFallback_quiet_round
    refine ⟨_, hexec, hclears.raised (by simp) (State.raised_raise ..), State.enterFallback_mdc _, hrgv,
      fun i => Option.not_isSome_iff_eq_none.1 (hslots i), htables, hlvu, ?_, hportU⟩
    exact (State.enterFallback_refreshSet _).of_same (.of_eq s)
  · have hexec : exec .orderTimerExpiry s = .next (State.raise
        { s with mdc := { s.mdc with orderTimer := none, controlPresent := false } } .controlSilent) := by
      show execOrderTimerExpiry s = _
      rw [execOrderTimerExpiry, ht, timerDue_of_le he, hm]
      rfl
    exact ⟨_, hexec, State.raised_raise .., rfl, rfl⟩
  · have hdue : s.startWaitDue = true := by
      rw [State.startWaitDue, hm, hp, hw, timerDue_of_le he]
      rfl
    exact ⟨_, if_pos hdue, s.failStartWait_levelLost, s.failStartWait_mdc⟩

end Sys2Proof.Machine
end

section
/-! PROOFS. The power-on and the RESTART (O3, O47). -/

namespace Sys2Proof.Machine

/-! ## An entry to CONFIG from settled gates (R126) -/

/-- The fresh records hold nothing to clear. -/
theorem Desk.clearAll_fresh : ({} : Desk).clearAll configCleared = {} := by decide +kernel

section
variable {s : State}

theorem State.eachGate_of_settled {u : GateCfg → Gate → Gate} (h : ∀ i, u (s.cfg i) (s.gate i) = s.gate i) : s.eachGate u = s := by
  have hgates : (s.eachGate u).yard.gates = s.yard.gates := by
    refine Vector.ext fun i hi => ?_
    exact (State.eachGate_gate u s ⟨i, hi⟩).trans (h ⟨i, hi⟩)
  rw [State.eachGate_frame, hgates]

/-- The state of an entry to CONFIG that finds its gates settled and the regime NORMAL, before the shadows are swapped. -/
def State.settling (s : State) : State := (s.enteringConfig.clearAll (allGates.map .gateLag)).clear .headHigh

theorem State.enterConfig_of_settled (hregime : s.lvu.regime = .normal) (hgates : ∀ i, (s.gate i).configured (s.cfg i) = s.gate i) :
    s.enterConfig = s.settling.swapShadows.stopRefresh.clearAll ([.rampHeld, .controlSilent] ++ allGates.map .bypassBlocked) := by
  have heach : s.enteringConfig.eachGate Gate.configured = s.enteringConfig := State.eachGate_of_settled hgates
  have hset : (s.enteringConfig.clearAll (allGates.map .gateLag)).setRegime .normal = s.enteringConfig.clearAll (allGates.map .gateLag) :=
    if_pos hregime
  rw [State.enterConfig_eq, heach, hset]
  rfl

end

theorem State.swapShadows_of_none {s : State} (h : s.tables.readyShadows = []) : s.swapShadows = s := by
  rw [State.swapShadows, h]
  rfl

theorem Gate.configured_fresh (c : GateCfg) : ({} : Gate).configured c = {} := rfl

/-- An entry to CONFIG that finds nothing to seat, clear or swap changes the Mode Controller's registers alone. -/
theorem State.enterConfig_of_fresh {s : State} (hregime : s.lvu.regime = .normal) (hgates : ∀ i, s.gate i = {})
    (htables : s.tables.readyShadows = []) (hdesk : s.desk = {}) (hround : s.rgv.roundTimer = none) (hrefresh : s.csu.refreshTimer = none) :
    s.enterConfig = { s with mdc := s.enteringConfig.mdc } := by
  have hd : s.enterConfig.desk = s.desk := by rw [State.enterConfig_desk, hdesk, Desk.clearAll_fresh]
  have hframe : s.enterConfig = { s.settling.stopRefresh with desk := s.enterConfig.desk } := by
    have hgate (i : Fin 16) : (s.gate i).configured (s.cfg i) = s.gate i := by rw [hgates, Gate.configured_fresh]
    rw [State.enterConfig_of_settled hregime hgate, State.swapShadows_of_none (by exact htables)]
    rfl
  have hrgv : { s.rgv with roundTimer := none } = s.rgv := by rw [← hround]
  have hcsu : { s.csu with refreshTimer := none } = s.csu := by rw [← hrefresh]
  rw [hframe, hd]
  show { s with mdc := s.enteringConfig.mdc, rgv := { s.rgv with roundTimer := none }, csu := { s.csu with refreshTimer := none } } = _
  rw [hrgv, hcsu]

/-! ## POWER_ON (R121, R122) -/

theorem State.afterPowerOn_gate (s : State) (pins : BitVec 2) (i : Fin 16) : (s.afterPowerOn pins).gate i = {} :=
  Vector.getElem_replicate ..

theorem execPowerOn_bus (s : State) {pins : BitVec 2} (h : startSourceOf pins = .bus) :
    execPowerOn pins s = .next { s.afterPowerOn pins with mdc := { mode := .config, source := .bus } } := by
  have hentered : (s.afterPowerOn pins).enterConfig = { s.afterPowerOn pins with mdc := (s.afterPowerOn pins).enteringConfig.mdc } :=
    State.enterConfig_of_fresh rfl (s.afterPowerOn_gate pins) rfl rfl rfl rfl
  rw [execPowerOn, h]
  refine (congrArg _ hentered).trans ?_
  rw [State.enteringConfig, State.afterPowerOn, h]

theorem execPowerOn_flash (s : State) {pins : BitVec 2} (h : startSourceOf pins ≠ .bus) :
    execPowerOn pins s = .next { s.afterPowerOn pins with
      mdc := { source := startSourceOf pins, phase := some .bootRead }, boot := some { slot := 0, outcomes := [] } } := by
  rw [execPowerOn]
  cases hp : startSourceOf pins with
  | bus => exact absurd hp h
  | flashAuto | flashHold => rw [State.afterPowerOn, hp]

/-- Settles O3: a start by the flash holds the boot read, one by the bus enters CONFIG with nothing to seat, clear or swap. -/
theorem powerOnStartsByTheModePins : Obligations.PowerOnStartsByTheModePins := by
  intro pins s
  by_cases h : startSourceOf pins = .bus
  · refine ⟨_, execPowerOn_bus s h, rfl, fun hp => ?_, fun hp => ?_, fun _ => ⟨rfl, rfl⟩⟩
    · rw [hp] at h
      cases h
    · rw [hp] at h
      cases h
  · refine ⟨_, execPowerOn_flash s h, rfl, fun hp => ?_, fun hp => ?_, fun hp => absurd ?_ h⟩
    · rw [hp]
      exact ⟨rfl, rfl⟩
    · rw [hp]
      exact ⟨rfl, rfl⟩
    · obtain hp | hp := hp <;> rw [hp] <;> rfl

end Sys2Proof.Machine
end

section
/-! PROOFS. What the owner blocks do with the tables they take: the watches of gates and channels, the port timers, the
forecast, the default tailwater and the own acceptance. -/

namespace Sys2Proof.Machine

/-- Two folds agree where their steps agree along an invariant. -/
theorem foldl_congr_of {α σ : Type} {P : σ → Prop} {f g : σ → α → σ} (h : ∀ t a, P t → f t a = g t a ∧ P (g t a))
    (l : List α) {s : σ} (hs : P s) : l.foldl f s = l.foldl g s := by
  induction l generalizing s with
  | nil => rfl
  | cons a r ih =>
    obtain ⟨hstep, hkeeps⟩ := h s a hs
    rw [List.foldl_cons, List.foldl_cons, hstep, ih hkeeps]

/-! ## Seen watches (R8) -/

theorem Gate.startSeenWatch_eq (g : Gate) (t : Tables) (now : Tick) :
    g.startSeenWatch t now = { g with stateTimer := t.station.get?.map (fun st => now + st.seenTimeout) } := by
  unfold Gate.startSeenWatch TableSlot.get?
  cases t.station <;> rfl

/-- A gate after the seen watches start. -/
def Gate.awaited (t : Tables) (now : Tick) (c : GateCfg) (g : Gate) : Gate :=
  if c.inService = true ∧ g.state = .unseen then { g with stateTimer := t.station.get?.map (fun st => now + st.seenTimeout) } else g

section
variable (s : State)

theorem State.startSeenWatches_eq_eachGate : s.startSeenWatches = s.eachGate (Gate.awaited s.tables s.now) := by
  let kept (t : State) : Prop := t.tables = s.tables ∧ t.now = s.now
  have hstep (t : State) (i : Fin 16) (ht : kept t) :
      (if (t.cfg i).inService = true ∧ (t.gate i).state = .unseen then t.setGate i ((t.gate i).startSeenWatch t.tables t.now) else t) =
        t.setGate i ((t.gate i).awaited s.tables s.now (t.cfg i)) := by
    obtain ⟨htables, hnow⟩ := ht
    by_cases h : (t.cfg i).inService = true ∧ (t.gate i).state = .unseen
    · rw [if_pos h, Gate.awaited, if_pos h, Gate.startSeenWatch_eq, htables, hnow]
    · rw [if_neg h, Gate.awaited, if_neg h, State.setGate_gate_self]
  have hkept (t : State) (i : Fin 16) (g : Gate) (ht : kept t) : kept (t.setGate i g) := ht
  exact foldl_congr_of (P := kept) (fun t i ht => ⟨hstep t i ht, hkept t i _ ht⟩) allGates ⟨rfl, rfl⟩

theorem State.startSeenWatches_gate (i : Fin 16) : s.startSeenWatches.gate i = (s.gate i).awaited s.tables s.now (s.cfg i) := by
  rw [State.startSeenWatches_eq_eachGate, State.eachGate_gate]

theorem State.startSeenWatches_frame :
    s.startSeenWatches = { s with yard := { s.yard with gates := s.startSeenWatches.yard.gates } } := by
  rw [State.startSeenWatches_eq_eachGate]
  exact State.eachGate_frame ..

/-! ## Stale watches (R46) -/

theorem mem_allChannels (c : Fin 8) : c ∈ allChannels := by revert c; decide

/-- A channel after the stale watches start. -/
def Channel.watched (t : Tables) (now : Tick) (c : Fin 8) (r : Channel) : Channel :=
  if (t.channelCfg c).role = .unused then r else { r with staleWatch := some (now + (t.channelCfg c).staleLimit) }

theorem State.foldl_watched_channel (l : List (Fin 8)) (hl : l.Nodup) (c : Fin 8) :
    (l.foldl (fun t d => t.setChannel d ((t.channel d).watched t.tables t.now d)) s).channel c =
      if c ∈ l then (s.channel c).watched s.tables s.now c else s.channel c := by
  induction l generalizing s with
  | nil => simp
  | cons d r ih =>
    obtain ⟨hd, hr⟩ := List.nodup_cons.1 hl
    rw [List.foldl_cons, ih _ hr]
    by_cases hc : c = d
    · simp [hc, hd]
    · simp [hc, State.channel_setChannel_ne _ _ hc]

theorem State.setChannel_channel_self (c : Fin 8) : s.setChannel c (s.channel c) = s := by
  simp [State.setChannel, State.channel]

theorem State.startStaleWatches_eq :
    s.startStaleWatches = allChannels.foldl (fun t d => t.setChannel d ((t.channel d).watched t.tables t.now d)) s := by
  refine foldl_congr_of (P := fun _ => True) (fun t d _ => ⟨?_, trivial⟩) _ trivial
  unfold Channel.watched
  dsimp only
  split
  · exact (t.setChannel_channel_self d).symm
  · rfl

theorem State.startStaleWatches_channel (c : Fin 8) :
    s.startStaleWatches.channel c = (s.channel c).watched s.tables s.now c := by
  rw [State.startStaleWatches_eq, State.foldl_watched_channel _ _ (by decide), if_pos (mem_allChannels c)]

theorem State.startStaleWatches_frame :
    s.startStaleWatches = { s with lvu := { s.lvu with channels := s.startStaleWatches.lvu.channels } } := by
  rw [State.startStaleWatches_eq]
  exact foldl_keeps (fun t : State => t = { s with lvu := { s.lvu with channels := t.lvu.channels } }) _
    (fun t d ht => by rw [ht]; rfl) _ _ rfl

/-! ## Port timers and the forecast (R103, R109) -/

/-- A reach port after its timers start, where it is present. -/
def State.timed (p : ReachSide) : ReachPort :=
  if s.portPresent p = true then
    { s.reachPort p with
      silence := some (s.now + s.tables.stationOr.linkTimeout), period := some (s.now + s.tables.stationOr.linkPeriod) }
  else s.reachPort p

theorem State.startPortTimers_eq (p : ReachSide) : s.startPortTimers p = s.setReachPort p (s.timed p) := by
  unfold State.startPortTimers State.timed
  cases p <;> split <;> rfl

theorem State.startPortTimers_both :
    (s.startPortTimers .U).startPortTimers .D = { s with portU := s.timed .U, portD := s.timed .D } := by
  rw [State.startPortTimers_eq, State.startPortTimers_eq]
  rfl

theorem State.stationHeadOfCascade_eq : s.stationHeadOfCascade = { s with
    csu := if s.portPresent .U = true then s.csu else { s.csu with
      queue := [], upstream := s.tables.initialUpstream, upstreamSource := .initial, forecast := .tracking } } := by
  unfold State.stationHeadOfCascade
  split <;> rfl

/-! ## The default tailwater (R49, R50) -/

/-- Head from a headwater and a tailwater, or the last valid head (R50). -/
theorem Lvu.computeHead_head (l : Lvu) : l.computeHead.head =
    (match l.headwater with
     | some h => min (h - l.tailwater) 200000
     | none => l.lastHead.getD 0) := by
  unfold Lvu.computeHead
  cases l.headwater <;> rfl

theorem Lvu.computeHead_frame (l : Lvu) : l.computeHead = { l with head := l.computeHead.head, lastHead := l.computeHead.lastHead } := by
  unfold Lvu.computeHead
  split <;> rfl

variable {s} in
theorem State.tailwaterDefaultChanged_of_default (h : s.lvu.tailSource = .default) : s.tailwaterDefaultChanged =
    { s with lvu := Lvu.computeHead { s.lvu with tailwater := s.tables.stationOr.tailwaterDefault } } := by
  rw [State.tailwaterDefaultChanged, h]
  rfl

variable {s} in
theorem State.tailwaterDefaultChanged_of_ne (h : s.lvu.tailSource ≠ .default) : s.tailwaterDefaultChanged = s := by
  unfold State.tailwaterDefaultChanged
  split
  · exact absurd ‹_› h
  · rfl

theorem State.tailwaterDefaultChanged_frame : s.tailwaterDefaultChanged = { s with lvu := s.tailwaterDefaultChanged.lvu } := by
  by_cases h : s.lvu.tailSource = .default
  · rw [State.tailwaterDefaultChanged_of_default h]
  · rw [State.tailwaterDefaultChanged_of_ne h]

/-! ## The effective upstream outflow (R111) -/

theorem State.followReach_eq : s.followReach = { s with
    csu := { s.csu with upstream := if s.csu.upstreamSource = .initial then s.tables.initialUpstream else s.csu.upstream } } := by
  unfold State.followReach
  cases h : s.csu.upstreamSource <;> rfl

/-! ## The own acceptance (R116, R117) -/

/-- The own acceptance recorded, with nothing placed on Port U. -/
def State.ownAcceptanceKept : State := { s with csu := { s.csu with ownAcceptance := s.ownAcceptanceNow } }

/-- A value of the own acceptance that is to go upstream. -/
def State.acceptPlaced (a : Nat) : State := { s with
  portU := { s.portU with pendingAccept := some a }
  csu := { s.csu with ownAcceptance := s.ownAcceptanceNow, lastSent := some a } }

theorem State.computeOwnAcceptance_own : s.computeOwnAcceptance.csu.ownAcceptance = s.ownAcceptanceNow := by
  unfold State.computeOwnAcceptance State.placeAccept
  dsimp only
  split
  · split
    · rfl
    · split <;> rfl
  · rfl

variable {s}

theorem State.computeOwnAcceptance_kept
    (h : s.ownAcceptanceNow = none ∨ s.csu.lastSent = s.ownAcceptanceNow ∨ s.portPresent .U = false) :
    s.computeOwnAcceptance = s.ownAcceptanceKept := by
  unfold State.computeOwnAcceptance
  dsimp only
  cases ha : s.ownAcceptanceNow with
  | none => simp only [State.ownAcceptanceKept, ha]
  | some a =>
    obtain h | h | h := h
    · exact absurd (ha.symm.trans h) (Option.some_ne_none a)
    · simp only [h.trans ha, if_true, State.ownAcceptanceKept, ha]
    · have habsent : State.portPresent { s with csu := { s.csu with ownAcceptance := some a } } .U = false := h
      simp only [State.placeAccept, habsent, Bool.false_eq_true, if_false, State.ownAcceptanceKept, ha, ite_self]

theorem State.computeOwnAcceptance_placed {a : Nat} (ha : s.ownAcceptanceNow = some a) (hl : s.csu.lastSent ≠ some a)
    (hp : s.portPresent .U = true) : s.computeOwnAcceptance = (s.acceptPlaced a).startReach .U := by
  have hpresent : State.portPresent { s with csu := { s.csu with ownAcceptance := some a } } .U = true := hp
  unfold State.computeOwnAcceptance
  simp only [ha, if_neg hl, State.placeAccept, hpresent, if_true, State.acceptPlaced]

/-! ## An idle or busy reach port (R106) -/

theorem State.startReach_busy {p : ReachSide} (h : (s.reachPort p).sending.isSome = true) : s.startReach p = s := by
  obtain ⟨f, hf⟩ := Option.isSome_iff_exists.1 h
  unfold State.startReach
  rw [ReachPort.start_busy hf]
  cases p <;> rfl

theorem ReachPort.start_release {r : ReachPort} {q : Nat} (h : r.sending = none) (hq : r.pendingRelease = some q) (station sequence : Nat) :
    r.start station sequence = ({ r with
      pendingRelease := none
      sending := some (makeReachFrame (BitVec.ofNat 8 station) reachRelease (BitVec.ofNat 8 sequence) (beBytes 4 q)) },
      (sequence + 1) % 256) := by
  simp only [ReachPort.start, h, hq]

theorem ReachPort.start_accept {r : ReachPort} {a : Nat} (h : r.sending = none) (hq : r.pendingRelease = none)
    (ha : r.pendingAccept = some a) (station sequence : Nat) :
    r.start station sequence = ({ r with
      pendingAccept := none, sending := some (makeReachFrame (BitVec.ofNat 8 station) reachAccept 0 (beBytes 4 a)) }, sequence) := by
  simp only [ReachPort.start, h, hq, ha]

theorem State.computeOwnAcceptance_lastSent (hp : s.portPresent .U = true) :
    s.computeOwnAcceptance.csu.lastSent = (if s.ownAcceptanceNow = none then s.csu.lastSent else s.ownAcceptanceNow) := by
  cases ha : s.ownAcceptanceNow with
  | none => rw [State.computeOwnAcceptance_kept (.inl ha)]; rfl
  | some a =>
    by_cases hl : s.csu.lastSent = some a
    · rw [State.computeOwnAcceptance_kept (.inr (.inl (hl.trans ha.symm)))]
      exact hl
    · rw [State.computeOwnAcceptance_placed ha hl hp]
      rfl

end

end Sys2Proof.Machine
end

section
/-! PROOFS. The swap of READY shadows, said of the tables alone (R71). -/

namespace Sys2Proof.Machine

section
variable {α : Type} {o : OpTable α} {x : α}

theorem OpTable.swapped_of_ready (h : o.shadow = .ready x) : o.swapped = { active := .valid x, shadow := .none } := by
  rw [OpTable.swapped, h]

theorem OpTable.swapped_not_ready : o.swapped.shadow ≠ .ready x := by
  unfold OpTable.swapped
  split
  next => exact (nomatch ·)
  next h => exact h x

end

/-! ## The fold of the swap -/

/-- One READY image taken into use, said of the tables. -/
def Tables.swapIn (t : Tables) (p : TableId × TableData) : Tables := (t.dropShadow p.1).setContents p.2

theorem State.ownerTakes_station (s : State) (st : Station) : s.ownerTakes (.station st) =
    State.tailwaterDefaultChanged (State.stationHeadOfCascade
      (State.startPortTimers (State.startPortTimers (State.startSeenWatches { s with stationValidSince := some s.now }) .U) .D)) := rfl

theorem State.ownerTakes_tables (s : State) (d : TableData) : (s.ownerTakes d).tables = s.tables := by
  cases d with
  | station st =>
    rw [State.ownerTakes_station, State.tailwaterDefaultChanged_frame, State.stationHeadOfCascade_eq, State.startPortTimers_both,
      State.startSeenWatches_frame]
  | gates l => exact (congrArg State.tables s.startSeenWatches_frame :)
  | channels l => exact (congrArg State.tables s.startStaleWatches_frame :)
  | accept l => exact (congrArg State.tables s.computeOwnAcceptance_frame :)
  | reach r => exact (congrArg State.tables s.followReach_frame :)
  | groups | conditions | curve | ramp | flood | fill => rfl

theorem State.takeContents_tables (s : State) (d : TableData) : (s.takeContents d).tables = s.tables.setContents d :=
  State.ownerTakes_tables ..

theorem State.swapShadows_tables_fold (s : State) : s.swapShadows.tables = s.tables.readyShadows.foldl Tables.swapIn s.tables :=
  (List.foldl_hom State.tables (g₂ := Tables.swapIn) fun u p =>
    (State.takeContents_tables { u with tables := u.tables.dropShadow p.1 } p.2).symm).symm

section
variable (u : Tables)

theorem Tables.swapIn_ramp (o : OpTable Ramp) : (match o.shadow with | .ready x => [(TableId.ramp, TableData.ramp x)] | _ => []).foldl
    Tables.swapIn { u with ramp := o } = { u with ramp := o.swapped } := by
  obtain ⟨active, shadow⟩ := o
  cases shadow <;> rfl

theorem Tables.swapIn_flood (o : OpTable (List FloodRow)) : (match o.shadow with | .ready x => [(TableId.flood, TableData.flood x)] | _ => []).foldl
    Tables.swapIn { u with flood := o } = { u with flood := o.swapped } := by
  obtain ⟨active, shadow⟩ := o
  cases shadow <;> rfl

theorem Tables.swapIn_accept (o : OpTable (List AcceptRow)) : (match o.shadow with | .ready x => [(TableId.accept, TableData.accept x)] | _ => []).foldl
    Tables.swapIn { u with accept := o } = { u with accept := o.swapped } := by
  obtain ⟨active, shadow⟩ := o
  cases shadow <;> rfl

theorem Tables.swapIn_reach (o : OpTable Reach) : (match o.shadow with | .ready x => [(TableId.reach, TableData.reach x)] | _ => []).foldl
    Tables.swapIn { u with reach := o } = { u with reach := o.swapped } := by
  obtain ⟨active, shadow⟩ := o
  cases shadow <;> rfl

theorem Tables.swapIn_fill (o : OpTable (List (Fin 16))) : (match o.shadow with | .ready x => [(TableId.fill, TableData.fill x)] | _ => []).foldl
    Tables.swapIn { u with fill := o } = { u with fill := o.swapped } := by
  obtain ⟨active, shadow⟩ := o
  cases shadow <;> rfl

end

theorem Tables.foldl_swapIn (t : Tables) : t.readyShadows.foldl Tables.swapIn t = t.swapped := by
  unfold Tables.readyShadows
  rw [List.foldl_append, List.foldl_append, List.foldl_append, List.foldl_append]
  have hramp := Tables.swapIn_ramp t t.ramp
  have hflood := Tables.swapIn_flood { t with ramp := t.ramp.swapped } t.flood
  have haccept := Tables.swapIn_accept { t with ramp := t.ramp.swapped, flood := t.flood.swapped } t.accept
  have hreach := Tables.swapIn_reach { t with ramp := t.ramp.swapped, flood := t.flood.swapped, accept := t.accept.swapped } t.reach
  have hfill := Tables.swapIn_fill
    { t with ramp := t.ramp.swapped, flood := t.flood.swapped, accept := t.accept.swapped, reach := t.reach.swapped } t.fill
  have then_ {l : List (TableId × TableData)} {a b c : Tables} (hab : a = b) (hbc : l.foldl Tables.swapIn b = c) :
      l.foldl Tables.swapIn a = c := hab ▸ hbc
  exact then_ (then_ (then_ (then_ hramp hflood) haccept) hreach) hfill

theorem State.swapShadows_tables (s : State) : s.swapShadows.tables = s.tables.swapped :=
  s.swapShadows_tables_fold.trans s.tables.foldl_swapIn

/-! ## What the swap leaves and takes -/

section
variable (t : Tables)

theorem Tables.mem_readyShadows {p : TableId × TableData} (h : p ∈ t.readyShadows) : t.swapped.data? p.1 = some p.2 := by
  have taken {α : Type} {o : OpTable α} {x : α} (hx : o.shadow = .ready x) : o.swapped.active.get? = some x := by
    rw [OpTable.swapped_of_ready hx]
    rfl
  simp only [Tables.readyShadows, List.mem_append, or_assoc] at h
  obtain h | h | h | h | h := h
  all_goals
    split at h
    next x hx =>
      rw [List.mem_singleton.1 h]
      exact congrArg (Option.map _) (taken hx)
    next => exact absurd h List.not_mem_nil

theorem Tables.swapped_readyShadows : t.swapped.readyShadows = [] := by
  unfold Tables.readyShadows
  simp only [List.append_eq_nil_iff]
  refine ⟨⟨⟨⟨?_, ?_⟩, ?_⟩, ?_⟩, ?_⟩
  all_goals
    split
    next x hx => exact absurd hx OpTable.swapped_not_ready
    next => rfl

variable {t} in
theorem Tables.swapped_of_none (h : t.readyShadows = []) : t.swapped = t := by
  rw [← Tables.foldl_swapIn, h]
  rfl

theorem Tables.swapped_structural {id : TableId} (h : id.structural = true) :
    t.swapped.stateCode id = t.stateCode id ∧ t.swapped.data? id = t.data? id := by
  cases id with
  | ramp | flood | accept | reach | fill => cases h
  | _ => exact ⟨rfl, rfl⟩

end

end Sys2Proof.Machine
end

section
/-! PROOFS. The RESTART (O47): the owners that start from the tables held, and the start decided at once. -/

namespace Sys2Proof.Machine

/-! ## The own acceptance of a part without headwater (R116) -/

section
variable (s : State)

/-- The ACCEPT frame that begins on Port U. -/
def State.acceptFrame (a : Nat) : ReachFrame :=
  makeReachFrame (BitVec.ofNat 8 s.tables.stationOr.stationNumber) reachAccept 0 (beBytes 4 a)

/-- Without headwater in NORMAL the cascade is as a restart leaves it, but for the own acceptance, which may still wait to be computed. -/
structure State.Awaiting (silence period : Timer) : Prop where
  regime : s.lvu.regime = .normal
  headwater : s.lvu.headwater = none
  csu : s.csu = { upstream := s.tables.initialUpstream, ownAcceptance := s.csu.ownAcceptance, lastSent := s.csu.lastSent }
  sent : s.csu.lastSent = none ∨ s.csu.lastSent = some 0 ∧ s.tables.accept.active.isValid = true
  present : s.portPresent .U = true →
    s.portU = { silence := silence, period := period, sending := s.csu.lastSent.map s.acceptFrame }
  absent : s.portPresent .U = false → s.csu.lastSent = none ∧ s.portU = {}

/-- The cascade as a restart leaves it: an own acceptance of 0, or none, and what was sent of it. -/
structure State.OwnsNothing (silence period : Timer) : Prop extends s.Awaiting silence period where
  own : s.csu.ownAcceptance = if s.tables.accept.active.isValid then some 0 else none
  sentOwn : s.portPresent .U = true → s.csu.lastSent = s.csu.ownAcceptance

end

section
variable {s : State} {silence period : Timer}

theorem State.Awaiting.ownAcceptanceNow (h : s.Awaiting silence period) :
    s.ownAcceptanceNow = if s.tables.accept.active.isValid then some 0 else none := by
  unfold State.ownAcceptanceNow
  rw [h.regime, h.headwater]
  cases s.tables.accept.active <;> rfl

theorem State.Awaiting.kept (h : s.Awaiting silence period)
    (hk : s.ownAcceptanceNow = none ∨ s.csu.lastSent = s.ownAcceptanceNow ∨ s.portPresent .U = false) :
    s.computeOwnAcceptance.OwnsNothing silence period := by
  rw [State.computeOwnAcceptance_kept hk]
  refine ⟨⟨h.regime, h.headwater, ?_, h.sent, h.present, h.absent⟩, h.ownAcceptanceNow, fun hp => ?_⟩
  · have hcsu := h.csu
    rw [State.ownAcceptanceKept]
    generalize s.ownAcceptanceNow = own
    show { s.csu with ownAcceptance := own } = _
    rw [hcsu]
  · obtain hk | hk | hk := hk
    · refine Eq.trans ?_ hk.symm
      obtain hs | ⟨-, hv⟩ := h.sent
      · exact hs
      · have hnow := h.ownAcceptanceNow
        rw [hk, hv] at hnow
        cases hnow
    · exact hk
    · exact absurd (hk.symm.trans hp) Bool.false_ne_true

theorem State.Awaiting.placed (h : s.Awaiting silence period) (hnow : s.ownAcceptanceNow = some 0)
    (hl : s.csu.lastSent = none) (hp : s.portPresent .U = true) : s.computeOwnAcceptance.OwnsNothing silence period := by
  have hvalid : s.tables.accept.active.isValid = true := by
    by_contra hv
    have := h.ownAcceptanceNow
    rw [hnow, if_neg hv] at this
    cases this
  have hU := h.present hp
  have hcsu := h.csu
  rw [hl] at hU hcsu
  have hstart := ReachPort.start_accept (r := (s.acceptPlaced 0).portU) (a := 0) (by rw [State.acceptPlaced, hU]; rfl)
    (by rw [State.acceptPlaced, hU]) rfl s.tables.stationOr.stationNumber (s.acceptPlaced 0).csu.outSequence
  have hplaced : s.computeOwnAcceptance = { s with
      csu := { s.csu with ownAcceptance := some 0, lastSent := some 0 }
      portU := { silence := silence, period := period, sending := some (s.acceptFrame 0) } } := by
    rw [State.computeOwnAcceptance_placed hnow (by rw [hl]; exact (nomatch ·)) hp]
    show { s.acceptPlaced 0 with
      portU := ((s.acceptPlaced 0).portU.start s.tables.stationOr.stationNumber (s.acceptPlaced 0).csu.outSequence).1
      csu := { (s.acceptPlaced 0).csu with
        outSequence := ((s.acceptPlaced 0).portU.start s.tables.stationOr.stationNumber (s.acceptPlaced 0).csu.outSequence).2 } } = _
    rw [hstart]
    simp only [State.acceptPlaced, hU, hnow]
    rfl
  rw [hplaced]
  refine ⟨⟨h.regime, h.headwater, ?_, .inr ⟨rfl, hvalid⟩, fun _ => rfl, fun ha => absurd (hp.symm.trans ha) (Bool.false_ne_true ·.symm)⟩,
    (if_pos hvalid).symm, fun _ => rfl⟩
  show { s.csu with ownAcceptance := some 0, lastSent := some 0 } = _
  rw [hcsu]

theorem State.Awaiting.settled (h : s.Awaiting silence period) : s.computeOwnAcceptance.OwnsNothing silence period := by
  have hnow := h.ownAcceptanceNow
  split at hnow
  next hv =>
    obtain hl | ⟨hl, -⟩ := h.sent
    · cases hp : s.portPresent .U with
      | true => exact h.placed hnow hl hp
      | false => exact h.kept (.inr (.inr hp))
    · exact h.kept (.inr (.inl (hl.trans hnow.symm)))
  next => exact h.kept (.inl hnow)

/-! ## The swap of READY shadows after a restart -/

/-- What the cascade reads of the tables. -/
structure Tables.SameCascade (t u : Tables) : Prop where
  station : u.station = t.station
  accept : u.accept.active = t.accept.active
  reach : u.reach.active = t.reach.active

theorem Tables.SameCascade.reads {t u : Tables} (h : t.SameCascade u) :
    u.stationOr = t.stationOr ∧ u.initialUpstream = t.initialUpstream := by
  unfold Tables.stationOr Tables.initialUpstream
  rw [h.station, h.reach]
  exact ⟨rfl, rfl⟩

theorem Tables.dropShadow_sameCascade (t : Tables) (id : TableId) : t.SameCascade (t.dropShadow id) := by
  cases id <;> exact ⟨rfl, rfl, rfl⟩

theorem State.OwnsNothing.of_tables (h : s.OwnsNothing silence period) {t : Tables} (ht : s.tables.SameCascade t) :
    State.OwnsNothing { s with tables := t } silence period := by
  obtain ⟨hstation, hupstream⟩ := ht.reads
  have hpresent : State.portPresent { s with tables := t } .U = s.portPresent .U := by
    have hneighbour : State.neighbour { s with tables := t } .U = s.neighbour .U := congrArg Station.upstream hstation
    rw [State.portPresent, hneighbour, State.portPresent]
  have hframe : State.acceptFrame { s with tables := t } = s.acceptFrame := by
    funext a
    simp only [State.acceptFrame, hstation]
  obtain ⟨⟨hr, hw, hcsu, hsent, hp, ha⟩, hown, hsentOwn⟩ := h
  refine ⟨⟨hr, hw, ?_, ?_, ?_, ?_⟩, ?_, ?_⟩
  · show s.csu = { upstream := t.initialUpstream, ownAcceptance := s.csu.ownAcceptance, lastSent := s.csu.lastSent }
    rw [hupstream]
    exact hcsu
  · show _ ∨ _ ∧ t.accept.active.isValid = true
    rw [ht.accept]
    exact hsent
  · rw [hpresent, hframe]
    exact hp
  · rw [hpresent]
    exact ha
  · show _ = if t.accept.active.isValid then _ else _
    rw [ht.accept]
    exact hown
  · rw [hpresent]
    exact hsentOwn

theorem State.OwnsNothing.takes (h : s.OwnsNothing silence period) {d : TableData}
    (hd : (∃ x, d = .ramp x) ∨ (∃ x, d = .flood x) ∨ (∃ x, d = .accept x) ∨ (∃ x, d = .reach x) ∨ ∃ x, d = .fill x) :
    (s.takeContents d).OwnsNothing silence period := by
  obtain ⟨x, rfl⟩ | ⟨x, rfl⟩ | ⟨x, rfl⟩ | ⟨x, rfl⟩ | ⟨x, rfl⟩ := hd
  · exact h.of_tables ⟨rfl, rfl, rfl⟩
  · exact h.of_tables ⟨rfl, rfl, rfl⟩
  · refine State.Awaiting.settled ⟨h.regime, h.headwater, h.csu, ?_, h.present, h.absent⟩
    exact h.sent.imp_right fun ⟨hl, _⟩ => ⟨hl, rfl⟩
  · have hsource : s.csu.upstreamSource = .initial := by rw [h.csu]
    have hfollowed : s.takeContents (.reach x) = { s with
        tables := s.tables.setContents (.reach x), csu := { s.csu with upstream := x.initial } } := by
      refine (State.followReach_eq _).trans ?_
      show State.mk .. = _
      rw [if_pos hsource]
      rfl
    rw [hfollowed]
    refine ⟨⟨h.regime, h.headwater, ?_, h.sent, h.present, h.absent⟩, h.own, h.sentOwn⟩
    show { s.csu with upstream := x.initial } = _
    rw [h.csu]
    rfl
  · exact h.of_tables ⟨rfl, rfl, rfl⟩

theorem State.OwnsNothing.of_eq {t : State} (h : s.OwnsNothing silence period) (hlvu : t.lvu = s.lvu) (hcsu : t.csu = s.csu)
    (hU : t.portU = s.portU) (htables : t.tables = s.tables) : t.OwnsNothing silence period := by
  obtain ⟨_, _, _, tlvu, _, tcsu, tportU, _, _, ttables, _⟩ := t
  obtain ⟨_, _, _, slvu, _, scsu, sportU, _, _, stables, _⟩ := s
  obtain rfl : tlvu = slvu := hlvu
  obtain rfl : tcsu = scsu := hcsu
  obtain rfl : tportU = sportU := hU
  obtain rfl : ttables = stables := htables
  obtain ⟨⟨hr, hw, hc, hsent, hp, ha⟩, hown, hsentOwn⟩ := h
  exact ⟨⟨hr, hw, hc, hsent, hp, ha⟩, hown, hsentOwn⟩

theorem State.OwnsNothing.swapped (h : s.OwnsNothing silence period) : s.swapShadows.OwnsNothing silence period :=
  List.foldlRecOn (motive := fun t : State => t.OwnsNothing silence period) s.tables.readyShadows _ h fun t ht p hp =>
    (ht.of_tables (t.tables.dropShadow_sameCascade p.1)).takes (Tables.readyShadows_operating hp)

end

/-! ## What the owners hold after a RESTART (R8, R43, R49, R103) -/

section
variable (s : State)

/-- A reach port as it starts after a RESTART. -/
def State.portRestarted (neighbour : Nat) : ReachPort :=
  if 1 ≤ neighbour ∧ neighbour ≤ 63 then
    { silence := some (s.now + s.tablesThroughRestart.stationOr.linkTimeout)
      period := some (s.now + s.tablesThroughRestart.stationOr.linkPeriod) }
  else {}

/-- A gate as it starts after a RESTART. -/
def State.gateRestarted (i : Fin 16) : Gate :=
  if s.tablesThroughRestart.station.isValid = true ∧ (s.tablesThroughRestart.gateCfg i).inService = true then
    { stateTimer := some (s.now + s.tablesThroughRestart.stationOr.seenTimeout) }
  else {}

/-- A state that holds what a RESTART leaves, but for mode, conditions and tables. -/
structure State.Restarted (u : State) : Prop where
  frame : u = {
    now := s.now, mdc := u.mdc, yard := { gates := u.yard.gates }
    lvu := { channels := u.lvu.channels, tailwater := s.tablesThroughRestart.stationOr.tailwaterDefault }
    csu := u.csu, portU := u.portU, portD := u.portD, desk := u.desk, tables := u.tables
    stationValidSince := if s.tablesThroughRestart.station.isValid then some s.now else none
    flash := s.cutSave, draws := s.draws, pending := s.pending }
  gates : ∀ i, u.gate i = s.gateRestarted i
  channels : ∀ c, u.channel c = ({} : Channel).watched s.tablesThroughRestart s.now c
  portD : u.portD = s.portRestarted s.tablesThroughRestart.stationOr.downstream
  station : u.tables.station = s.tablesThroughRestart.station
  owns : u.OwnsNothing (some (s.now + s.tablesThroughRestart.stationOr.linkTimeout))
    (some (s.now + s.tablesThroughRestart.stationOr.linkPeriod))

/-- The first owners of a RESTART: the reach ports. -/
def State.portsRestarted : State := { s.afterRestart with portU := s.afterRestart.timed .U, portD := s.afterRestart.timed .D }

theorem State.timed_of_absent {s : State} {p : ReachSide} (h : s.portPresent p = false) : s.timed p = s.reachPort p :=
  if_neg fun hp => Bool.false_ne_true (h.symm.trans hp)

theorem State.portPresent_of_station {s : State} (h : s.tables.station.get? = none) (p : ReachSide) : s.portPresent p = false := by
  have hstation : s.tables.stationOr = {} := by
    unfold Tables.stationOr
    unfold TableSlot.get? at h
    cases hs : s.tables.station with
    | valid st => rw [hs] at h; cases h
    | _ => rfl
  have hneighbour : s.neighbour p = 0 := by cases p <;> rw [State.neighbour, hstation]
  rw [State.portPresent, hneighbour]
  rfl

theorem State.portsRestarted_eq : (match s.afterRestart.tables.station with
    | .valid _ => (s.afterRestart.startPortTimers .U).startPortTimers .D
    | _ => s.afterRestart) = s.portsRestarted := by
  rw [State.startPortTimers_both]
  have absent (h : s.afterRestart.tables.station.get? = none) : s.afterRestart = s.portsRestarted := by
    have hU := State.timed_of_absent (State.portPresent_of_station h .U)
    have hD := State.timed_of_absent (State.portPresent_of_station h .D)
    rw [State.portsRestarted, hU, hD]
    rfl
  unfold TableSlot.get? at absent
  cases hs : s.afterRestart.tables.station with
  | valid st => rfl
  | _ => exact absent (by rw [hs])

/-- The state a RESTART leaves before the own acceptance is computed, from its gates, channels and reach ports. -/
def State.restartedWith (gates : Vector Gate 16) (channels : Vector Channel 8) (portU portD : ReachPort) : State := {
  now := s.now, mdc := { source := s.mdc.source }, yard := { gates := gates }
  lvu := { channels := channels, tailwater := s.tablesThroughRestart.stationOr.tailwaterDefault }
  csu := { upstream := s.tablesThroughRestart.initialUpstream }, portU := portU, portD := portD
  tables := s.tablesThroughRestart
  stationValidSince := if s.tablesThroughRestart.station.isValid then some s.now else none
  flash := s.cutSave, draws := s.draws, pending := s.pending }

/-- The owners have started, and the own acceptance waits. -/
def State.watchesRestarted : State := s.restartedWith s.portsRestarted.startSeenWatches.yard.gates
  s.portsRestarted.startStaleWatches.lvu.channels (s.afterRestart.timed .U) (s.afterRestart.timed .D)

theorem State.startWatches_both : s.startSeenWatches.startStaleWatches = { s with
    yard := { s.yard with gates := s.startSeenWatches.yard.gates }
    lvu := { s.lvu with channels := s.startStaleWatches.lvu.channels } } := by
  have hseen := s.startSeenWatches_frame
  have hchannels : s.startSeenWatches.startStaleWatches.lvu.channels = s.startStaleWatches.lvu.channels := by
    refine Vector.ext fun c hc => ?_
    refine (State.startStaleWatches_channel _ ⟨c, hc⟩).trans (Eq.trans ?_ (s.startStaleWatches_channel ⟨c, hc⟩).symm)
    rw [hseen]
    rfl
  rw [State.startStaleWatches_frame, hchannels, hseen]

theorem State.portsRestarted_watches (gates : Vector Gate 16) (channels : Vector Channel 8) :
    State.tailwaterDefaultChanged { State.followReach { s.portsRestarted with
        yard := { s.portsRestarted.yard with gates := gates }, lvu := { s.portsRestarted.lvu with channels := channels } } with
      stationValidSince := if s.tablesThroughRestart.station.isValid then some s.now else none } =
    s.restartedWith gates channels (s.afterRestart.timed .U) (s.afterRestart.timed .D) := by
  unfold State.portsRestarted State.restartedWith
  generalize s.afterRestart.timed .U = U
  generalize s.afterRestart.timed .D = D
  rfl

theorem State.restartEffect_eq : s.restartEffect = s.watchesRestarted.computeOwnAcceptance.decideStart := by
  unfold State.restartEffect
  extract_lets s0 s1 s2 s3
  have h1 : s1 = s.portsRestarted := s.portsRestarted_eq
  have h2 : s2 = State.followReach { s.portsRestarted with
      yard := { s.portsRestarted.yard with gates := s.portsRestarted.startSeenWatches.yard.gates }
      lvu := { s.portsRestarted.lvu with channels := s.portsRestarted.startStaleWatches.lvu.channels } } := by
    rw [← State.startWatches_both, ← h1]
  have h3 : s3 = s.watchesRestarted := by
    have hkept : s2.tables = s.tablesThroughRestart ∧ s2.now = s.now := by
      rw [h2, State.followReach_eq]
      exact ⟨rfl, rfl⟩
    obtain ⟨htables, hnow⟩ := hkept
    unfold s3
    rw [htables, hnow, h2]
    exact s.portsRestarted_watches ..
  rw [h3]

section
variable {s} {gates : Vector Gate 16} {channels : Vector Channel 8} {U D : ReachPort}

theorem State.restartedWith_awaiting (hU : U = s.portRestarted s.tablesThroughRestart.stationOr.upstream) :
    (s.restartedWith gates channels U D).Awaiting
      (some (s.now + s.tablesThroughRestart.stationOr.linkTimeout)) (some (s.now + s.tablesThroughRestart.stationOr.linkPeriod)) where
  regime := rfl
  headwater := rfl
  csu := rfl
  sent := .inl rfl
  present hp := hU.trans (if_pos (of_decide_eq_true hp))
  absent ha := ⟨rfl, hU.trans (if_neg (of_decide_eq_false ha))⟩

theorem State.restartedWith_restarted (hgates : ∀ i : Fin 16, gates[i] = s.gateRestarted i)
    (hchannels : ∀ c : Fin 8, channels[c] = ({} : Channel).watched s.tablesThroughRestart s.now c)
    (hU : U = s.portRestarted s.tablesThroughRestart.stationOr.upstream)
    (hD : D = s.portRestarted s.tablesThroughRestart.stationOr.downstream) :
    s.Restarted (s.restartedWith gates channels U D).computeOwnAcceptance := by
  have howns := (State.restartedWith_awaiting (gates := gates) (channels := channels) (D := D) hU).settled
  have hframe := (s.restartedWith gates channels U D).computeOwnAcceptance_frame
  generalize (s.restartedWith gates channels U D).computeOwnAcceptance = u at howns hframe ⊢
  refine ⟨?_, fun i => ?_, fun c => ?_, ?_, ?_, howns⟩ <;> rw [hframe]
  · rfl
  · exact hgates i
  · exact hchannels c
  · exact hD
  · rfl

end

theorem State.portsRestarted_gate (i : Fin 16) : s.portsRestarted.startSeenWatches.gate i = s.gateRestarted i := by
  have hfresh : s.portsRestarted.gate i = {} := Vector.getElem_replicate ..
  have htables : s.portsRestarted.tables = s.tablesThroughRestart := rfl
  have hnow : s.portsRestarted.now = s.now := rfl
  rw [State.startSeenWatches_gate, hfresh, State.cfg, htables, hnow, Gate.awaited, State.gateRestarted]
  unfold TableSlot.isValid TableSlot.get? Tables.stationOr
  cases s.tablesThroughRestart.station <;> simp

theorem State.portsRestarted_channel (c : Fin 8) :
    s.portsRestarted.startStaleWatches.channel c = ({} : Channel).watched s.tablesThroughRestart s.now c := by
  have hfresh : s.portsRestarted.channel c = {} := Vector.getElem_replicate ..
  have htables : s.portsRestarted.tables = s.tablesThroughRestart := rfl
  have hnow : s.portsRestarted.now = s.now := rfl
  rw [State.startStaleWatches_channel, hfresh, htables, hnow]

theorem State.afterRestart_timed (p : ReachSide) : s.afterRestart.timed p = s.portRestarted (s.afterRestart.neighbour p) := by
  unfold State.timed State.portRestarted State.portPresent
  cases p <;> simp only [decide_eq_true_eq] <;> rfl

theorem State.watchesRestarted_restarted : s.Restarted s.watchesRestarted.computeOwnAcceptance :=
  State.restartedWith_restarted s.portsRestarted_gate s.portsRestarted_channel (s.afterRestart_timed .U) (s.afterRestart_timed .D)

end

end Sys2Proof.Machine
end

section
/-! PROOFS. The start decided after a RESTART (O47). -/

namespace Sys2Proof.Machine

section
variable {s u : State}

/-- Mode and conditions aside, a restarted state stays one. -/
theorem State.Restarted.with_mdc_desk (h : s.Restarted u) (m : Mdc) (d : Desk) : s.Restarted { u with mdc := m, desk := d } := by
  obtain ⟨hframe, hgates, hchannels, hD, hstation, howns⟩ := h
  refine ⟨?_, hgates, hchannels, hD, hstation, howns.of_eq rfl rfl rfl rfl⟩
  rw [hframe]

theorem State.Restarted.gate_configured (h : s.Restarted u) (i : Fin 16) : (u.gate i).configured (u.cfg i) = u.gate i := by
  rw [h.gates, State.gateRestarted]
  split <;> rfl

theorem State.Restarted.enterConfig (h : s.Restarted u) : s.Restarted u.enterConfig ∧ u.enterConfig.tables = u.tables.swapped := by
  have hregime : u.lvu.regime = .normal := by rw [h.frame]
  have hentered := State.enterConfig_of_settled hregime h.gate_configured
  have hframe := u.settling.swapShadows_frame
  have hstation0 := h.station
  have htables := u.settling.swapShadows_tables
  have hkept : u.settling.tables = u.tables := rfl
  rw [hkept] at htables
  have hsettled : s.Restarted u.settling := by
    have hsame : u.settling = { u with mdc := u.settling.mdc, desk := u.settling.desk } := by
      have hround : u.rgv = { u.rgv with roundTimer := none } := by rw [h.frame]
      unfold State.settling State.enteringConfig
      rw [← hround]
      rfl
    rw [hsame]
    exact h.with_mdc_desk ..
  have howns := hsettled.owns.swapped
  generalize u.settling.swapShadows = v at hframe htables howns hentered
  have hcsu : v.stopRefresh = v := by
    have hrefresh : v.csu = { v.csu with refreshTimer := none } := by rw [howns.csu]
    rw [State.stopRefresh, ← hrefresh]
  rw [hentered, hcsu]
  refine ⟨?_, (State.clearAll_tables ..).trans htables⟩
  have hv : s.Restarted v := by
    clear hentered
    generalize u.settling = w at hframe hsettled
    obtain ⟨hfr, hgates, hchannels, hD, hstation, -⟩ := hsettled
    refine ⟨?_, fun i => ?_, fun c => ?_, ?_, ?_, howns⟩
    · have hmdc : v.mdc = w.mdc := (congrArg State.mdc hframe :)
      have hyard : v.yard = w.yard := (congrArg State.yard hframe :)
      have hlvu : v.lvu = w.lvu := (congrArg State.lvu hframe :)
      have hportD : v.portD = w.portD := (congrArg State.portD hframe :)
      have hdesk : v.desk = w.desk := (congrArg State.desk hframe :)
      have hw := congrArg (fun x : State => { x with csu := v.csu, portU := v.portU, tables := v.tables }) hfr
      rw [hmdc, hyard, hlvu, hportD, hdesk]
      exact hframe.trans hw
    · rw [hframe]; exact hgates i
    · rw [hframe]; exact hchannels c
    · rw [hframe]; exact hD
    · have hswapped : v.tables.station = u.tables.station := by rw [htables]; rfl
      exact hswapped.trans (hstation0)
  exact hv.with_mdc_desk ..

/-! ## The desk and the registers after the start decided -/

/-- A raise with room in the notice queue leaves every other record (R139, R142). -/
theorem Desk.raise_record_of_room {d : Desk} (hroom : d.notices.length < 16) (e : RaiseEnv) {c c' : Cond} (hc : c' ≠ c) :
    (d.raise e c).record c' = d.record c' := by
  have hset := d.record_setRecord_ne ((d.record c).raised e.now) hc
  have hsetRoom : (d.setRecord c ((d.record c).raised e.now)).notices.length < 16 := hroom
  unfold Desk.raise
  dsimp only
  split
  · exact hset
  · unfold Desk.offer
    dsimp only
    split
    · exact hset
    · split
      · rw [Desk.placeNotice_of_room _ hsetRoom]
        exact hset
      · exact hset

theorem restartDue_of_reply (hp : s.mdc.restartPending = true)
    (hsending : s.desk.portL.sending = some (.own (makeBusFrame 0 254 kindReply [19, 0]))) : s.restartDue = true := by
  rw [State.restartDue, hsending]
  simp only [hp, Bool.true_and]
  decide

theorem State.tablesThroughRestart_eq : s.tablesThroughRestart = (match s.load with
    | some c => if c.table.structural then s.tables.setInvalid c.table else s.tables.dropShadow c.table
    | none => s.tables) := by
  unfold State.tablesThroughRestart
  cases s.load <;> rfl

theorem execRestart_of_routed (h : s.Routed) : execRestart s = .next (
    if s.mdc.restartPending then s.reply 19 .refusedBusy []
    else State.reply { s with mdc := { s.mdc with restartPending := true } } 19 .done []) :=
  congrArg _ (h.request_eq 19 _)

/-! ## The start decided (R124, R125) -/

/-- The mode registers after a RESTART. -/
def State.mdcRestarted (s : State) : Mdc :=
  if s.mdc.source ≠ .flashAuto then { mode := .config, source := s.mdc.source }
  else
    match s.tablesThroughRestart.entryCheck with
    | some r => { mode := .config, source := s.mdc.source, startReason := some r }
    | none =>
      if s.tablesThroughRestart.stationOr.seenTimeout = 0 then { mode := .config, source := s.mdc.source }
      else {
        source := s.mdc.source, phase := some .startWait
        startWait := some (s.now + s.tablesThroughRestart.stationOr.seenTimeout) }

/-- Whether the start wait of a RESTART fails at once. -/
def State.levelFails (s : State) : Prop :=
  s.mdc.source = .flashAuto ∧ s.tablesThroughRestart.entryCheck = none ∧ s.tablesThroughRestart.stationOr.seenTimeout = 0

/-- What the start leaves of a restarted state. -/
structure State.RestartDecided (s t : State) : Prop where
  restarted : s.Restarted t
  mdc : t.mdc = s.mdcRestarted
  quiet : ¬s.levelFails → t.desk = {}
  raised : s.levelFails → t.Raised .levelLost ∧ ∀ c, c ≠ .levelLost → t.desk.record c = {}
  tables : t.mdc.mode = .config ∧ t.tables = s.tablesThroughRestart.swapped ∨
    t.mdc.mode ≠ .config ∧ t.tables = s.tablesThroughRestart

theorem State.Restarted.config (h : s.Restarted u) (ht : u.tables = s.tablesThroughRestart) (hm : u.enteringConfig.mdc = s.mdcRestarted)
    (hq : ¬s.levelFails → u.desk = {}) (hr : s.levelFails → u.Raised .levelLost ∧ ∀ c, c ≠ .levelLost → u.desk.record c = {}) :
    s.RestartDecided u.enterConfig := by
  obtain ⟨hrestarted, htables⟩ := h.enterConfig
  refine ⟨hrestarted, u.enterConfig_mdc.trans hm, fun hf => ?_, fun hf => ⟨?_, fun c hc => ?_⟩, .inl ⟨?_, ?_⟩⟩
  · rw [State.enterConfig_desk, hq hf, Desk.clearAll_fresh]
  · rw [State.Raised, State.active, State.latched, State.enterConfig_record levelLost_not_configCleared]
    exact (hr hf).1
  · rw [State.enterConfig_desk, (Desk.clearAll_spec ..).2.2, (hr hf).2 c hc, ite_self]
  · rw [State.enterConfig_mdc]
    rfl
  · rw [htables, ht]

theorem State.decideStart_held (h : s.mdc.source ≠ .flashAuto) : s.decideStart = s.enterConfig := by
  unfold State.decideStart
  cases hs : s.mdc.source with
  | flashAuto => exact absurd hs h
  | bus | flashHold => rfl

section
variable (hs : s.mdc.source = .flashAuto)
include hs

theorem State.decideStart_check {r : Reason} (hc : s.tables.entryCheck = some r) :
    s.decideStart = State.enterConfig { s with mdc := { s.mdc with startReason := some r } } := by
  unfold State.decideStart
  rw [hs, hc]

theorem State.decideStart_governs {h : Nat} (hc : s.tables.entryCheck = none) (hw : s.lvu.headwater = some h) :
    s.decideStart = s.enterGovern := by
  unfold State.decideStart
  rw [hs, hc, hw]

theorem State.decideStart_fails (hc : s.tables.entryCheck = none) (hw : s.lvu.headwater = none)
    (ht : s.tables.stationOr.seenTimeout = 0) : s.decideStart = s.failStartWait := by
  unfold State.decideStart
  rw [hs, hc, hw]
  exact if_pos ht

theorem State.decideStart_waits (hc : s.tables.entryCheck = none) (hw : s.lvu.headwater = none)
    (ht : s.tables.stationOr.seenTimeout ≠ 0) : s.decideStart = { s with
      mdc := { s.mdc with phase := some .startWait, startWait := some (s.now + s.tables.stationOr.seenTimeout) } } := by
  unfold State.decideStart
  rw [hs, hc, hw]
  exact if_neg ht

end

variable (h : s.Restarted u) (hm : u.mdc = { source := s.mdc.source }) (hd : u.desk = {}) (ht : u.tables = s.tablesThroughRestart)
include h hm hd ht

theorem State.Restarted.decide_held (hs : s.mdc.source ≠ .flashAuto) : s.RestartDecided u.decideStart := by
  have hmode : s.mdcRestarted = { mode := .config, source := s.mdc.source } := if_pos hs
  rw [State.decideStart_held (by rw [hm]; exact hs)]
  refine h.config ht ?_ (fun _ => hd) (fun hf => absurd hf.1 hs)
  rw [hmode, State.enteringConfig, hm]

variable (hs : s.mdc.source = .flashAuto)
include hs

theorem State.Restarted.decide_check {r : Reason} (hc : s.tablesThroughRestart.entryCheck = some r) :
    s.RestartDecided u.decideStart := by
  have hmode : s.mdcRestarted = { mode := .config, source := s.mdc.source, startReason := some r } := by
    rw [State.mdcRestarted, if_neg (not_not.2 hs), hc]
  have hu : u.mdc.source = .flashAuto := by rw [hm]; exact hs
  rw [State.decideStart_check hu (by rw [ht]; exact hc)]
  have hreason := h.with_mdc_desk { u.mdc with startReason := some r } u.desk
  refine hreason.config ht ?_ (fun _ => hd) (fun hf => ?_)
  · rw [hmode, State.enteringConfig, hm]
  · have hn := hf.2.1
    rw [hc] at hn
    cases hn

theorem State.Restarted.decide_fails (hc : s.tablesThroughRestart.entryCheck = none)
    (hw : s.tablesThroughRestart.stationOr.seenTimeout = 0) : s.RestartDecided u.decideStart := by
  have hmode : s.mdcRestarted = { mode := .config, source := s.mdc.source } := by
    rw [State.mdcRestarted, if_neg (not_not.2 hs), hc]
    exact if_pos hw
  have hu : u.mdc.source = .flashAuto := by rw [hm]; exact hs
  rw [State.decideStart_fails hu (by rw [ht]; exact hc) h.owns.headwater (by rw [ht]; exact hw)]
  let lost : State := State.raise { u with mdc := { u.mdc with phase := none, startWait := none } } .levelLost
  have hlost : s.Restarted lost := h.with_mdc_desk { u.mdc with phase := none, startWait := none } lost.desk
  refine hlost.config ht ?_ (fun hf => absurd ⟨hs, hc, hw⟩ hf) (fun _ => ⟨State.raised_raise .., fun c hne => ?_⟩)
  · rw [hmode]
    show { u.mdc with mode := .config, phase := none, orderTimer := none, startWait := none, controlPresent := false } = _
    rw [hm]
  · have hfresh : (({} : Desk).record c) = {} := Vector.getElem_replicate ..
    show (u.desk.raise _ .levelLost).record c = _
    rw [hd, Desk.raise_record_of_room (by decide) _ hne, hfresh]

theorem State.Restarted.decide_waits (hc : s.tablesThroughRestart.entryCheck = none)
    (hw : s.tablesThroughRestart.stationOr.seenTimeout ≠ 0) : s.RestartDecided u.decideStart := by
  have hmode : s.mdcRestarted = {
      source := s.mdc.source, phase := some .startWait
      startWait := some (s.now + s.tablesThroughRestart.stationOr.seenTimeout) } := by
    rw [State.mdcRestarted, if_neg (not_not.2 hs), hc]
    exact if_neg hw
  have hu : u.mdc.source = .flashAuto := by rw [hm]; exact hs
  have hnow : u.now = s.now := by rw [h.frame]
  rw [State.decideStart_waits hu (by rw [ht]; exact hc) h.owns.headwater (by rw [ht]; exact hw)]
  refine ⟨h.with_mdc_desk _ u.desk, ?_, fun _ => hd, fun hf => absurd hf.2.2 hw, .inr ⟨?_, ht⟩⟩
  · rw [hmode, hm, ht, hnow]
  · rw [hm]
    exact (nomatch ·)

end

theorem State.restartEffect_decided (s : State) : s.RestartDecided s.restartEffect := by
  have h := s.watchesRestarted_restarted
  have hframe := s.watchesRestarted.computeOwnAcceptance_frame
  rw [State.restartEffect_eq]
  have hm : s.watchesRestarted.computeOwnAcceptance.mdc = { source := s.mdc.source } := (congrArg State.mdc hframe :)
  have hd : s.watchesRestarted.computeOwnAcceptance.desk = {} := (congrArg State.desk hframe :)
  have ht : s.watchesRestarted.computeOwnAcceptance.tables = s.tablesThroughRestart := (congrArg State.tables hframe :)
  by_cases hs : s.mdc.source = .flashAuto
  · cases hc : s.tablesThroughRestart.entryCheck with
    | some r => exact h.decide_check hm hd ht hs hc
    | none =>
      by_cases hw : s.tablesThroughRestart.stationOr.seenTimeout = 0
      · exact h.decide_fails hm hd ht hs hc hw
      · exact h.decide_waits hm hd ht hs hc hw
  · exact h.decide_held hm hd ht hs

end Sys2Proof.Machine
end

section
/-! PROOFS. RESTART as a whole (O47). -/

namespace Sys2Proof.Machine

section
variable {s t : State}

theorem Tables.stationOr_of_station {u v : Tables} (h : u.station = v.station) : u.stationOr = v.stationOr := by
  rw [Tables.stationOr, h, Tables.stationOr]

theorem State.Restarted.neighbour (h : s.Restarted t) : t.neighbour .U = s.tablesThroughRestart.stationOr.upstream :=
  congrArg Station.upstream (Tables.stationOr_of_station h.station)

theorem State.Restarted.portPresent (h : s.Restarted t) :
    t.portPresent .U = true ↔
      1 ≤ s.tablesThroughRestart.stationOr.upstream ∧ s.tablesThroughRestart.stationOr.upstream ≤ 63 := by
  rw [State.portPresent, h.neighbour, decide_eq_true_eq]

/-- The state of a restarted part, read from the own acceptance. -/
theorem State.Restarted.state (h : s.Restarted t) : t = {
    now := s.now, mdc := t.mdc, yard := { gates := t.yard.gates }
    lvu := { channels := t.lvu.channels, tailwater := s.tablesThroughRestart.stationOr.tailwaterDefault }
    csu := { upstream := t.tables.initialUpstream, ownAcceptance := t.csu.ownAcceptance, lastSent := t.csu.lastSent }
    portU := t.portU, portD := t.portD, desk := t.desk, tables := t.tables
    stationValidSince := if s.tablesThroughRestart.station.isValid then some s.now else none
    flash := s.cutSave, draws := s.draws, pending := s.pending } := by
  rw [← h.owns.csu]
  exact h.frame

theorem State.Restarted.sentUpstream (h : s.Restarted t)
    (hp : 1 ≤ s.tablesThroughRestart.stationOr.upstream ∧ s.tablesThroughRestart.stationOr.upstream ≤ 63) :
    t.csu.lastSent = t.csu.ownAcceptance ∧ t.portU = {
      silence := some (s.now + s.tablesThroughRestart.stationOr.linkTimeout)
      period := some (s.now + s.tablesThroughRestart.stationOr.linkPeriod)
      sending := t.csu.ownAcceptance.map (fun a =>
        makeReachFrame (BitVec.ofNat 8 s.tablesThroughRestart.stationOr.stationNumber) 2 0 (beBytes 4 a)) } := by
  have hpresent := h.portPresent.2 hp
  have hsent := h.owns.sentOwn hpresent
  have hport := h.owns.present hpresent
  have hframe : t.acceptFrame = fun a =>
      makeReachFrame (BitVec.ofNat 8 s.tablesThroughRestart.stationOr.stationNumber) 2 0 (beBytes 4 a) := by
    funext a
    rw [State.acceptFrame, Tables.stationOr_of_station h.station]
    rfl
  rw [hsent, hframe] at hport
  exact ⟨hsent, hport⟩

theorem State.Restarted.unsent (h : s.Restarted t)
    (hp : ¬(1 ≤ s.tablesThroughRestart.stationOr.upstream ∧ s.tablesThroughRestart.stationOr.upstream ≤ 63)) :
    t.csu.lastSent = none ∧ t.portU = {} :=
  h.owns.absent (Bool.eq_false_iff.2 fun hpresent => hp (h.portPresent.1 hpresent))

theorem State.RestartDecided.structural (h : s.RestartDecided t) {id : TableId} (hid : id.structural = true) :
    t.tables.stateCode id = s.tablesThroughRestart.stateCode id ∧ t.tables.data? id = s.tablesThroughRestart.data? id := by
  obtain ⟨-, ht⟩ | ⟨-, ht⟩ := h.tables <;> rw [ht]
  · exact Tables.swapped_structural _ hid
  · exact ⟨rfl, rfl⟩

theorem State.RestartDecided.tables_kept (h : s.RestartDecided t)
    (hk : s.tablesThroughRestart.readyShadows = [] ∨ t.mdc.mode ≠ .config) : t.tables = s.tablesThroughRestart := by
  obtain ⟨hm, ht⟩ | ⟨-, ht⟩ := h.tables
  · obtain hnone | hm' := hk
    · rw [ht, Tables.swapped_of_none hnone]
    · exact absurd hm hm'
  · exact ht

theorem State.RestartDecided.tables_swapped (h : s.RestartDecided t) (hm : t.mdc.mode = .config) :
    t.tables = s.tablesThroughRestart.swapped := by
  obtain ⟨-, ht⟩ | ⟨hm', -⟩ := h.tables
  · exact ht
  · exact absurd hm hm'

theorem execTransmitCompletion_restart (hp : s.mdc.restartPending = true)
    (hsending : s.desk.portL.sending = some (.own (makeBusFrame 0 254 kindReply [19, 0]))) :
    exec (.transmitCompletion .L) s = .next s.restartEffect := by
  show execTransmitCompletion .L s = _
  have hbusy : ¬s.desk.portL.sending.isNone = true := by rw [hsending]; decide
  rw [execTransmitCompletion, if_neg hbusy, if_pos (restartDue_of_reply hp hsending)]

end

/-- Settles O47: the reply first; at its completion the owners start from the tables held, and the start is decided. -/
theorem restartsFollowTheirReply : Obligations.RestartsFollowTheirReply := by
  intro s
  refine ⟨fun h => ?_, fun hp hsending => ?_⟩
  · refine (execRestart_of_routed h).trans (congrArg _ ?_)
    rw [State.reply_eq, State.reply_eq]
    rfl
  · have hexec := execTransmitCompletion_restart hp hsending
    have hdecided := s.restartEffect_decided
    generalize s.restartEffect = t at hexec hdecided
    have hrestarted := hdecided.restarted
    intro kept st present levelFails timers
    have hkept : kept = s.tablesThroughRestart := State.tablesThroughRestart_eq.symm
    clear_value kept
    subst hkept
    refine ⟨t, hexec, hrestarted.state, hrestarted.gates, fun c => ?_, hrestarted.owns.own, hrestarted.sentUpstream,
      hrestarted.unsent, fun hD => hrestarted.portD.trans (if_pos hD), fun hD => hrestarted.portD.trans (if_neg hD),
      hdecided.quiet, hdecided.raised, fun id hid => hdecided.structural hid, hdecided.tables_kept, fun hm => ?_, hdecided.mdc⟩
    · exact hrestarted.channels c
    · rw [hdecided.tables_swapped hm]
      exact ⟨Tables.swapped_readyShadows _, fun p hready => Tables.mem_readyShadows _ hready⟩

end Sys2Proof.Machine
end

section
/-! PROOFS. LOAD_BEGIN: its judging, and what the owner of a structural table gives up (O35, O36). -/

namespace Sys2Proof.Machine

/-! ## What the owners give up (R160) -/

section
variable (s : State)

/-- A gate whose seen watch stops while it is UNSEEN. -/
def Gate.unwatched (g : Gate) : Gate := if g.state = .unseen then { g with stateTimer := none } else g

/-- The seen watches stop. -/
def State.stopSeenWatches : State := s.eachGate fun _ => Gate.unwatched

theorem State.stopSeenWatches_eq : s.stopSeenWatches = allGates.foldl
    (fun s i => if (s.gate i).state = .unseen then s.setGate i { s.gate i with stateTimer := none } else s) s := by
  have hstep (t : State) (i : Fin 16) : t.setGate i (t.gate i).unwatched =
      if (t.gate i).state = .unseen then t.setGate i { t.gate i with stateTimer := none } else t := by
    unfold Gate.unwatched
    split
    · rfl
    · exact State.setGate_gate_self ..
  unfold State.stopSeenWatches State.eachGate
  exact foldl_congr_of (P := fun _ => True) (fun t i _ => ⟨hstep t i, trivial⟩) allGates trivial

theorem State.stopSeenWatches_gate (i : Fin 16) : s.stopSeenWatches.gate i = (s.gate i).unwatched := State.eachGate_gate ..

theorem State.stopSeenWatches_frame : s.stopSeenWatches = { s with yard := { s.yard with gates := s.stopSeenWatches.yard.gates } } :=
  State.eachGate_frame ..

/-- The Cascade Unit and its ports without the STATION table (R120). -/
def State.stationLost : State :=
  { s with portU := s.portU.cleared, portD := s.portD.cleared, csu := s.csu.stationLoading, stationValidSince := none }

theorem State.ownerLoses_station : s.ownerLoses .station =
    (s.stationLost.stopSeenWatches.clearAll [.linkLost .U, .linkLost .D, .headLow]).tailwaterDefaultChanged := by
  rw [State.stopSeenWatches_eq]
  rfl

theorem State.ownerLoses_station_frame : s.ownerLoses .station = { s.stationLost with
    yard := { s.yard with gates := s.stationLost.stopSeenWatches.yard.gates }
    desk := s.desk.clearAll [.linkLost .U, .linkLost .D, .headLow], lvu := (s.ownerLoses .station).lvu } := by
  have hframe := s.stationLost.stopSeenWatches_frame
  rw [State.ownerLoses_station]
  generalize s.stationLost.stopSeenWatches = u at hframe ⊢
  have hdefault := State.tailwaterDefaultChanged_frame (u.clearAll [.linkLost .U, .linkLost .D, .headLow])
  generalize State.tailwaterDefaultChanged (u.clearAll [.linkLost .U, .linkLost .D, .headLow]) = v at hdefault ⊢
  rw [hdefault, hframe]
  rfl

/-- The conditions whose active states the loss of the GATES table clears. -/
def State.gatesCleared : List Cond :=
  (allGates.filter (fun i => (s.gate i).state == .locked)).map .gateRunaway ++ allGates.map .gateFault ++
    allGates.map .gateUnseen ++ allGates.map .bypassBlocked

theorem State.ownerLoses_gates : s.ownerLoses .gates = { s with
    yard := { s.yard with
      gates := Vector.replicate 16 {}
      groups := ((s.yard.groups.set 0 (s.group 0).emptied).set 1 (s.group 1).emptied |>.set 2 (s.group 2).emptied).set 3
        (s.group 3).emptied
      inFlight := [] }
    desk := s.desk.clearAll s.gatesCleared } := rfl

/-- What follows the loss of the CHANNELS table, before the own acceptance is computed. -/
def State.channelsLost : State := State.computeHead (State.fallbackTailwater { s with
  lvu := { s.lvu with
    channels := Vector.replicate 8 {}, headwater := none, lastHeadwater := none, lastTailwater := none, lastHead := none } })

theorem State.ownerLoses_channels :
    s.ownerLoses .channels = s.channelsLost.computeOwnAcceptance.clearAll (allChannels.map .channelStale) := rfl

theorem State.channelsLost_eq : s.channelsLost = { s with
    lvu := { tailwater := s.tables.stationOr.tailwaterDefault, regime := s.lvu.regime } } := rfl

/-- An owner that loses its table clears active states at most, and leaves tables and load. -/
theorem State.ownerLoses_spec (t : TableId) :
    (∃ l, (s.ownerLoses t).desk = s.desk.clearAll l) ∧ (s.ownerLoses t).tables = s.tables ∧ (s.ownerLoses t).load = s.load := by
  cases t with
  | station =>
    have h := s.ownerLoses_station_frame
    generalize s.ownerLoses .station = t at h ⊢
    rw [h]
    exact ⟨⟨[.linkLost .U, .linkLost .D, .headLow], rfl⟩, rfl, rfl⟩
  | gates =>
    rw [State.ownerLoses_gates]
    exact ⟨⟨s.gatesCleared, rfl⟩, rfl, rfl⟩
  | channels =>
    rw [State.ownerLoses_channels, State.channelsLost_eq, State.computeOwnAcceptance_frame]
    exact ⟨⟨allChannels.map .channelStale, rfl⟩, rfl, rfl⟩
  | groups | conditions | curve | ramp | flood | accept | reach | fill => exact ⟨⟨[], rfl⟩, rfl, rfl⟩

end

/-! ## The judging of LOAD_BEGIN (R160) -/

section
variable {s : State} {n : Byte} {len : BitVec 16}

theorem execLoadBegin_ok (h : s.Routed) {t : TableId} (hj : s.judgeLoadBegin n len = .ok t) :
    execLoadBegin n len s = .next ((s.openLoad t len.toNat).reply 8 .done []) := by
  simp only [execLoadBegin, h.request_eq, hj]

theorem execLoadBegin_error (h : s.Routed) {r : Result} (hj : s.judgeLoadBegin n len = .error r) :
    execLoadBegin n len s = .next (s.reply 8 r []) := by
  simp only [execLoadBegin, h.request_eq, hj]

theorem State.judgeLoadBegin_busy (h : s.saving.isSome = true ∨ s.load.isSome = true) :
    s.judgeLoadBegin n len = .error .refusedBusy := by
  unfold State.judgeLoadBegin
  by_cases hs : s.saving.isSome = true
  · exact if_pos hs
  · rw [if_neg hs, if_pos (h.resolve_left hs)]

theorem State.judgeLoadBegin_unknown (h : ¬(s.saving.isSome = true ∨ s.load.isSome = true)) (hn : TableId.ofCode n.toNat = none) :
    s.judgeLoadBegin n len = .error .badTable := by
  simp only [State.judgeLoadBegin, if_neg (h ∘ .inl), if_neg (h ∘ .inr), hn]

theorem State.judgeLoadBegin_known (h : ¬(s.saving.isSome = true ∨ s.load.isSome = true)) {t : TableId} (hn : n.toNat = t.code) :
    s.judgeLoadBegin n len = (if t.structural = true ∧ s.mdc.mode ≠ .config then .error .refusedMode
      else if !allowedLength t len.toNat then .error .badTable else .ok t) := by
  simp only [State.judgeLoadBegin, if_neg (h ∘ .inl), if_neg (h ∘ .inr), hn, TableId.ofCode_code]

variable (s)

theorem State.openLoad_structural {t : TableId} (ht : t.structural = true) (length : Nat) : s.openLoad t length = State.ownerLoses { s with
    load := some { table := t, length := length, bytes := [], idle := s.now + 300 }, tables := s.tables.setLoading t } t := if_pos ht

theorem State.openLoad_operating {t : TableId} (ht : t.structural = false) (length : Nat) : s.openLoad t length = { s with
    load := some { table := t, length := length, bytes := [], idle := s.now + 300 }, tables := s.tables.shadowLoading t } :=
  if_neg fun hs => Bool.false_ne_true (ht.symm.trans hs)

/-- A context opened, with the active states cleared that its owner clears. -/
theorem State.openLoad_spec (t : TableId) (length : Nat) :
    (∃ l, (s.openLoad t length).desk = s.desk.clearAll l) ∧
    (s.openLoad t length).load = some { table := t, length := length, bytes := [], idle := s.now + 300 } ∧
    (t.structural = true → (s.openLoad t length).tables = s.tables.setLoading t) := by
  cases ht : t.structural with
  | true =>
    rw [State.openLoad_structural _ ht]
    obtain ⟨hdesk, htables, hload⟩ := State.ownerLoses_spec { s with
      load := some { table := t, length := length, bytes := [], idle := s.now + 300 }, tables := s.tables.setLoading t } t
    exact ⟨hdesk, hload, fun _ => htables⟩
  | false =>
    rw [State.openLoad_operating _ ht]
    exact ⟨⟨[], rfl⟩, rfl, fun h => nomatch h⟩

end

/-- Settles O35. -/
theorem loadsOpenByTheFirstCase : Obligations.LoadsOpenByTheFirstCase := by
  intro s n len h refused
  have refuses {r : Result} {code : Byte} (hj : s.judgeLoadBegin n len = .error r) (hcode : BitVec.ofNat 8 r.code = code) :
      refused code := by
    subst hcode
    exact (execLoadBegin_error h hj).trans (congrArg _ (State.reply_eq ..))
  split
  next hbusy => exact refuses (State.judgeLoadBegin_busy hbusy) rfl
  next hfree =>
    refine ⟨fun hid => refuses (State.judgeLoadBegin_unknown hfree ?_) rfl, fun id hn => ?_⟩
    · cases hcode : TableId.ofCode n.toNat with
      | none => rfl
      | some t => exact absurd (TableId.code_of_ofCode hcode) (hid t)
    have hj := State.judgeLoadBegin_known (len := len) hfree hn
    split
    next hmode => exact refuses (hj.trans (if_pos hmode)) rfl
    next hmode =>
      rw [if_neg hmode] at hj
      split
      next hlen => exact refuses (hj.trans (if_pos (by rw [hlen]; rfl))) rfl
      next hlen =>
        rw [if_neg (by simpa using hlen)] at hj
        obtain ⟨⟨l, hdesk⟩, hload, htables⟩ := s.openLoad_spec id len.toNat
        have hexec := execLoadBegin_ok h hj
        have hreply := (s.openLoad id len.toNat).reply_desk 8 .done []
        have hlatched (c : Cond) : ((s.openLoad id len.toNat).reply 8 .done []).latched c = s.latched c := by
          rw [State.reply_latched, State.latched, hdesk]
          exact Desk.clearAll_latched ..
        refine ⟨_, hexec, ?_, ?_, hlatched, fun hs => ?_, fun ho => ?_⟩
        · rw [State.reply_eq]
          exact hload
        · rw [State.reply_records, hreply, hdesk, ← Desk.clearAll_frame]
          rfl
        · rw [State.reply_eq]
          exact htables hs
        · rw [State.reply_eq, State.openLoad_operating _ ho]
          rfl

end Sys2Proof.Machine
end

section
/-! PROOFS. What an accepted LOAD_BEGIN of a structural table does to its owner (O36). -/

namespace Sys2Proof.Machine

section
variable (s : State)

/-- A structural table set LOADING under an open context, before its owner takes the effects. -/
def State.opened (id : TableId) (length : Nat) : State := { s with
  load := some { table := id, length := length, bytes := [], idle := s.now + 300 }, tables := s.tables.setLoading id }

variable {s}

theorem execLoadBegin_structural (h : s.Routed) (hs : s.saving = none) (hl : s.load = none) (hm : s.mdc.mode = .config) {n : Byte}
    {len : BitVec 16} {id : TableId} (hid : id.structural = true) (hn : n.toNat = id.code) (hlen : allowedLength id len.toNat = true) :
    exec (.loadBegin n len) s = .next (((s.opened id len.toNat).ownerLoses id).reply 8 .done []) := by
  have hfree : ¬(s.saving.isSome = true ∨ s.load.isSome = true) := by rw [hs, hl]; exact (Or.elim · (nomatch ·) (nomatch ·))
  have hj := State.judgeLoadBegin_known (len := len) hfree hn
  rw [if_neg fun hx => hx.2 hm, hlen] at hj
  exact (execLoadBegin_ok h hj).trans (congrArg (fun t : State => Host.Outcome.next (t.reply 8 .done [])) (s.openLoad_structural hid _))

/-! ## GATES (R2, R31) -/

variable (s)

theorem State.gatesLost_gate (i : Fin 16) : (s.ownerLoses .gates).gate i = {} := by
  rw [State.ownerLoses_gates]
  exact Vector.getElem_replicate ..

theorem getElem_emptied (v : Vector Group 4) (k : Fin 4) :
    ((((v.set 0 v[0].emptied).set 1 v[1].emptied).set 2 v[2].emptied).set 3 v[3].emptied)[k] = v[k].emptied := by
  fin_cases k <;> simp

theorem State.gatesLost_group (k : Fin 4) : (s.ownerLoses .gates).group k = { s.group k with slots := 0, queue := [] } := by
  rw [State.ownerLoses_gates]
  exact getElem_emptied s.yard.groups k

theorem State.gatesLost_active (i : Fin 16) :
    (s.ownerLoses .gates).active (.gateFault i) = false ∧ (s.ownerLoses .gates).active (.gateUnseen i) = false ∧
    (s.ownerLoses .gates).active (.bypassBlocked i) = false ∧
    ((s.gate i).state = .locked → (s.ownerLoses .gates).active (.gateRunaway i) = false) := by
  have hcleared {c : Cond} (hc : c ∈ s.gatesCleared) : (s.ownerLoses .gates).active c = false := by
    rw [State.ownerLoses_gates]
    exact Desk.clearAll_active hc
  have hmem := mem_allGates i
  refine ⟨hcleared ?_, hcleared ?_, hcleared ?_, fun hlocked => hcleared ?_⟩ <;>
    simp only [State.gatesCleared, List.mem_append, List.mem_map, List.mem_filter, or_assoc]
  · exact .inr (.inl ⟨i, hmem, rfl⟩)
  · exact .inr (.inr (.inl ⟨i, hmem, rfl⟩))
  · exact .inr (.inr (.inr ⟨i, hmem, rfl⟩))
  · exact .inl ⟨i, ⟨hmem, by rw [hlocked]; rfl⟩, rfl⟩

theorem State.ownerLoses_latched (id : TableId) (c : Cond) : (s.ownerLoses id).latched c = s.latched c := by
  obtain ⟨⟨l, hdesk⟩, -⟩ := s.ownerLoses_spec id
  rw [State.latched, hdesk]
  exact Desk.clearAll_latched ..

/-! ## STATION (R49, R103, R120) -/

theorem State.stationLost_gate (i : Fin 16) : (s.ownerLoses .station).gate i = (s.gate i).unwatched := by
  have h := s.ownerLoses_station_frame
  have hgates : (s.ownerLoses .station).gate i = s.stationLost.stopSeenWatches.gate i := by
    generalize s.stationLost.stopSeenWatches = u at h ⊢
    generalize s.ownerLoses .station = t at h ⊢
    rw [h]
    rfl
  rw [hgates, State.stopSeenWatches_gate]
  rfl

theorem State.stationLost_lvu : (s.ownerLoses .station).lvu =
    if s.lvu.tailSource = .default then Lvu.computeHead { s.lvu with tailwater := s.tables.stationOr.tailwaterDefault } else s.lvu := by
  have hframe := s.stationLost.stopSeenWatches_frame
  rw [State.ownerLoses_station]
  generalize s.stationLost.stopSeenWatches = u at hframe ⊢
  have hlvu : u.lvu = s.lvu := by rw [hframe]; rfl
  have htables : u.tables = s.tables := by rw [hframe]; rfl
  split
  next h =>
    rw [State.tailwaterDefaultChanged_of_default (by rw [State.clearAll_lvu, hlvu]; exact h)]
    show Lvu.computeHead { u.lvu with tailwater := u.tables.stationOr.tailwaterDefault } = _
    rw [hlvu, htables]
  next h =>
    rw [State.tailwaterDefaultChanged_of_ne (by rw [State.clearAll_lvu, hlvu]; exact h)]
    exact hlvu

theorem State.stationLost_active : (s.ownerLoses .station).active (.linkLost .U) = false ∧
    (s.ownerLoses .station).active (.linkLost .D) = false ∧ (s.ownerLoses .station).active .headLow = false := by
  have hdesk : (s.ownerLoses .station).desk = s.desk.clearAll [.linkLost .U, .linkLost .D, .headLow] := by
    have h := s.ownerLoses_station_frame
    generalize s.ownerLoses .station = t at h ⊢
    rw [h]
  simp only [State.active, hdesk]
  exact ⟨Desk.clearAll_active (by simp), Desk.clearAll_active (by simp), Desk.clearAll_active (by simp)⟩

/-! ## CHANNELS (R43, R53, R116, R117) -/

variable {s}

theorem State.computeOwnAcceptance_busy {a : Nat} (ha : s.ownAcceptanceNow = some a) (hl : s.csu.lastSent ≠ some a)
    (hp : s.portPresent .U = true) (hb : s.portU.sending.isSome = true) : s.computeOwnAcceptance = s.acceptPlaced a := by
  rw [State.computeOwnAcceptance_placed ha hl hp]
  exact State.startReach_busy hb

theorem State.computeOwnAcceptance_idle {a : Nat} (ha : s.ownAcceptanceNow = some a) (hl : s.csu.lastSent ≠ some a)
    (hp : s.portPresent .U = true) (hi : s.portU.sending = none) (hr : s.portU.pendingRelease = none) :
    s.computeOwnAcceptance = { s with
      csu := { s.csu with ownAcceptance := some a, lastSent := some a }
      portU := { s.portU with pendingAccept := none, sending := some (s.acceptFrame a) } } := by
  have hstart := ReachPort.start_accept (r := (s.acceptPlaced a).portU) hi hr rfl
    s.tables.stationOr.stationNumber (s.acceptPlaced a).csu.outSequence
  rw [State.computeOwnAcceptance_placed ha hl hp]
  show { s.acceptPlaced a with
    portU := ((s.acceptPlaced a).portU.start s.tables.stationOr.stationNumber (s.acceptPlaced a).csu.outSequence).1
    csu := { (s.acceptPlaced a).csu with
      outSequence := ((s.acceptPlaced a).portU.start s.tables.stationOr.stationNumber (s.acceptPlaced a).csu.outSequence).2 } } = _
  rw [hstart]
  simp only [State.acceptPlaced, ha]
  rfl

theorem State.ownAcceptanceNow_of_headwater_none (h : s.lvu.headwater = none) :
    s.ownAcceptanceNow = if s.tables.accept.active.isValid then some 0 else none := by
  unfold State.ownAcceptanceNow
  rw [h]
  cases s.tables.accept.active <;> cases s.lvu.regime <;> rfl

variable (s)

theorem State.channelsLost_own :
    s.channelsLost.ownAcceptanceNow = if s.tables.accept.active.isValid then some 0 else none :=
  State.ownAcceptanceNow_of_headwater_none rfl

/-- The own acceptance at the loss of the CHANNELS table. -/
theorem State.channelsLost_sent :
    let own : Option Nat := if s.tables.accept.active.isValid then some 0 else none
    let t := s.channelsLost.computeOwnAcceptance
    t.csu.ownAcceptance = own ∧
    (own = none ∨ s.csu.lastSent = some 0 ∨ s.portPresent .U = false →
      t.csu = { s.csu with ownAcceptance := own } ∧ t.portU = s.portU) ∧
    (own = some 0 → s.csu.lastSent ≠ some 0 → s.portPresent .U = true → t.csu.lastSent = some 0 ∧
      (s.portU.sending.isSome = true →
        t.csu = { s.csu with ownAcceptance := own, lastSent := some 0 } ∧ t.portU = { s.portU with pendingAccept := some 0 }) ∧
      (s.portU.sending = none → s.portU.pendingRelease = none →
        t.csu = { s.csu with ownAcceptance := own, lastSent := some 0 } ∧
        t.portU = { s.portU with
          pendingAccept := none
          sending := some (makeReachFrame (BitVec.ofNat 8 s.tables.stationOr.stationNumber) 2 0 (beBytes 4 0)) })) := by
  intro own t
  have hown : s.channelsLost.ownAcceptanceNow = own := s.channelsLost_own
  have hvalid : own = none ∨ own = some 0 := by
    unfold own
    split
    · exact .inr rfl
    · exact .inl rfl
  refine ⟨(State.computeOwnAcceptance_own _).trans hown, fun hkept => ?_, fun ho hl hp => ⟨?_, fun hb => ?_, fun hi hr => ?_⟩⟩
  · have hquiet : s.channelsLost.ownAcceptanceNow = none ∨ s.csu.lastSent = s.channelsLost.ownAcceptanceNow ∨
        s.portPresent .U = false := by
      rw [hown]
      obtain h | h | h := hkept
      · exact .inl h
      · exact hvalid.imp_right fun hz => .inl (h.trans hz.symm)
      · exact .inr (.inr h)
    have ht : t = s.channelsLost.ownAcceptanceKept := State.computeOwnAcceptance_kept hquiet
    rw [ht, State.ownAcceptanceKept, hown]
    exact ⟨rfl, rfl⟩
  · rw [ho] at hown
    have ht : t.csu.lastSent = _ := State.computeOwnAcceptance_lastSent (s := s.channelsLost) hp
    rw [ht, hown]
    rfl
  · rw [ho] at hown ⊢
    have ht : t = s.channelsLost.acceptPlaced 0 := State.computeOwnAcceptance_busy hown hl hp hb
    rw [ht, State.acceptPlaced, hown]
    exact ⟨rfl, rfl⟩
  · rw [ho] at hown ⊢
    have ht := State.computeOwnAcceptance_idle (s := s.channelsLost) hown hl hp hi hr
    have hcsu := (congrArg State.csu ht :)
    have hportU := (congrArg State.portU ht :)
    exact ⟨hcsu, hportU⟩

end

section
variable {s : State} (h : s.Routed) (hs : s.saving = none) (hl : s.load = none) (hm : s.mdc.mode = .config)
include h hs hl hm

theorem gatesLoad_resets : ∃ t, exec (.loadBegin 2 576) s = .next t ∧
    t = { s with load := t.load, tables := { s.tables with gates := .loading }, yard := t.yard, desk := t.desk } ∧
    (∀ i, t.gate i = {}) ∧ (∀ k, t.group k = { s.group k with slots := 0, queue := [] }) ∧ t.yard.portF = s.yard.portF ∧
    t.yard.inFlight = [] ∧
    (∀ i, t.active (.gateFault i) = false ∧ t.active (.gateUnseen i) = false ∧ t.active (.bypassBlocked i) = false) ∧
    (∀ i, (s.gate i).state = .locked → t.active (.gateRunaway i) = false) ∧ ∀ c, t.latched c = s.latched c := by
  have hexec := execLoadBegin_structural (n := 2) (len := 576) (id := .gates) h hs hl hm rfl rfl (by decide)
  have hlen : BitVec.toNat (576 : BitVec 16) = 576 := rfl
  rw [hlen] at hexec
  have hgates := (s.opened .gates 576).ownerLoses_gates
  have hgate := (s.opened .gates 576).gatesLost_gate
  have hgroup := (s.opened .gates 576).gatesLost_group
  have hactive := (s.opened .gates 576).gatesLost_active
  have hlatched := (s.opened .gates 576).ownerLoses_latched .gates
  refine ⟨_, hexec, ?_, fun i => ?_, fun k => ?_, ?_, ?_, fun i => ?_, fun i hi => ?_, fun c => ?_⟩
  · rw [State.reply_eq, hgates]
    rfl
  · rw [State.reply_eq]
    exact hgate i
  · rw [State.reply_eq]
    exact hgroup k
  · rw [State.reply_eq, hgates]
    rfl
  · rw [State.reply_eq, hgates]
  · simp only [State.reply_active]
    obtain ⟨hfault, hunseen, hblocked, -⟩ := hactive i
    exact ⟨hfault, hunseen, hblocked⟩
  · rw [State.reply_active]
    exact (hactive i).2.2.2 hi
  · rw [State.reply_latched]
    exact hlatched c

theorem stationLoad_resets : ∃ t, exec (.loadBegin 1 44) s = .next t ∧
    t = { s with
      load := t.load, tables := { s.tables with station := .loading }, yard := t.yard, lvu := t.lvu, desk := t.desk
      portU := { errors := s.portU.errors }, portD := { errors := s.portD.errors }, stationValidSince := none
      csu := { s.csu with
        lastSequence := none, received := none, lastSent := none, outSequence := 0, lastNotified := none, lastRelease := none } } ∧
    (∀ i, t.gate i = if (s.gate i).state = .unseen then { s.gate i with stateTimer := none } else s.gate i) ∧
    t.yard = { s.yard with gates := t.yard.gates } ∧
    (s.lvu.tailSource ≠ .default → t.lvu = s.lvu) ∧
    (s.lvu.tailSource = .default → t.lvu.tailwater = 0 ∧ t.lvu.headwater = s.lvu.headwater ∧
      t.lvu.head = (match s.lvu.headwater with | some h => min h 200000 | none => s.lvu.lastHead.getD 0)) ∧
    t.active (.linkLost .U) = false ∧ t.active (.linkLost .D) = false ∧ t.active .headLow = false ∧
    ∀ c, t.latched c = s.latched c := by
  have hexec := execLoadBegin_structural (n := 1) (len := 44) (id := .station) h hs hl hm rfl rfl (by decide)
  have hframe := (s.opened .station 44).ownerLoses_station_frame
  have hgate := (s.opened .station 44).stationLost_gate
  have hlvu := (s.opened .station 44).stationLost_lvu
  obtain ⟨hlinkU, hlinkD, hlow⟩ := (s.opened .station 44).stationLost_active
  have hlatched := (s.opened .station 44).ownerLoses_latched .station
  have hlen : BitVec.toNat (44 : BitVec 16) = 44 := rfl
  rw [hlen] at hexec
  generalize (s.opened .station 44).ownerLoses .station = v at hexec hframe hgate hlvu hlinkU hlinkD hlow hlatched
  have hlvuReply : (v.reply 8 .done []).lvu = v.lvu := by rw [State.reply_eq]
  refine ⟨_, hexec, ?_, fun i => ?_, ?_, fun hd => ?_, fun hd => ?_, ?_, ?_, ?_, fun c => ?_⟩
  · rw [State.reply_eq, hframe]
    rfl
  · rw [State.reply_eq]
    exact hgate i
  · rw [State.reply_eq, hframe]
    rfl
  · rw [hlvuReply, hlvu]
    exact if_neg hd
  · rw [hlvuReply, hlvu]
    have hpos : (s.opened .station 44).lvu.tailSource = .default := hd
    rw [if_pos hpos, Lvu.computeHead_head, Lvu.computeHead_frame]
    exact ⟨rfl, rfl, rfl⟩
  · rw [State.reply_active]
    exact hlinkU
  · rw [State.reply_active]
    exact hlinkD
  · rw [State.reply_active]
    exact hlow
  · rw [State.reply_latched]
    exact hlatched c

theorem groupsLoad_resets : ∃ t, exec (.loadBegin 3 16) s = .next t ∧
    t = { s with
      load := t.load, tables := { s.tables with groups := .loading }, desk := t.desk
      yard := { s.yard with groups := Vector.replicate 4 {}, inFlight := [] } } ∧
    t.desk.records = s.desk.records := by
  have hexec := execLoadBegin_structural (n := 3) (len := 16) (id := .groups) h hs hl hm rfl rfl (by decide)
  refine ⟨_, hexec, ?_, ?_⟩
  · rw [State.reply_eq]
    rfl
  · rw [State.reply_records]
    rfl

theorem channelsLoad_resets : ∃ t, exec (.loadBegin 4 104) s = .next t ∧
    t = { s with
      load := t.load, tables := { s.tables with channels := .loading }, desk := t.desk, portU := t.portU, csu := t.csu
      lvu := { tailwater := s.tables.stationOr.tailwaterDefault, regime := s.lvu.regime } } ∧
    (let own : Option Nat := if s.tables.accept.active.isValid then some 0 else none
     t.csu.ownAcceptance = own ∧
     (own = none ∨ s.csu.lastSent = some 0 ∨ s.portPresent .U = false →
       t.csu = { s.csu with ownAcceptance := own } ∧ t.portU = s.portU) ∧
     (own = some 0 → s.csu.lastSent ≠ some 0 → s.portPresent .U = true → t.csu.lastSent = some 0 ∧
       (s.portU.sending.isSome = true →
         t.csu = { s.csu with ownAcceptance := own, lastSent := some 0 } ∧ t.portU = { s.portU with pendingAccept := some 0 }) ∧
       (s.portU.sending = none → s.portU.pendingRelease = none →
         t.csu = { s.csu with ownAcceptance := own, lastSent := some 0 } ∧
         t.portU = { s.portU with
           pendingAccept := none
           sending := some (makeReachFrame (BitVec.ofNat 8 s.tables.stationOr.stationNumber) 2 0 (beBytes 4 0)) }))) ∧
    (∀ c, t.active (.channelStale c) = false) ∧ ∀ c, t.latched c = s.latched c := by
  have hexec := execLoadBegin_structural (n := 4) (len := 104) (id := .channels) h hs hl hm rfl rfl (by decide)
  have hlen : BitVec.toNat (104 : BitVec 16) = 104 := rfl
  rw [hlen] at hexec
  have hloses := (s.opened .channels 104).ownerLoses_channels
  have hframe := (s.opened .channels 104).channelsLost.computeOwnAcceptance_frame
  have hsent := (s.opened .channels 104).channelsLost_sent
  have hlatched := (s.opened .channels 104).ownerLoses_latched .channels
  rw [hloses] at hexec hlatched
  generalize (s.opened .channels 104).channelsLost.computeOwnAcceptance = v at hexec hframe hsent hlatched
  refine ⟨_, hexec, ?_, ?_, fun c => ?_, fun c => ?_⟩
  · rw [State.reply_eq, hframe]
    rfl
  · rw [State.reply_eq]
    exact hsent
  · rw [State.reply_active]
    exact Desk.clearAll_active (List.mem_map.2 ⟨c, mem_allChannels c, rfl⟩)
  · rw [State.reply_latched]
    exact hlatched c

end

/-- Settles O36: each owner's account, under the open context and its reply. -/
theorem gatesLoadsResetTheGates : Obligations.GatesLoadsResetTheGates := fun _ h hs hl hm =>
  ⟨gatesLoad_resets h hs hl hm, stationLoad_resets h hs hl hm, groupsLoad_resets h hs hl hm, channelsLoad_resets h hs hl hm⟩

end Sys2Proof.Machine
end

section
/-! PROOFS. LOAD_END: its checks, and what the owner takes (O38). -/

namespace Sys2Proof.Machine

/-! ## The table that contents belong to -/

/-- The table that contents belong to. -/
def TableData.table : TableData → TableId
  | .station _ => .station
  | .gates _ => .gates
  | .groups _ => .groups
  | .channels _ => .channels
  | .conditions _ => .conditions
  | .curve k _ => .curve k
  | .ramp _ => .ramp
  | .flood _ => .flood
  | .accept _ => .accept
  | .reach _ => .reach
  | .fill _ => .fill

theorem Option.eq_of_ite_some {α : Type} {p : Prop} [Decidable p] {x y : α} (h : (if p then some x else none) = some y) :
    p ∧ x = y := by
  split at h
  next hp => exact ⟨hp, Option.some.inj h⟩
  next => cases h

/-- A content check gives contents of its own table. -/
theorem parseTable_table {t : TableId} {b : List Byte} {d : TableData} (h : parseTable t b = some d) : d.table = t := by
  unfold parseTable at h
  split at h
  next =>
    cases t
    case gates | groups | channels | fill =>
      dsimp only at h
      split at h
      · obtain ⟨-, rfl⟩ := Option.eq_of_ite_some h
        rfl
      · cases h
    all_goals
      obtain ⟨-, rfl⟩ := Option.eq_of_ite_some h
      rfl
  next => cases h

/-! ## The owners that take a table (R162) -/

section
variable (u : State)

theorem State.ownerTakes_station_eq (st : Station) : u.ownerTakes (.station st) = { u with
    stationValidSince := some u.now
    yard := { u.yard with gates := (State.startSeenWatches { u with stationValidSince := some u.now }).yard.gates }
    portU := u.timed .U, portD := u.timed .D
    csu := if u.portPresent .U = true then u.csu else { u.csu with
      queue := [], upstream := u.tables.initialUpstream, upstreamSource := .initial, forecast := .tracking }
    lvu := u.tailwaterDefaultChanged.lvu } := by
  have hseen := State.startSeenWatches_frame { u with stationValidSince := some u.now }
  rw [State.ownerTakes_station]
  generalize State.startSeenWatches { u with stationValidSince := some u.now } = v at hseen ⊢
  rw [State.startPortTimers_both, State.stationHeadOfCascade_eq]
  have htimed (p : ReachSide) : v.timed p = u.timed p := by
    rw [hseen]
    cases p <;> rfl
  have hpresent : v.portPresent .U = u.portPresent .U := by rw [hseen]; rfl
  have hlvu : v.lvu = u.lvu ∧ v.tables = u.tables ∧ v.csu = u.csu := by rw [hseen]; exact ⟨rfl, rfl, rfl⟩
  obtain ⟨hlvu, htables, hcsu⟩ := hlvu
  have hports (U D : ReachPort) : State.portPresent { v with portU := U, portD := D } .U = u.portPresent .U := hpresent
  rw [hports, htimed, htimed]
  by_cases hd : u.lvu.tailSource = .default
  · rw [State.tailwaterDefaultChanged_of_default hd, State.tailwaterDefaultChanged_of_default (by rw [← hlvu] at hd; exact hd)]
    rw [hseen]
  · rw [State.tailwaterDefaultChanged_of_ne hd, State.tailwaterDefaultChanged_of_ne (by rw [← hlvu] at hd; exact hd)]
    rw [hseen]

theorem State.ownerTakes_desk_load (d : TableData) : (u.ownerTakes d).desk = u.desk ∧ (u.ownerTakes d).load = u.load := by
  cases d with
  | station st =>
    rw [State.ownerTakes_station_eq]
    exact ⟨rfl, rfl⟩
  | gates l =>
    have h := u.startSeenWatches_frame
    exact ⟨(congrArg State.desk h :), (congrArg State.load h :)⟩
  | channels l =>
    have h := u.startStaleWatches_frame
    exact ⟨(congrArg State.desk h :), (congrArg State.load h :)⟩
  | accept l =>
    have h := u.computeOwnAcceptance_frame
    exact ⟨(congrArg State.desk h :), (congrArg State.load h :)⟩
  | reach r =>
    have h := u.followReach_frame
    exact ⟨(congrArg State.desk h :), (congrArg State.load h :)⟩
  | groups | conditions | curve | ramp | flood | fill => exact ⟨rfl, rfl⟩

end

/-! ## The judging of LOAD_END (R162) -/

section
variable {s : State} {crc : BitVec 16} {c : LoadContext}

theorem execLoadEnd_saving (h : s.Routed) (hs : s.saving.isSome = true) : execLoadEnd crc s = .next (s.reply 10 .refusedBusy []) := by
  simp [execLoadEnd, h.request_eq, hs]

theorem execLoadEnd_closed (h : s.Routed) (hs : s.saving = none) (hl : s.load = none) :
    execLoadEnd crc s = .next (s.reply 10 .refusedMode []) := by
  simp [execLoadEnd, h.request_eq, hs, hl]

variable (h : s.Routed) (hs : s.saving = none) (hl : s.load = some c)
include h hs hl

theorem execLoadEnd_short (hb : c.bytes.length < c.length) : execLoadEnd crc s = .next (s.reply 10 .badSegment []) := by
  simp [execLoadEnd, h.request_eq, hs, hl, hb]

theorem execLoadEnd_crc (hb : ¬c.bytes.length < c.length) (hc : crc16 c.bytes ≠ crc) :
    execLoadEnd crc s = .next ((s.failLoad c.table).reply 10 .checkFailed []) := by
  simp [execLoadEnd, h.request_eq, hs, hl, hb, hc]

theorem execLoadEnd_content (hb : ¬c.bytes.length < c.length) (hc : ¬crc16 c.bytes ≠ crc) (hp : parseTable c.table c.bytes = none) :
    execLoadEnd crc s = .next ((s.failLoad c.table).reply 10 .invalidContent []) := by
  simp [execLoadEnd, h.request_eq, hs, hl, hb, not_not.1 hc, hp]

theorem execLoadEnd_done (hb : ¬c.bytes.length < c.length) (hc : ¬crc16 c.bytes ≠ crc) {d : TableData}
    (hp : parseTable c.table c.bytes = some d) :
    execLoadEnd crc s = .next ((s.passLoad c.table d).reply 10 .done []) := by
  simp [execLoadEnd, h.request_eq, hs, hl, hb, not_not.1 hc, hp]

end

/-! ## A load that passed its checks (R162) -/

section
variable (s : State)

/-- The state of a load that passed its checks, before its contents are taken. -/
def State.passed (id : TableId) : State := { s with load := none, desk := s.desk.clear (.loadFailed id) }

theorem State.passLoad_structural {id : TableId} (hid : id.structural = true) (d : TableData) :
    s.passLoad id d = (s.passed id).takeContents d := if_pos hid

theorem State.passLoad_config {id : TableId} (hid : id.structural = false) (hm : s.mdc.mode = .config) (d : TableData) :
    s.passLoad id d = State.takeContents { s.passed id with tables := s.tables.dropShadow id } d := by
  refine (if_neg (by rw [hid]; exact Bool.false_ne_true)).trans (if_pos hm)

theorem State.passLoad_shadow {id : TableId} (hid : id.structural = false) (hm : s.mdc.mode ≠ .config) (d : TableData) :
    s.passLoad id d = { s.passed id with tables := s.tables.shadowReady d } := by
  refine (if_neg (by rw [hid]; exact Bool.false_ne_true)).trans (if_neg hm)

theorem State.passLoad_desk_load (id : TableId) (d : TableData) :
    (s.passLoad id d).desk = s.desk.clear (.loadFailed id) ∧ (s.passLoad id d).load = none := by
  cases hid : id.structural with
  | true =>
    rw [State.passLoad_structural _ hid]
    exact State.ownerTakes_desk_load ..
  | false =>
    by_cases hm : s.mdc.mode = .config
    · rw [State.passLoad_config _ hid hm]
      exact State.ownerTakes_desk_load ..
    · rw [State.passLoad_shadow _ hid hm]
      exact ⟨rfl, rfl⟩

/-- A gate as the seen watches leave it under tables. -/
theorem State.startSeenWatches_seen {u : State} (i : Fin 16) : u.startSeenWatches.gate i =
    if (u.cfg i).inService = true ∧ (u.gate i).state = .unseen then
      { u.gate i with stateTimer := u.tables.station.get?.map (fun st => u.now + st.seenTimeout) }
    else u.gate i := u.startSeenWatches_gate i

end

/-- What the owner of a table does with the contents of a load that passed its checks (R8, R46, R49, R103, R111, R116). -/
def State.Took (s t : State) (d : TableData) : Prop :=
  let seen (i : Fin 16) : Gate :=
    if (t.cfg i).inService = true ∧ (s.gate i).state = .unseen then
      { s.gate i with stateTimer := t.tables.station.get?.map (fun st => s.now + st.seenTimeout) }
    else s.gate i
  match d with
  | .station st =>
    let timers (p : ReachSide) : ReachPort :=
      if t.portPresent p = true then
        { s.reachPort p with silence := some (s.now + st.linkTimeout), period := some (s.now + st.linkPeriod) }
      else s.reachPort p
    t = { s with
      load := none, desk := t.desk, tables := t.tables, stationValidSince := some s.now
      yard := { s.yard with gates := t.yard.gates }, lvu := t.lvu, portU := timers .U, portD := timers .D
      csu := if t.portPresent .U = true then s.csu else { s.csu with
        queue := [], upstream := t.tables.initialUpstream, upstreamSource := .initial, forecast := .tracking } } ∧
    (∀ i, t.gate i = seen i) ∧
    (s.lvu.tailSource ≠ .default → t.lvu = s.lvu) ∧
    (s.lvu.tailSource = .default → t.lvu = { s.lvu with
      tailwater := st.tailwaterDefault, head := t.lvu.head, lastHead := t.lvu.lastHead } ∧
      t.lvu.head = (match s.lvu.headwater with
        | some h => min (h - st.tailwaterDefault) 200000
        | none => s.lvu.lastHead.getD 0))
  | .gates _ =>
    t = { s with load := none, desk := t.desk, tables := t.tables, yard := { s.yard with gates := t.yard.gates } } ∧
    ∀ i, t.gate i = seen i
  | .channels _ =>
    t = { s with
      load := none, desk := t.desk, tables := t.tables, lvu := { s.lvu with channels := t.lvu.channels } } ∧
    ∀ k : Fin 8, t.lvu.channels[k] =
      if (t.tables.channelCfg k).role = .unused then s.lvu.channels[k]
      else { s.lvu.channels[k] with staleWatch := some (s.now + (t.tables.channelCfg k).staleLimit) }
  | .groups _ | .conditions _ | .curve _ _ => t = { s with load := none, desk := t.desk, tables := t.tables }
  | .accept _ => s.mdc.mode = .config →
    t = { s with load := none, desk := t.desk, tables := t.tables, csu := t.csu, portU := t.portU } ∧
    t.csu.ownAcceptance = t.ownAcceptanceNow ∧
    (s.portPresent .U = true → t.csu.lastSent = t.csu.ownAcceptance) ∧
    (s.portPresent .U = false → t.csu.lastSent = s.csu.lastSent ∧ t.portU = s.portU)
  | .reach r => s.mdc.mode = .config →
    t = { s with
      load := none, desk := t.desk, tables := t.tables
      csu := { s.csu with upstream := if s.csu.upstreamSource = .initial then r.initial else s.csu.upstream } }
  | .ramp _ | .flood _ | .fill _ => s.mdc.mode = .config →
    t = { s with load := none, desk := t.desk, tables := t.tables }

section
variable {s : State}

/-- The state in which an owner takes contents: the load closed, with conditions and tables of that event. -/
def State.taking (s : State) (desk : Desk) (tables : Tables) : State := { s with load := none, desk := desk, tables := tables }

variable (s) (desk : Desk) (tables : Tables)

theorem State.took_station (st : Station) : s.Took ((s.taking desk (tables.setContents (.station st))).ownerTakes (.station st)) (.station st) := by
  have htakes := (s.taking desk (tables.setContents (.station st))).ownerTakes_station_eq st
  have hseen := State.startSeenWatches_seen (u := { s.taking desk (tables.setContents (.station st)) with stationValidSince := some s.now })
  have hdefault (hd : s.lvu.tailSource = .default) : (s.taking desk (tables.setContents (.station st))).tailwaterDefaultChanged.lvu =
      Lvu.computeHead { s.lvu with tailwater := st.tailwaterDefault } :=
    congrArg State.lvu (State.tailwaterDefaultChanged_of_default (s := s.taking desk (tables.setContents (.station st))) hd)
  have hheld (hd : s.lvu.tailSource ≠ .default) : (s.taking desk (tables.setContents (.station st))).tailwaterDefaultChanged.lvu = s.lvu := by
    rw [State.tailwaterDefaultChanged_of_ne (s := s.taking desk (tables.setContents (.station st))) hd]
    rfl
  generalize (s.taking desk (tables.setContents (.station st))).tailwaterDefaultChanged.lvu = lvu at htakes hdefault hheld
  generalize (s.taking desk (tables.setContents (.station st))).ownerTakes (.station st) = t at htakes ⊢
  have hlvu : t.lvu = lvu := (congrArg State.lvu htakes :)
  refine ⟨?_, fun i => ?_, fun hd => hlvu.trans (hheld hd), fun hd => ?_⟩
  · rw [htakes]
    rfl
  · rw [htakes]
    exact hseen i
  · rw [hlvu, hdefault hd]
    exact ⟨Lvu.computeHead_frame _, Lvu.computeHead_head _⟩

theorem State.took_gates (l : List GateCfg) : s.Took ((s.taking desk tables).ownerTakes (.gates l)) (.gates l) := by
  have htakes := (s.taking desk tables).startSeenWatches_frame
  have hseen := State.startSeenWatches_seen (u := s.taking desk tables)
  show s.Took (s.taking desk tables).startSeenWatches (.gates l)
  generalize (s.taking desk tables).startSeenWatches = t at htakes hseen ⊢
  refine ⟨?_, fun i => ?_⟩
  · rw [htakes]
    rfl
  · obtain rfl : t.tables = tables := (congrArg State.tables htakes :)
    exact hseen i

theorem State.took_channels (l : List ChannelCfg) : s.Took ((s.taking desk tables).ownerTakes (.channels l)) (.channels l) := by
  have htakes := (s.taking desk tables).startStaleWatches_frame
  have hwatched := (s.taking desk tables).startStaleWatches_channel
  show s.Took (s.taking desk tables).startStaleWatches (.channels l)
  generalize (s.taking desk tables).startStaleWatches = t at htakes hwatched ⊢
  refine ⟨?_, fun k => ?_⟩
  · rw [htakes]
    rfl
  · obtain rfl : t.tables = tables := (congrArg State.tables htakes :)
    exact hwatched k

theorem State.portPresent_of_station_eq {s t : State} (h : t.tables.station = s.tables.station) (p : ReachSide) :
    t.portPresent p = s.portPresent p := by
  have hneighbour : t.neighbour p = s.neighbour p := by
    cases p <;> simp only [State.neighbour, Tables.stationOr_of_station h]
  rw [State.portPresent, hneighbour, State.portPresent]

theorem State.ownAcceptanceNow_of_valid {s : State} {rows : List AcceptRow} (h : s.tables.accept.active = .valid rows) :
    s.ownAcceptanceNow ≠ none := by
  unfold State.ownAcceptanceNow
  rw [h]
  cases s.lvu.regime <;> cases s.lvu.headwater <;> exact (nomatch ·)

variable {tables} in
theorem State.took_accept (ht : tables.station = s.tables.station) (l : List AcceptRow) :
    s.Took ((s.taking desk (tables.setContents (.accept l))).ownerTakes (.accept l)) (.accept l) := by
  show s.Took (s.taking desk (tables.setContents (.accept l))).computeOwnAcceptance (.accept l)
  intro _
  have hpresent : (s.taking desk (tables.setContents (.accept l))).portPresent .U = s.portPresent .U := State.portPresent_of_station_eq ht .U
  have hsome := State.ownAcceptanceNow_of_valid (s := s.taking desk (tables.setContents (.accept l))) rfl
  have hframe := (s.taking desk (tables.setContents (.accept l))).computeOwnAcceptance_frame
  have hown := (s.taking desk (tables.setContents (.accept l))).computeOwnAcceptance_own
  have hsent := State.computeOwnAcceptance_lastSent (s := s.taking desk (tables.setContents (.accept l)))
  have hkept := State.computeOwnAcceptance_kept (s := s.taking desk (tables.setContents (.accept l)))
  rw [hpresent] at hsent hkept
  generalize (s.taking desk (tables.setContents (.accept l))).computeOwnAcceptance = t at hframe hown hsent hkept ⊢
  refine ⟨?_, ?_, fun hp => ?_, fun hp => ?_⟩
  · rw [hframe]
    rfl
  · refine hown.trans ?_
    rw [hframe]
    rfl
  · exact (hsent hp).trans ((if_neg hsome).trans hown.symm)
  · have hsame := hkept (.inr (.inr hp))
    exact ⟨(congrArg (fun t : State => t.csu.lastSent) hsame :), (congrArg State.portU hsame :)⟩

theorem State.took_reach (r : Reach) : s.Took ((s.taking desk (tables.setContents (.reach r))).ownerTakes (.reach r)) (.reach r) := by
  show s.Took (s.taking desk (tables.setContents (.reach r))).followReach (.reach r)
  intro _
  have hframe := (s.taking desk (tables.setContents (.reach r))).followReach_eq
  generalize (s.taking desk (tables.setContents (.reach r))).followReach = t at hframe ⊢
  rw [hframe]
  rfl

variable {tables} in
theorem State.took (ht : tables.station = s.tables.station) (d : TableData) : s.Took (State.takeContents (s.taking desk tables) d) d := by
  cases d with
  | station st => exact s.took_station desk tables st
  | gates l => exact s.took_gates desk _ l
  | channels l => exact s.took_channels desk _ l
  | accept l => exact s.took_accept desk ht l
  | reach r => exact s.took_reach desk tables r
  | groups | conditions | curve => rfl
  | ramp | flood | fill => exact fun _ => rfl

end

section
variable {s v : State}

theorem State.Took.reply {d : TableData} (h : s.Took v d) (code : Byte) (r : Result) (data : List Byte) :
    s.Took (v.reply code r data) d := by
  rw [State.reply_eq]
  generalize v.desk.pushOwn _ = desk
  cases d with
  | station st =>
    obtain ⟨hframe, hrest⟩ := h
    exact ⟨congrArg (fun x : State => { x with desk := desk }) hframe, hrest⟩
  | gates | channels =>
    obtain ⟨hframe, hrest⟩ := h
    exact ⟨congrArg (fun x : State => { x with desk := desk }) hframe, hrest⟩
  | accept =>
    intro hm
    obtain ⟨hframe, hrest⟩ := h hm
    exact ⟨congrArg (fun x : State => { x with desk := desk }) hframe, hrest⟩
  | groups | conditions | curve => exact congrArg (fun x : State => { x with desk := desk }) h
  | reach | ramp | flood | fill => exact fun hm => congrArg (fun x : State => { x with desk := desk }) (h hm)

theorem Tables.dropShadow_station (t : Tables) (id : TableId) : (t.dropShadow id).station = t.station :=
  (t.dropShadow_sameCascade id).station

theorem State.passLoad_took {d : TableData} (s : State) : s.Took (s.passLoad d.table d) d := by
  cases hid : d.table.structural with
  | true =>
    rw [State.passLoad_structural _ hid]
    exact s.took (s.passed d.table).desk rfl d
  | false =>
    by_cases hm : s.mdc.mode = .config
    · rw [State.passLoad_config _ hid hm]
      exact s.took (s.passed d.table).desk (Tables.dropShadow_station ..) d
    · cases d with
      | ramp | flood | accept | reach | fill => exact fun hc => absurd hc hm
      | _ => cases hid

end

/-- Settles O38. -/
theorem loadsEndByTheirChecks : Obligations.LoadsEndByTheirChecks := by
  intro s crc h reply
  have replies {r : Result} {u : State} {code : Byte} (he : execLoadEnd crc s = .next (u.reply 10 r [])) (hr : BitVec.ofNat 8 r.code = code) :
      exec (.loadEnd crc) s = .next (u.pushOwn (reply code)) := by
    subst hr
    exact he.trans (congrArg _ (State.reply_eq ..))
  refine ⟨fun hs => replies (execLoadEnd_saving h hs) rfl, fun hs hl => replies (execLoadEnd_closed h hs hl) rfl, fun c hs hl => ?_⟩
  intro dropped
  split
  next hb => exact replies (execLoadEnd_short h hs hl hb) rfl
  next hb =>
    split
    next hc => exact replies (execLoadEnd_crc h hs hl hb hc) rfl
    next hc =>
      refine ⟨fun hp => replies (execLoadEnd_content h hs hl hb hc hp) rfl, fun d hp => ?_⟩
      have hd : d.table = c.table := parseTable_table hp
      have hexec := execLoadEnd_done h hs hl hb hc hp
      have htook := (s.passLoad_took (d := d)).reply 10 .done []
      rw [hd] at htook
      obtain ⟨hcleared, hclosed⟩ := s.passLoad_desk_load c.table d
      have hdesk := ((s.passLoad c.table d).reply_desk 10 .done []).trans (congrArg (Desk.pushOwn · (reply 0)) hcleared)
      refine ⟨_, hexec, ?_, hdesk, fun hid => ?_, fun hid hm => ?_, fun hid hm => ?_, htook⟩
      · rw [State.reply_eq]
        exact hclosed
      · rw [State.reply_eq, State.passLoad_structural _ hid]
        exact State.takeContents_tables ..
      · rw [State.reply_eq, State.passLoad_config _ hid hm]
        exact State.takeContents_tables ..
      · rw [State.reply_eq, State.passLoad_shadow _ hid hm]
        rfl

end Sys2Proof.Machine
end

section
/-! PROOFS. What the decided start keeps of the watches, the forecast and the own acceptance (O4). -/

namespace Sys2Proof.Machine

/-- The own acceptance is the one of the present headwater, regime and table (R116). -/
def State.OwnExact (s : State) : Prop := s.csu.ownAcceptance = s.ownAcceptanceNow

/-- The own acceptance is current while the ACCEPT table is VALID. -/
def State.OwnCurrent (s : State) : Prop := s.tables.accept.active.isValid = true → s.OwnExact

/-- The timers of a reach port are the same. -/
def ReachPort.SameTimers (r t : ReachPort) : Prop := t.silence = r.silence ∧ t.period = r.period

/-- What the owners hold by their tables is the same: watches, default tailwater, port timers, forecast and own acceptance. -/
structure State.SameWatches (s t : State) : Prop where
  now : t.now = s.now
  tables : t.tables = s.tables
  validSince : t.stationValidSince = s.stationValidSince
  channels : t.lvu.channels = s.lvu.channels
  tailwater : t.lvu.tailwater = s.lvu.tailwater
  queue : t.csu.queue = s.csu.queue
  forecast : t.csu.forecast = s.csu.forecast
  source : t.csu.upstreamSource = s.csu.upstreamSource
  upstream : t.csu.upstream = s.csu.upstream
  portU : s.portU.SameTimers t.portU
  portD : s.portD.SameTimers t.portD
  flash : t.flash = s.flash
  boot : t.boot = s.boot
  own : s.OwnExact → t.OwnExact

namespace State.SameWatches

theorem of_eq {s : State} {t : State} (hnow : t.now = s.now := by rfl) (htables : t.tables = s.tables := by rfl)
    (hsince : t.stationValidSince = s.stationValidSince := by rfl) (hlvu : t.lvu = s.lvu := by rfl) (hcsu : t.csu = s.csu := by rfl)
    (hU : t.portU = s.portU := by rfl) (hD : t.portD = s.portD := by rfl) (hflash : t.flash = s.flash := by rfl)
    (hboot : t.boot = s.boot := by rfl) : s.SameWatches t := by
  refine ⟨hnow, htables, hsince, ?_, ?_, ?_, ?_, ?_, ?_, ?_, ?_, hflash, hboot, ?_⟩
  · rw [hlvu]
  · rw [hlvu]
  · rw [hcsu]
  · rw [hcsu]
  · rw [hcsu]
  · rw [hcsu]
  · rw [hU]; exact ⟨rfl, rfl⟩
  · rw [hD]; exact ⟨rfl, rfl⟩
  · unfold State.OwnExact State.ownAcceptanceNow
    rw [htables, hcsu, hlvu]
    exact id

theorem trans {a b c : State} (hab : a.SameWatches b) (hbc : b.SameWatches c) : a.SameWatches c where
  now := hbc.now.trans hab.now
  tables := hbc.tables.trans hab.tables
  validSince := hbc.validSince.trans hab.validSince
  channels := hbc.channels.trans hab.channels
  tailwater := hbc.tailwater.trans hab.tailwater
  queue := hbc.queue.trans hab.queue
  forecast := hbc.forecast.trans hab.forecast
  source := hbc.source.trans hab.source
  upstream := hbc.upstream.trans hab.upstream
  portU := ⟨hbc.portU.1.trans hab.portU.1, hbc.portU.2.trans hab.portU.2⟩
  portD := ⟨hbc.portD.1.trans hab.portD.1, hbc.portD.2.trans hab.portD.2⟩
  flash := hbc.flash.trans hab.flash
  boot := hbc.boot.trans hab.boot
  own := hbc.own ∘ hab.own

theorem current {s t : State} (h : s.SameWatches t) (hs : s.OwnCurrent) : t.OwnCurrent := fun hv =>
  h.own (hs (by rwa [h.tables] at hv))

end State.SameWatches

/-! ## The Cascade Unit -/

theorem ReachPort.start_timers (r : ReachPort) (n q : Nat) : r.SameTimers (r.start n q).1 := by
  unfold ReachPort.start ReachPort.SameTimers
  split
  · exact ⟨rfl, rfl⟩
  · dsimp only
    split
    · exact ⟨rfl, rfl⟩
    · split
      · exact ⟨rfl, rfl⟩
      · split <;> exact ⟨rfl, rfl⟩

section
variable (s : State)

theorem State.startReach_sameWatches (p : ReachSide) : s.SameWatches (s.startReach p) := by
  have htimers := (s.reachPort p).start_timers s.tables.stationOr.stationNumber s.csu.outSequence
  unfold State.startReach
  generalize (s.reachPort p).start s.tables.stationOr.stationNumber s.csu.outSequence = out at htimers ⊢
  cases p with
  | U => exact ⟨rfl, rfl, rfl, rfl, rfl, rfl, rfl, rfl, rfl, htimers, ⟨rfl, rfl⟩, rfl, rfl, id⟩
  | D => exact ⟨rfl, rfl, rfl, rfl, rfl, rfl, rfl, rfl, rfl, ⟨rfl, rfl⟩, htimers, rfl, rfl, id⟩

/-- What computes the own acceptance leaves it current. -/
theorem State.computeOwnAcceptance_exact : s.computeOwnAcceptance.OwnExact := by
  refine s.computeOwnAcceptance_own.trans ?_
  have hframe := s.computeOwnAcceptance_frame
  generalize s.computeOwnAcceptance = t at hframe ⊢
  rw [hframe]
  rfl

theorem State.computeOwnAcceptance_cases :
    s.computeOwnAcceptance = s.ownAcceptanceKept ∨ ∃ a, s.computeOwnAcceptance = (s.acceptPlaced a).startReach .U := by
  by_cases hk : s.ownAcceptanceNow = none ∨ s.csu.lastSent = s.ownAcceptanceNow ∨ s.portPresent .U = false
  · exact .inl (State.computeOwnAcceptance_kept hk)
  · simp only [not_or, Bool.not_eq_false] at hk
    obtain ⟨hnow, hsent, hpresent⟩ := hk
    obtain ⟨a, ha⟩ := Option.ne_none_iff_exists'.1 hnow
    exact .inr ⟨a, State.computeOwnAcceptance_placed ha (by rwa [ha] at hsent) hpresent⟩

theorem State.computeOwnAcceptance_sameWatches : s.SameWatches s.computeOwnAcceptance := by
  have hexact := s.computeOwnAcceptance_exact
  obtain h | ⟨a, h⟩ := s.computeOwnAcceptance_cases
  · rw [h] at hexact ⊢
    exact ⟨rfl, rfl, rfl, rfl, rfl, rfl, rfl, rfl, rfl, ⟨rfl, rfl⟩, ⟨rfl, rfl⟩, rfl, rfl, fun _ => hexact⟩
  · have hsent := (s.acceptPlaced a).startReach_sameWatches .U
    rw [h] at hexact ⊢
    exact ⟨hsent.now, hsent.tables, hsent.validSince, hsent.channels, hsent.tailwater, hsent.queue, hsent.forecast, hsent.source,
      hsent.upstream, hsent.portU, hsent.portD, hsent.flash, hsent.boot, fun _ => hexact⟩

theorem State.setRegime_sameWatches (r : Regime) : s.SameWatches (s.setRegime r) := by
  unfold State.setRegime
  split
  · exact .of_eq
  · have h := State.computeOwnAcceptance_sameWatches { s with lvu := { s.lvu with regime := r } }
    exact ⟨h.now, h.tables, h.validSince, h.channels, h.tailwater, h.queue, h.forecast, h.source, h.upstream, h.portU, h.portD,
      h.flash, h.boot, fun _ => State.computeOwnAcceptance_exact _⟩

variable {s} in
theorem State.SameWatches.desk {t : State} (h : s.SameWatches t) (d : Desk) : s.SameWatches { t with desk := d } := h.trans .of_eq

theorem State.evaluateRegime_sameWatches (h : Nat) : s.SameWatches (s.evaluateRegime h) := by
  unfold State.evaluateRegime
  dsimp only
  split
  · split
    · exact (s.setRegime_sameWatches .flood).desk _
    · exact .of_eq
  · split
    · exact (s.setRegime_sameWatches .normal).desk _
    · exact .of_eq

theorem State.placeRelease_sameWatches : s.SameWatches s.placeRelease := by
  have placed (pending : Option Nat) (sent : Option Nat) (at_ refresh : Timer) : s.SameWatches { s with
      portD := { s.portD with pendingRelease := pending }
      csu := { s.csu with lastNotified := sent, lastRelease := at_, refreshTimer := refresh } } :=
    ⟨rfl, rfl, rfl, rfl, rfl, rfl, rfl, rfl, rfl, ⟨rfl, rfl⟩, ⟨rfl, rfl⟩, rfl, rfl, id⟩
  exact (placed ..).trans (State.startReach_sameWatches ..)

theorem State.setRefresh_sameWatches : s.SameWatches s.setRefresh := by
  have timed (refresh : Timer) : s.SameWatches { s with csu := { s.csu with refreshTimer := refresh } } :=
    ⟨rfl, rfl, rfl, rfl, rfl, rfl, rfl, rfl, rfl, ⟨rfl, rfl⟩, ⟨rfl, rfl⟩, rfl, rfl, id⟩
  unfold State.setRefresh
  dsimp only
  split
  · exact timed _
  · split
    · exact s.placeRelease_sameWatches
    · exact .of_eq

theorem State.testLockedGates_sameWatches : s.SameWatches s.testLockedGates := by
  rw [State.testLockedGates_frame]
  exact .of_eq

/-! ## The entries to GOVERN and CONFIG -/

theorem State.enterGovern_sameWatches : s.SameWatches s.enterGovern := by
  have entering : s.SameWatches s.enteringGovern := .of_eq
  have standing : s.enteringGovern.SameWatches s.enteringGovern.setStandings := by
    rw [State.setStandings_frame]
    exact .of_eq
  have regime (fresh : Bool) (u : State) : u.SameWatches (u.regimeAtEntry fresh) := by
    unfold State.regimeAtEntry
    split
    · exact u.evaluateRegime_sameWatches _
    · exact .of_eq
  have started (u : State) : u.SameWatches u.startRounds := .of_eq
  rw [State.enterGovern_eq]
  exact (((((entering.trans standing).trans (regime ..)).trans (started _)).trans (State.setRefresh_sameWatches _)).trans
    (State.testLockedGates_sameWatches _))

variable {s} in
theorem State.enterConfig_sameWatches (h : s.tables.readyShadows = []) : s.SameWatches s.enterConfig := by
  have cleared (u : State) (l : List Cond) : u.SameWatches (u.clearAll l) := .of_eq
  have entering : s.SameWatches s.enteringConfig := .of_eq
  have each : s.enteringConfig.SameWatches (s.enteringConfig.eachGate Gate.configured) := by
    rw [State.eachGate_frame]
    exact .of_eq
  have stopped (u : State) : u.SameWatches u.stopRefresh :=
    ⟨rfl, rfl, rfl, rfl, rfl, rfl, rfl, rfl, rfl, ⟨rfl, rfl⟩, ⟨rfl, rfl⟩, rfl, rfl, id⟩
  have hregime := (((entering.trans each).trans (cleared _ (allGates.map .gateLag))).trans
    (State.setRegime_sameWatches _ .normal)).trans (cleared _ [.headHigh])
  have htables := hregime.tables
  rw [State.enterConfig_eq]
  show s.SameWatches (State.clearAll (State.stopRefresh (State.swapShadows (State.clearAll _ [.headHigh]))) _)
  rw [State.swapShadows_of_none (by rw [htables]; exact h)]
  exact (hregime.trans (stopped _)).trans (cleared ..)

/-! ## Gates that are UNSEEN -/

theorem Yard.testLocked_unseen (e : YardEnv) (i j : Fin 16) (y : Yard) (h : (y.gate j).state = .unseen) :
    (Yard.testLocked e i y).gate j = y.gate j := by
  by_cases hj : j = i
  · subst hj
    unfold Yard.testLocked
    simp [h]
  · exact ((Yard.testLocked_acts y).others j hj).eq (by rw [h]; decide) (by rw [h]; decide)

theorem State.testLockedGates_unseen {i : Fin 16} (h : (s.gate i).state = .unseen) : s.testLockedGates.gate i = s.gate i := by
  refine foldl_keeps (fun t : State => t.gate i = s.gate i) _ (fun t k ht => ?_) _ _ rfl
  show (t.onYard k _).yard.gate i = _
  rw [State.onYard_yard]
  exact (Yard.testLocked_unseen _ k i t.yard (by rw [← h, ← ht]; rfl)).trans ht

theorem Gate.stood_state (g : Gate) : g.stood.state = g.state ∧ g.stood.stateTimer = g.stateTimer := by
  unfold Gate.stood
  split <;> exact ⟨rfl, rfl⟩

theorem State.enterGovern_unseen {i : Fin 16} (h : (s.gate i).state = .unseen) :
    (s.enterGovern.gate i).state = .unseen ∧ (s.enterGovern.gate i).stateTimer = (s.gate i).stateTimer := by
  obtain ⟨hstate, htimer⟩ := (s.gate i).stood_state
  have hg : s.governing.setRefresh.gate i = (s.gate i).stood := (State.setRefresh_gate ..).trans (s.governing_gate i)
  have hunseen : (s.governing.setRefresh.gate i).state = .unseen := by rw [hg, hstate, h]
  rw [State.enterGovern_eq_governing, State.testLockedGates_unseen _ hunseen, hg]
  exact ⟨hstate.trans h, htimer⟩

theorem State.enterConfig_unseen {i : Fin 16} (h : (s.gate i).state = .unseen) :
    (s.enterConfig.gate i).state = .unseen ∧ (s.enterConfig.gate i).stateTimer = (s.gate i).stateTimer := by
  rw [State.enterConfig_gate, Gate.configured]
  unfold Gate.reseatIfLocked
  simp [h]

end

end Sys2Proof.Machine
end

section
/-! PROOFS. The tables that the boot read gives their outcomes (O4). -/

namespace Sys2Proof.Machine

/-! ## Tables as their readers see them -/

/-- What the owners read of the tables is the same. -/
structure Tables.SameReads (t u : Tables) : Prop where
  station : u.station.get? = t.station.get?
  gates : u.gates.get? = t.gates.get?
  channels : u.channels.get? = t.channels.get?
  accept : u.accept.active.get? = t.accept.active.get?
  reach : u.reach.active.get? = t.reach.active.get?
  shadows : u.readyShadows = t.readyShadows

theorem Tables.stationOr_eq (t : Tables) : t.stationOr = t.station.get?.getD {} := by
  unfold Tables.stationOr TableSlot.get?
  cases t.station <;> rfl

theorem Tables.gateCfg_eq (t : Tables) (i : Fin 16) : t.gateCfg i = (t.gates.get?.map (·.getD i.val {})).getD {} := by
  unfold Tables.gateCfg TableSlot.get?
  cases t.gates <;> rfl

theorem Tables.channelCfg_eq (t : Tables) (c : Fin 8) : t.channelCfg c = (t.channels.get?.map (·.getD c.val {})).getD {} := by
  unfold Tables.channelCfg TableSlot.get?
  cases t.channels <;> rfl

theorem Tables.initialUpstream_eq (t : Tables) : t.initialUpstream = (t.reach.active.get?.map (·.initial)).getD 0 := by
  unfold Tables.initialUpstream TableSlot.get?
  cases t.reach.active <;> rfl

theorem State.ownAcceptanceNow_eq (s : State) : s.ownAcceptanceNow = s.tables.accept.active.get?.map (fun rows =>
    match s.lvu.regime, s.lvu.headwater with
    | .flood, _ => 0
    | .normal, none => 0
    | .normal, some h => ((acceptRow h rows).map (·.acceptance)).getD 0) := by
  unfold State.ownAcceptanceNow TableSlot.get?
  cases s.tables.accept.active with
  | valid rows => cases s.lvu.regime <;> cases s.lvu.headwater <;> rfl
  | _ => rfl

section
variable {t u : Tables} (h : t.SameReads u)
include h

theorem Tables.SameReads.stationOr : u.stationOr = t.stationOr := by rw [u.stationOr_eq, t.stationOr_eq, h.station]
theorem Tables.SameReads.gateCfg : u.gateCfg = t.gateCfg := by funext i; rw [u.gateCfg_eq, t.gateCfg_eq, h.gates]
theorem Tables.SameReads.channelCfg : u.channelCfg = t.channelCfg := by
  funext c
  rw [u.channelCfg_eq, t.channelCfg_eq, h.channels]

theorem Tables.SameReads.initialUpstream : u.initialUpstream = t.initialUpstream := by
  rw [u.initialUpstream_eq, t.initialUpstream_eq, h.reach]

end

/-! ## A boot read in progress -/

/-- The timers of a reach port as the STATION table starts them. -/
def ReachPort.StartedBy (r : ReachPort) (now : Tick) (st : Station) : Prop :=
  r.silence = some (now + st.linkTimeout) ∧ r.period = some (now + st.linkPeriod)

/-- What the owners hold of the tables they were given, from a start at `s`. -/
structure State.Booting (s u : State) : Prop where
  now : u.now = s.now
  mdc : u.mdc = s.mdc
  flash : u.flash = s.flash
  headwater : u.lvu.headwater = s.lvu.headwater
  tailSource : u.lvu.tailSource = s.lvu.tailSource
  shadows : u.tables.readyShadows = []
  gates : ∀ i, u.gate i = (s.gate i).awaited u.tables s.now (u.cfg i)
  channels : ∀ c, u.channel c = (s.channel c).watched u.tables s.now c
  validSince : u.tables.station.get? ≠ none → u.stationValidSince = some s.now
  tailwater : ∀ st, u.tables.station.get? = some st → s.lvu.tailSource = .default → u.lvu.tailwater = st.tailwaterDefault
  portU : ∀ st, u.tables.station.get? = some st → u.portPresent .U = true → u.portU.StartedBy s.now st
  portD : ∀ st, u.tables.station.get? = some st → u.portPresent .D = true → u.portD.StartedBy s.now st
  forecast : u.tables.station.get? ≠ none → u.portPresent .U = false →
    u.csu.queue = [] ∧ u.csu.forecast = .tracking ∧ u.csu.upstreamSource = .initial ∧ u.csu.upstream = u.tables.initialUpstream
  source : s.csu.upstreamSource = .initial → u.csu.upstreamSource = .initial
  upstream : ∀ r, u.tables.reach.active.get? = some r → u.csu.upstreamSource = .initial → u.csu.upstream = r.initial
  own : u.OwnCurrent

theorem Gate.awaited_awaited (g : Gate) (t t' : Tables) (now : Tick) (c : GateCfg) :
    (g.awaited t now c).awaited t' now c = g.awaited t' now c := by
  unfold Gate.awaited
  by_cases h : c.inService = true ∧ g.state = .unseen <;> simp [h]

namespace State.Booting
variable {s u : State}

/-- A table whose owner does nothing, and one that is not VALID before and after, leave all that was held. -/
theorem of_reads (h : s.Booting u) {t : Tables} (ht : u.tables.SameReads t) : s.Booting { u with tables := t } := by
  have hneighbour (p : ReachSide) : State.neighbour { u with tables := t } p = u.neighbour p := by
    cases p <;> simp only [State.neighbour, ht.stationOr]
  have hpresent (p : ReachSide) : State.portPresent { u with tables := t } p = u.portPresent p := by
    rw [State.portPresent, hneighbour, State.portPresent]
  have hcfg (i : Fin 16) : State.cfg { u with tables := t } i = u.cfg i := congrFun ht.gateCfg i
  refine ⟨h.now, h.mdc, h.flash, h.headwater, h.tailSource, ht.shadows.trans h.shadows, fun i => ?_, fun c => ?_, ?_, ?_, ?_, ?_, ?_, h.source, ?_, ?_⟩
  · rw [hcfg]
    refine (h.gates i).trans ?_
    simp only [Gate.awaited, ht.station]
  · refine (h.channels c).trans ?_
    simp only [Channel.watched, ht.channelCfg]
  · exact fun hv => h.validSince (by rwa [← ht.station])
  · exact fun st hv => h.tailwater st (by rwa [← ht.station])
  · exact fun st hv hp => h.portU st (by rwa [← ht.station]) (by rwa [← hpresent])
  · exact fun st hv hp => h.portD st (by rwa [← ht.station]) (by rwa [← hpresent])
  · intro hv hp
    show _ ∧ _ ∧ _ ∧ _ = t.initialUpstream
    rw [ht.initialUpstream]
    exact h.forecast (by rwa [← ht.station]) (by rwa [← hpresent])
  · exact fun r hr => h.upstream r (by rwa [← ht.reach])
  · intro hv
    refine (h.own (by rw [TableSlot.isValid, ← ht.accept]; exact hv)).trans ?_
    rw [State.ownAcceptanceNow_eq, State.ownAcceptanceNow_eq, ht.accept]

theorem takes_station (h : s.Booting u) (st : Station) : s.Booting (u.takeContents (.station st)) := by
  let v : State := { u with tables := u.tables.setContents (.station st) }
  have htakes := v.ownerTakes_station_eq st
  have hseen := State.startSeenWatches_gate { v with stationValidSince := some v.now }
  have hdefault (hd : u.lvu.tailSource = .default) : v.tailwaterDefaultChanged.lvu = Lvu.computeHead { u.lvu with tailwater := st.tailwaterDefault } :=
    congrArg State.lvu (State.tailwaterDefaultChanged_of_default (s := v) hd)
  have hlvu : v.tailwaterDefaultChanged.lvu.headwater = u.lvu.headwater ∧ v.tailwaterDefaultChanged.lvu.tailSource = u.lvu.tailSource ∧
      v.tailwaterDefaultChanged.lvu.channels = u.lvu.channels ∧ v.tailwaterDefaultChanged.lvu.regime = u.lvu.regime := by
    by_cases hd : u.lvu.tailSource = .default
    · rw [hdefault hd, Lvu.computeHead_frame]
      exact ⟨rfl, rfl, rfl, rfl⟩
    · have hheld : v.tailwaterDefaultChanged = v := State.tailwaterDefaultChanged_of_ne hd
      rw [hheld]
      exact ⟨rfl, rfl, rfl, rfl⟩
  obtain ⟨hheadwater, htailSource, hchannels, hregime⟩ := hlvu
  show s.Booting (v.ownerTakes (.station st))
  generalize v.tailwaterDefaultChanged.lvu = lvu at htakes hdefault hheadwater htailSource hchannels hregime
  generalize v.ownerTakes (.station st) = t at htakes ⊢
  have hnow := h.now
  have htables : t.tables = u.tables.setContents (.station st) := (congrArg State.tables htakes :)
  have hpresent (p : ReachSide) : t.portPresent p = v.portPresent p := State.portPresent_of_station_eq (by rw [htables]) p
  have hget : t.tables.station.get? = some st := by rw [htables]; rfl
  have htlvu : t.lvu = lvu := (congrArg State.lvu htakes :)
  have hcsu : t.csu = if v.portPresent .U = true then u.csu else { u.csu with
      queue := [], upstream := u.tables.initialUpstream, upstreamSource := .initial, forecast := .tracking } := (congrArg State.csu htakes :)
  refine ⟨?_, ?_, ?_, ?_, ?_, ?_, fun i => ?_, fun c => ?_, fun _ => ?_, fun st' hst' hd => ?_, fun st' hst' hp => ?_, fun st' hst' hp => ?_,
    fun _ hp => ?_, fun hs => ?_, fun r hr hsource => ?_, fun hv => ?_⟩
  · exact ((congrArg State.now htakes :).trans hnow)
  · exact ((congrArg State.mdc htakes :).trans h.mdc)
  · exact ((congrArg State.flash htakes :).trans h.flash)
  · rw [htlvu, hheadwater, h.headwater]
  · rw [htlvu, htailSource, h.tailSource]
  · rw [htables]
    exact h.shadows
  · have hgate : t.gate i = (u.gate i).awaited v.tables u.now (v.cfg i) := by rw [htakes]; exact hseen i
    have hcfg : t.cfg i = v.cfg i := by rw [State.cfg, htables]
    have hsame : v.cfg i = u.cfg i := rfl
    rw [hgate, h.gates i, hcfg, hsame, htables, hnow, Gate.awaited_awaited]
  · have hchannel : t.channel c = u.channel c := by
      show t.lvu.channels[c] = u.lvu.channels[c]
      rw [htlvu, hchannels]
    rw [hchannel, h.channels c, htables]
    rfl
  · exact (congrArg State.stationValidSince htakes :).trans (congrArg some hnow)
  · obtain rfl := Option.some.inj (hget.symm.trans hst')
    rw [htlvu, hdefault (h.tailSource.trans hd), Lvu.computeHead_frame]
  · obtain rfl := Option.some.inj (hget.symm.trans hst')
    have hport : t.portU = v.timed .U := (congrArg State.portU htakes :)
    rw [hpresent] at hp
    rw [hport, State.timed, if_pos hp, ← hnow]
    exact ⟨rfl, rfl⟩
  · obtain rfl := Option.some.inj (hget.symm.trans hst')
    have hport : t.portD = v.timed .D := (congrArg State.portD htakes :)
    rw [hpresent] at hp
    rw [hport, State.timed, if_pos hp, ← hnow]
    exact ⟨rfl, rfl⟩
  · rw [hpresent] at hp
    rw [hcsu, if_neg (by rw [hp]; exact Bool.false_ne_true), htables]
    exact ⟨rfl, rfl, rfl, rfl⟩
  · rw [hcsu]
    split
    · exact h.source hs
    · rfl
  · rw [htables] at hr
    rw [hcsu] at hsource ⊢
    split at hsource
    next hp =>
      rw [if_pos hp]
      exact h.upstream r hr hsource
    next hp =>
      rw [if_neg hp]
      show u.tables.initialUpstream = _
      rw [Tables.initialUpstream_eq]
      exact congrArg (fun x : Option Reach => (x.map (·.initial)).getD 0) hr
  · have hown : t.csu.ownAcceptance = u.csu.ownAcceptance := by
      rw [hcsu]
      split <;> rfl
    rw [htables] at hv
    have hexact : u.csu.ownAcceptance = u.ownAcceptanceNow := h.own hv
    rw [State.OwnExact, hown, hexact, State.ownAcceptanceNow_eq, State.ownAcceptanceNow_eq, htlvu, hheadwater, hregime, htables]
    rfl

theorem takes_gates (h : s.Booting u) (habsent : u.tables.gates.get? = none) (l : List GateCfg) :
    s.Booting (u.takeContents (.gates l)) := by
  let v : State := { u with tables := u.tables.setContents (.gates l) }
  have htakes := v.startSeenWatches_frame
  have hseen := v.startSeenWatches_gate
  show s.Booting v.startSeenWatches
  generalize v.startSeenWatches = t at htakes hseen ⊢
  have houtside (i : Fin 16) : u.gate i = s.gate i := by
    refine (h.gates i).trans (if_neg fun hi => ?_)
    have hcfg : u.cfg i = {} := by rw [State.cfg, Tables.gateCfg_eq, habsent]; rfl
    rw [hcfg] at hi
    exact Bool.false_ne_true hi.1
  rw [htakes]
  refine ⟨h.now, h.mdc, h.flash, h.headwater, h.tailSource, h.shadows, fun i => ?_, h.channels, h.validSince, h.tailwater, h.portU,
    h.portD, h.forecast, h.source, h.upstream, h.own⟩
  have hgate : State.gate { v with yard := { v.yard with gates := t.yard.gates } } i = t.gate i := rfl
  rw [hgate, hseen i]
  show (u.gate i).awaited v.tables u.now _ = _
  rw [houtside, h.now]

theorem takes_channels (h : s.Booting u) (habsent : u.tables.channels.get? = none) (l : List ChannelCfg) :
    s.Booting (u.takeContents (.channels l)) := by
  let v : State := { u with tables := u.tables.setContents (.channels l) }
  have htakes := v.startStaleWatches_frame
  have hwatched := v.startStaleWatches_channel
  show s.Booting v.startStaleWatches
  generalize v.startStaleWatches = t at htakes hwatched ⊢
  have hunused (c : Fin 8) : u.channel c = s.channel c := by
    refine (h.channels c).trans (if_pos ?_)
    rw [Tables.channelCfg_eq, habsent]
    rfl
  rw [htakes]
  refine ⟨h.now, h.mdc, h.flash, h.headwater, h.tailSource, h.shadows, h.gates, fun c => ?_, h.validSince, h.tailwater, h.portU,
    h.portD, h.forecast, h.source, h.upstream, h.own⟩
  have hchannel : State.channel { v with lvu := { v.lvu with channels := t.lvu.channels } } c = t.channel c := rfl
  rw [hchannel, hwatched c]
  show (u.channel c).watched v.tables u.now c = _
  rw [hunused, h.now]

theorem takes_accept (h : s.Booting u) (l : List AcceptRow) : s.Booting (u.takeContents (.accept l)) := by
  let v : State := { u with tables := u.tables.setContents (.accept l) }
  have hframe := v.computeOwnAcceptance_frame
  have hsame := v.computeOwnAcceptance_sameWatches
  have hcurrent : v.computeOwnAcceptance.OwnCurrent := fun _ => v.computeOwnAcceptance_exact
  show s.Booting v.computeOwnAcceptance
  generalize v.computeOwnAcceptance = t at hframe hsame hcurrent ⊢
  have htables : t.tables = u.tables.setContents (.accept l) := (congrArg State.tables hframe :)
  have hgate (i : Fin 16) : t.gate i = u.gate i := by rw [hframe]; rfl
  have hchannel (c : Fin 8) : t.channel c = u.channel c := by rw [hframe]; rfl
  have hcfg (i : Fin 16) : t.cfg i = u.cfg i := by rw [State.cfg, htables]; rfl
  have hpresent (p : ReachSide) : t.portPresent p = u.portPresent p := State.portPresent_of_station_eq (by rw [htables]; rfl) p
  have hstation : t.tables.station = u.tables.station := by rw [htables]; rfl
  refine ⟨hsame.now.trans h.now, ?_, hsame.flash.trans h.flash, ?_, ?_, ?_, fun i => ?_, fun c => ?_, fun hv => ?_, fun st hst hd => ?_,
    fun st hst hp => ?_, fun st hst hp => ?_, fun hv hp => ?_, fun hs => ?_, fun r hr hsource => ?_, hcurrent⟩
  · rw [hframe]; exact h.mdc
  · rw [hframe]; exact h.headwater
  · rw [hframe]; exact h.tailSource
  · rw [htables]; exact h.shadows
  · rw [hgate, hcfg, htables]; exact h.gates i
  · rw [hchannel, htables]; exact h.channels c
  · rw [hstation] at hv
    exact hsame.validSince.trans (h.validSince hv)
  · rw [hstation] at hst
    exact hsame.tailwater.trans (h.tailwater st hst hd)
  · rw [hstation] at hst
    rw [hpresent] at hp
    obtain ⟨hsilence, hperiod⟩ := h.portU st hst hp
    exact ⟨hsame.portU.1.trans hsilence, hsame.portU.2.trans hperiod⟩
  · rw [hstation] at hst
    rw [hpresent] at hp
    obtain ⟨hsilence, hperiod⟩ := h.portD st hst hp
    exact ⟨hsame.portD.1.trans hsilence, hsame.portD.2.trans hperiod⟩
  · rw [hstation] at hv
    rw [hpresent] at hp
    obtain ⟨hqueue, hforecast, hsource, hupstream⟩ := h.forecast hv hp
    refine ⟨hsame.queue.trans hqueue, hsame.forecast.trans hforecast, hsame.source.trans hsource, hsame.upstream.trans (hupstream.trans ?_)⟩
    rw [htables]
    rfl
  · exact hsame.source.trans (h.source hs)
  · rw [htables] at hr
    exact hsame.upstream.trans (h.upstream r hr (hsame.source.symm.trans hsource))

theorem takes_reach (h : s.Booting u) (x : Reach) : s.Booting (u.takeContents (.reach x)) := by
  let v : State := { u with tables := u.tables.setContents (.reach x) }
  have htakes := v.followReach_eq
  show s.Booting v.followReach
  generalize v.followReach = t at htakes ⊢
  rw [htakes]
  refine ⟨h.now, h.mdc, h.flash, h.headwater, h.tailSource, h.shadows, h.gates, h.channels, h.validSince, h.tailwater, h.portU,
    h.portD, fun hv hp => ?_, h.source, fun r hr hsource => ?_, h.own⟩
  · obtain ⟨hqueue, hforecast, hsource, -⟩ := h.forecast hv hp
    exact ⟨hqueue, hforecast, hsource, if_pos hsource⟩
  · obtain rfl : x = r := Option.some.inj hr
    exact if_pos hsource

/-- Contents taken for a table that was not VALID. -/
theorem takes (h : s.Booting u) {d : TableData} (habsent : u.tables.data? d.table = none) : s.Booting (u.takeContents d) := by
  cases d with
  | station st => exact h.takes_station st
  | gates l => exact h.takes_gates (Option.map_eq_none_iff.1 habsent) l
  | channels l => exact h.takes_channels (Option.map_eq_none_iff.1 habsent) l
  | accept l => exact h.takes_accept l
  | reach x => exact h.takes_reach x
  | groups | conditions | curve | ramp | flood | fill => exact h.of_reads ⟨rfl, rfl, rfl, rfl, rfl, rfl⟩

/-- A table that was not VALID set INVALID. -/
theorem invalid (h : s.Booting u) {id : TableId} (habsent : u.tables.data? id = none) :
    s.Booting { u with tables := u.tables.setInvalid id } := by
  refine h.of_reads ?_
  have hnone {α : Type} {slot : TableSlot α} {f : α → TableData} (hs : slot.get?.map f = none) : (TableSlot.invalid : TableSlot α).get? = slot.get? :=
    (Option.map_eq_none_iff.1 hs).symm
  cases id with
  | station => exact ⟨hnone habsent, rfl, rfl, rfl, rfl, rfl⟩
  | gates => exact ⟨rfl, hnone habsent, rfl, rfl, rfl, rfl⟩
  | channels => exact ⟨rfl, rfl, hnone habsent, rfl, rfl, rfl⟩
  | accept => exact ⟨rfl, rfl, rfl, hnone habsent, rfl, rfl⟩
  | reach => exact ⟨rfl, rfl, rfl, rfl, hnone habsent, rfl⟩
  | groups | conditions | curve | ramp | flood | fill => exact ⟨rfl, rfl, rfl, rfl, rfl, rfl⟩

end State.Booting

end Sys2Proof.Machine
end

section
/-! PROOFS. The boot read as a whole (O4). -/

namespace Sys2Proof.Machine

/-! ## The outcomes, table by table -/

theorem allTables_getElem_index (id : TableId) : allTables[id.index.val]? = some id := by
  cases id with
  | curve k => revert k; decide
  | _ => rfl

theorem allTables_nodup : allTables.Nodup := by decide

theorem allTables_index {n : Nat} {id : TableId} (h : allTables[n]? = some id) : n = id.index.val := by
  have hn : n < allTables.length := (List.getElem?_eq_some_iff.1 h).1
  exact (List.getElem?_inj hn allTables_nodup).1 (h.trans (allTables_getElem_index id).symm)

theorem mem_bootPairs {outcomes : List BootOutcome} {id : TableId} {o : BootOutcome} :
    (id, o) ∈ bootPairs outcomes ↔ outcomes[id.index.val]? = some o := by
  rw [bootPairs, List.mem_iff_getElem?]
  constructor
  · rintro ⟨n, hn⟩
    obtain ⟨hid, ho⟩ := List.getElem?_zip_eq_some.1 hn
    rwa [← allTables_index hid]
  · intro ho
    exact ⟨id.index.val, List.getElem?_zip_eq_some.2 ⟨allTables_getElem_index id, ho⟩⟩

theorem bootPairs_fst {outcomes : List BootOutcome} (h : outcomes.length = 18) : (bootPairs outcomes).map (·.1) = allTables :=
  List.map_fst_zip (by rw [h]; decide)

/-! ## Conditions (R169) -/

section
variable (s : State)

theorem State.raiseBad_frame (l : List (TableId × BootOutcome)) : s.raiseBad l = { s with desk := (s.raiseBad l).desk } := by
  unfold State.raiseBad
  refine foldl_keeps (fun t : State => t = { s with desk := t.desk }) _ (fun t p ht => ?_) _ _ rfl
  split
  · rw [ht]
    rfl
  · exact ht
  · exact ht

theorem State.raise_loadFailed_ne {id id' : TableId} (h : id ≠ id') :
    (s.raise (.loadFailed id')).desk.record (.loadFailed id) = s.desk.record (.loadFailed id) :=
  Desk.raise_record_ne _ _ (fun hc => h (Cond.loadFailed.inj hc)) (by simp)

theorem State.raiseBad_record {l : List (TableId × BootOutcome)} {id : TableId} (h : (id, .invalid) ∉ l) :
    (s.raiseBad l).desk.record (.loadFailed id) = s.desk.record (.loadFailed id) := by
  induction l generalizing s with
  | nil => rfl
  | cons p r ih =>
    rw [List.mem_cons, not_or] at h
    obtain ⟨hp, hr⟩ := h
    refine (ih _ hr).trans ?_
    obtain ⟨id', o⟩ := p
    cases o with
    | invalid => exact s.raise_loadFailed_ne (fun he => hp (by rw [he]))
    | absent | valid => rfl

theorem State.raiseBad_raised {l : List (TableId × BootOutcome)} {id : TableId} (h : (id, .invalid) ∈ l) :
    (s.raiseBad l).Raised (.loadFailed id) := by
  have kept (l : List (TableId × BootOutcome)) (u : State) (hu : u.Raised (.loadFailed id)) : (u.raiseBad l).Raised (.loadFailed id) := by
    unfold State.raiseBad
    refine foldl_keeps (State.Raised · (.loadFailed id)) _ (fun t p ht => ?_) _ _ hu
    split
    · exact State.raised_raise_of_raised (by simp) ht
    · exact ht
    · exact ht
  induction l generalizing s with
  | nil => cases h
  | cons p r ih =>
    obtain rfl | hr := List.mem_cons.1 h
    · exact kept r _ (State.raised_raise ..)
    · exact ih _ hr

/-! ## Tables (R169) -/

/-- One table takes its outcome. -/
def Tables.takeOutcome (t : Tables) (p : TableId × BootOutcome) : Tables :=
  match p.2 with
  | .invalid => t.setInvalid p.1
  | .valid d => t.setContents d
  | .absent => t

theorem State.takeOutcomes_tables (l : List (TableId × BootOutcome)) :
    (s.takeOutcomes l).tables = l.foldl Tables.takeOutcome s.tables :=
  (List.foldl_hom State.tables (g₂ := Tables.takeOutcome) fun u p => by
    obtain ⟨id, o⟩ := p
    cases o with
    | invalid | absent => rfl
    | valid d => exact (State.takeContents_tables ..).symm).symm

theorem State.takeOutcomes_desk (l : List (TableId × BootOutcome)) : (s.takeOutcomes l).desk = s.desk := by
  unfold State.takeOutcomes
  refine foldl_keeps (fun t : State => t.desk = s.desk) _ (fun t p ht => ?_) _ _ rfl
  split
  · exact ht
  · exact (State.ownerTakes_desk_load ..).1.trans ht
  · exact ht

end

section
variable {t : Tables}

/-- Two tables agree about a table. -/
def Tables.AgreeOn (t u : Tables) (id : TableId) : Prop := u.stateCode id = t.stateCode id ∧ u.data? id = t.data? id

theorem Tables.setInvalid_agree {id id' : TableId} (h : id ≠ id') : t.AgreeOn (t.setInvalid id') id := by
  cases id' with
  | curve k' =>
    cases id with
    | curve k =>
      have hk : k'.val ≠ k.val := fun he => h (congrArg TableId.curve (Fin.ext he.symm))
      simp [Tables.AgreeOn, Tables.setInvalid, Tables.stateCode, Tables.data?, hk]
    | _ => exact ⟨rfl, rfl⟩
  | _ =>
    cases id
    all_goals first
      | exact ⟨rfl, rfl⟩
      | exact absurd rfl h

theorem Tables.setContents_agree {id : TableId} {d : TableData} (h : id ≠ d.table) : t.AgreeOn (t.setContents d) id := by
  cases d with
  | curve k' x =>
    cases id with
    | curve k =>
      have hk : k'.val ≠ k.val := fun he => h (congrArg TableId.curve (Fin.ext he.symm))
      simp [Tables.AgreeOn, Tables.setContents, Tables.stateCode, Tables.data?, hk]
    | _ => exact ⟨rfl, rfl⟩
  | _ =>
    cases id
    all_goals first
      | exact ⟨rfl, rfl⟩
      | exact absurd rfl h

theorem Tables.setInvalid_code (id : TableId) : (t.setInvalid id).stateCode id = 3 := by
  cases id with
  | curve k => simp [Tables.setInvalid, Tables.stateCode, TableSlot.code]
  | _ => rfl

theorem Tables.setContents_data (d : TableData) : (t.setContents d).data? d.table = some d := by
  cases d with
  | curve k x => simp [Tables.setContents, Tables.data?, TableData.table, TableSlot.get?]
  | _ => rfl

end

/-! ## The fold over the tables -/

/-- What a table holds after its outcome. -/
def Tables.HoldsOutcome (t : Tables) (p : TableId × BootOutcome) : Prop :=
  match p.2 with
  | .absent => t.stateCode p.1 = 0
  | .invalid => t.stateCode p.1 = 3
  | .valid d => t.data? p.1 = some d

/-- The outcomes of a boot read name each table once, and contents go with their own table. -/
structure GoodOutcomes (l : List (TableId × BootOutcome)) : Prop where
  nodup : (l.map (·.1)).Nodup
  own : ∀ p ∈ l, ∀ d, p.2 = .valid d → d.table = p.1

theorem GoodOutcomes.tail {p : TableId × BootOutcome} {r : List (TableId × BootOutcome)} (h : GoodOutcomes (p :: r)) :
    GoodOutcomes r ∧ p.1 ∉ r.map (·.1) ∧ ∀ d, p.2 = .valid d → d.table = p.1 := by
  obtain ⟨hnodup, hown⟩ := h
  obtain ⟨hp, hr⟩ := List.nodup_cons.1 hnodup
  exact ⟨⟨hr, fun q hq => hown q (List.mem_cons_of_mem _ hq)⟩, hp, hown p List.mem_cons_self⟩

theorem Tables.takeOutcome_agree {t : Tables} {p : TableId × BootOutcome} (hd : ∀ d, p.2 = .valid d → d.table = p.1) {id : TableId}
    (h : id ≠ p.1) : t.AgreeOn (t.takeOutcome p) id := by
  obtain ⟨id', o⟩ := p
  cases o with
  | absent => exact ⟨rfl, rfl⟩
  | invalid => exact Tables.setInvalid_agree h
  | valid d => exact Tables.setContents_agree (by rwa [hd d rfl])

theorem Tables.foldl_takeOutcome_agree {l : List (TableId × BootOutcome)} (hl : GoodOutcomes l) (t : Tables) {id : TableId}
    (h : id ∉ l.map (·.1)) : t.AgreeOn (l.foldl Tables.takeOutcome t) id := by
  induction l generalizing t with
  | nil => exact ⟨rfl, rfl⟩
  | cons p r ih =>
    obtain ⟨hr, -, hown⟩ := hl.tail
    rw [List.map_cons, List.mem_cons, not_or] at h
    obtain ⟨hp, hrest⟩ := h
    obtain ⟨hcode, hdata⟩ := ih hr (t.takeOutcome p) hrest
    obtain ⟨hcode', hdata'⟩ := Tables.takeOutcome_agree (t := t) hown hp
    exact ⟨hcode.trans hcode', hdata.trans hdata'⟩

theorem Tables.foldl_takeOutcome_holds {l : List (TableId × BootOutcome)} (hl : GoodOutcomes l) (t : Tables)
    (ht : ∀ p ∈ l, t.stateCode p.1 = 0) : ∀ p ∈ l, (l.foldl Tables.takeOutcome t).HoldsOutcome p := by
  induction l generalizing t with
  | nil => exact fun p hp => absurd hp List.not_mem_nil
  | cons p r ih =>
    obtain ⟨hr, hp, hown⟩ := hl.tail
    have hrest (q : TableId × BootOutcome) (hq : q ∈ r) : q.1 ≠ p.1 := fun he => hp (he ▸ List.mem_map_of_mem hq)
    intro q hq
    obtain rfl | hq := List.mem_cons.1 hq
    · obtain ⟨hcode, hdata⟩ := Tables.foldl_takeOutcome_agree hr (t.takeOutcome q) hp
      have habsent := ht q List.mem_cons_self
      obtain ⟨id, o⟩ := q
      cases o with
      | absent => exact hcode.trans habsent
      | invalid => exact hcode.trans (Tables.setInvalid_code _)
      | valid d =>
        have hid : d.table = id := hown d rfl
        subst hid
        exact hdata.trans (Tables.setContents_data _)
    · refine ih hr _ (fun q' hq' => ?_) q hq
      exact (Tables.takeOutcome_agree hown (hrest q' hq')).1.trans (ht q' (List.mem_cons_of_mem _ hq'))

theorem Tables.data_of_code_zero {t : Tables} {id : TableId} (h : t.stateCode id = 0) : t.data? id = none := by
  have hget {α : Type} {slot : TableSlot α} (hs : slot.code = 0) : slot.get? = none := by
    cases slot with
    | valid => cases hs
    | absent | loading | invalid => rfl
  cases id <;> exact Option.map_eq_none_iff.2 (hget h)

theorem State.Booting.takeOutcomes {s u : State} {l : List (TableId × BootOutcome)} (h : s.Booting u) (hl : GoodOutcomes l)
    (ht : ∀ p ∈ l, u.tables.stateCode p.1 = 0) : s.Booting (u.takeOutcomes l) := by
  induction l generalizing u with
  | nil => exact h
  | cons p r ih =>
    obtain ⟨hr, hp, hown⟩ := hl.tail
    have hnone := Tables.data_of_code_zero (ht p List.mem_cons_self)
    have hrest (q : TableId × BootOutcome) (hq : q ∈ r) : (u.tables.takeOutcome p).stateCode q.1 = 0 := by
      have hne : q.1 ≠ p.1 := fun he => hp (he ▸ List.mem_map_of_mem hq)
      exact (Tables.takeOutcome_agree hown hne).1.trans (ht q (List.mem_cons_of_mem _ hq))
    obtain ⟨id, o⟩ := p
    cases o with
    | absent => exact ih h hr hrest
    | invalid => exact ih (h.invalid hnone) hr hrest
    | valid d =>
      have hid : d.table = id := hown d rfl
      subst hid
      refine ih (h.takes hnone) hr fun q hq => ?_
      rw [State.takeContents_tables]
      exact hrest q hq

end Sys2Proof.Machine
end

section
/-! PROOFS. The start decided after the boot read (O4). -/

namespace Sys2Proof.Machine

/-! ## What the decided start keeps -/

/-- The start decided at `v` keeps the watches, the UNSEEN gates, the records of LOAD_FAILED and the start source. -/
structure State.Decided (v t : State) : Prop where
  watches : v.SameWatches t
  unseen : ∀ i, (v.gate i).state = .unseen → (t.gate i).state = .unseen ∧ (t.gate i).stateTimer = (v.gate i).stateTimer
  loadFailed : ∀ id, t.desk.record (.loadFailed id) = v.desk.record (.loadFailed id)
  source : t.mdc.source = v.mdc.source

theorem State.Decided.trans {a b c : State} (hab : a.Decided b) (hbc : b.Decided c) : a.Decided c where
  watches := hab.watches.trans hbc.watches
  unseen i hi := by
    obtain ⟨hstate, htimer⟩ := hab.unseen i hi
    obtain ⟨hstate', htimer'⟩ := hbc.unseen i hstate
    exact ⟨hstate', htimer'.trans htimer⟩
  loadFailed id := (hbc.loadFailed id).trans (hab.loadFailed id)
  source := hbc.source.trans hab.source

section
variable (v : State)

theorem State.decided_of_mdc (m : Mdc) (h : m.source = v.mdc.source) : v.Decided { v with mdc := m } :=
  ⟨.of_eq, fun _ hi => ⟨hi, rfl⟩, fun _ => rfl, h⟩

theorem State.raise_decided {c : Cond} (h : ∀ id, c ≠ .loadFailed id) : v.Decided (v.raise c) :=
  ⟨.of_eq, fun _ hi => ⟨hi, rfl⟩, fun id => Desk.raise_record_ne _ _ (h id).symm (by simp), rfl⟩

theorem loadFailed_not_configCleared (id : TableId) : Cond.loadFailed id ∉ configCleared := by
  simp [configCleared]

variable {v} in
theorem State.enterConfig_decided (h : v.tables.readyShadows = []) : v.Decided v.enterConfig where
  watches := State.enterConfig_sameWatches h
  unseen _ hi := v.enterConfig_unseen hi
  loadFailed id := State.enterConfig_record (loadFailed_not_configCleared id)
  source := by rw [State.enterConfig_mdc]; rfl

/-- An entry to GOVERN leaves every record but those of CONTROL_SILENT, HEAD_HIGH and GATE_RUNAWAY, and of a lost notice. -/
theorem State.enterGovern_record {c : Cond} (hsilent : c ≠ .controlSilent) (hhigh : c ≠ .headHigh) (hlost : c ≠ .noticeLost)
    (hrunaway : ∀ i, c ≠ .gateRunaway i) : v.enterGovern.desk.record c = v.desk.record c := by
  obtain ⟨-, hflood, hdry⟩ := v.governing_lvu_desk
  refine (v.enterGovern_clearsRunaway.2 _ hrunaway).trans ?_
  have hcleared : (v.desk.clear .controlSilent).record c = v.desk.record c := Desk.clear_record_ne _ hsilent
  by_cases h : v.floodsAt (v.evaluatedAtEntry v.mdc.mode.starts)
  · rw [hflood h]
    exact (Desk.raise_record_ne _ _ hhigh hlost).trans hcleared
  · obtain hd | hd := hdry h <;> rw [hd]
    · exact hcleared
    · exact (Desk.clear_record_ne _ hhigh).trans hcleared

theorem State.enterGovern_decided : v.Decided v.enterGovern where
  watches := v.enterGovern_sameWatches
  unseen _ hi := v.enterGovern_unseen hi
  loadFailed _ := v.enterGovern_record (by simp) (by simp) (by simp) (by simp)
  source := by rw [v.enterGovern_entersGovern.1]

variable {v} in
theorem State.failStartWait_decided (h : v.tables.readyShadows = []) : v.Decided v.failStartWait :=
  ((v.decided_of_mdc { v.mdc with phase := none, startWait := none } rfl).trans
    (State.raise_decided _ (c := .levelLost) (fun _ => nofun))).trans (State.enterConfig_decided h)

variable {v} in
theorem State.decideStart_decided (h : v.tables.readyShadows = []) : v.Decided v.decideStart := by
  by_cases hs : v.mdc.source = .flashAuto
  · cases hc : v.tables.entryCheck with
    | some r =>
      rw [State.decideStart_check hs hc]
      have hreason := v.decided_of_mdc { v.mdc with startReason := some r } rfl
      exact hreason.trans (State.enterConfig_decided (v := { v with mdc := { v.mdc with startReason := some r } }) h)
    | none =>
      cases hw : v.lvu.headwater with
      | some level =>
        rw [State.decideStart_governs hs hc hw]
        exact v.enterGovern_decided
      | none =>
        by_cases ht : v.tables.stationOr.seenTimeout = 0
        · rw [State.decideStart_fails hs hc hw ht]
          exact State.failStartWait_decided h
        · rw [State.decideStart_waits hs hc hw ht]
          exact v.decided_of_mdc _ rfl
  · rw [State.decideStart_held hs]
    exact State.enterConfig_decided h

end

/-! ## The boot read (R169) -/

section
variable {s : State}

theorem execFlashReadCompletion_next {b : BootRead} (h : b.slot.val + 1 < 18) (hb : s.boot = some b) :
    execFlashReadCompletion s = .next { s with
      boot := some
        { slot := ⟨b.slot.val + 1, h⟩, outcomes := b.outcomes ++ [judgeSlot (TableId.ofIndex b.slot) s.flash[b.slot]] } } := by
  unfold execFlashReadCompletion
  rw [hb]
  exact dif_pos h

theorem execFlashReadCompletion_last {l : List BootOutcome} (hb : s.boot = some { slot := 17, outcomes := l }) :
    execFlashReadCompletion s = .next (s.endBootRead (l ++ [judgeSlot .fill s.flash[(17 : Fin 18)]])) := by
  unfold execFlashReadCompletion
  rw [hb]
  exact dif_neg (show ¬(17 : Fin 18).val + 1 < 18 by decide)

theorem State.booting_of_empty (h : s.tables = {}) (d : Desk) : s.Booting { s with desk := d } where
  now := rfl
  mdc := rfl
  flash := rfl
  headwater := rfl
  tailSource := rfl
  shadows := by rw [h]; rfl
  gates i := by
    refine (if_neg fun hi => ?_).symm
    have hcfg : s.tables.gateCfg i = {} := by rw [h]; rfl
    exact Bool.false_ne_true (show ({} : GateCfg).inService = true from hcfg ▸ hi.1)
  channels c := by
    refine (if_pos ?_).symm
    show (s.tables.channelCfg c).role = .unused
    rw [h]
    rfl
  validSince hv := absurd (by rw [h]; rfl) hv
  tailwater st hst := by rw [h] at hst; cases hst
  portU st hst := by rw [h] at hst; cases hst
  portD st hst := by rw [h] at hst; cases hst
  forecast hv := absurd (by rw [h]; rfl) hv
  source := id
  upstream r hr := by rw [h] at hr; cases hr
  own hv := by
    have hinvalid : s.tables.accept.active.isValid = false := by rw [h]; rfl
    exact absurd (hinvalid.symm.trans hv) Bool.false_ne_true

theorem State.endBootRead_absent {outcomes : List BootOutcome} (h : ∀ o ∈ outcomes, o = .absent) :
    s.endBootRead outcomes = State.decideStart { s with boot := none, mdc := { s.mdc with phase := none } } := by
  have hpairs (p : TableId × BootOutcome) (hp : p ∈ bootPairs outcomes) : p.2 = .absent := h _ (List.of_mem_zip hp).2
  have raised (l : List (TableId × BootOutcome)) (hl : ∀ p ∈ l, p.2 = .absent) : s.raiseBad l = s := by
    unfold State.raiseBad
    refine List.foldlRecOn (motive := (· = s)) l _ rfl fun t ht p hp => ?_
    rw [hl p hp]
    exact ht
  have taken (l : List (TableId × BootOutcome)) (hl : ∀ p ∈ l, p.2 = .absent) : s.takeOutcomes l = s := by
    unfold State.takeOutcomes
    refine List.foldlRecOn (motive := (· = s)) l _ rfl fun t ht p hp => ?_
    rw [hl p hp]
    exact ht
  unfold State.endBootRead
  dsimp only
  rw [raised _ hpairs, taken _ hpairs]

end

/-! ## The boot read completed -/

section
variable (s : State) (outcomes : List BootOutcome)

/-- The state in which the start is decided. -/
def State.bootRead : State :=
  let w := (s.raiseBad (bootPairs outcomes)).takeOutcomes (bootPairs outcomes)
  { w with boot := none, mdc := { w.mdc with phase := none } }

theorem State.endBootRead_eq : s.endBootRead outcomes = (s.bootRead outcomes).decideStart := rfl

variable {s outcomes} (htables : s.tables = {}) (hlength : outcomes.length = 18)
  (hown : ∀ (id : TableId) (d : TableData), outcomes[id.index.val]? = some (.valid d) → d.table = id)
include htables hlength hown

omit htables in
theorem goodOutcomes : GoodOutcomes (bootPairs outcomes) where
  nodup := by
    rw [bootPairs_fst hlength]
    exact allTables_nodup
  own p hp d hd := hown p.1 d (mem_bootPairs.1 (by rw [← hd]; exact hp))

theorem State.bootRead_booting :
    s.Booting ((s.raiseBad (bootPairs outcomes)).takeOutcomes (bootPairs outcomes)) := by
  have hraised : s.Booting (s.raiseBad (bootPairs outcomes)) := by
    rw [State.raiseBad_frame]
    exact State.booting_of_empty htables _
  refine hraised.takeOutcomes (goodOutcomes hlength hown) fun p _ => ?_
  rw [State.raiseBad_frame, htables]
  cases p.1 with
  | curve k => revert k; decide
  | _ => rfl

theorem State.bootRead_holds {id : TableId} {o : BootOutcome} (ho : outcomes[id.index.val]? = some o) :
    (s.bootRead outcomes).tables.HoldsOutcome (id, o) := by
  have hmem := mem_bootPairs.2 ho
  have hkept : (s.raiseBad (bootPairs outcomes)).tables = s.tables := by rw [State.raiseBad_frame]
  show ((s.raiseBad (bootPairs outcomes)).takeOutcomes (bootPairs outcomes)).tables.HoldsOutcome (id, o)
  rw [State.takeOutcomes_tables, hkept]
  refine Tables.foldl_takeOutcome_holds (goodOutcomes hlength hown) s.tables (fun p _ => ?_) _ hmem
  rw [htables]
  cases p.1 with
  | curve k => revert k; decide
  | _ => rfl

omit htables hlength hown in
theorem State.bootRead_desk : (s.bootRead outcomes).desk = (s.raiseBad (bootPairs outcomes)).desk := State.takeOutcomes_desk ..

omit htables hlength hown in
/-- LOAD_FAILED after the boot read. -/
theorem State.bootRead_loadFailed (id : TableId) :
    (outcomes[id.index.val]? = some .invalid → (s.bootRead outcomes).Raised (.loadFailed id)) ∧
    (outcomes[id.index.val]? ≠ some .invalid → (s.bootRead outcomes).desk.record (.loadFailed id) = s.desk.record (.loadFailed id)) := by
  refine ⟨fun h => ?_, fun h => ?_⟩
  · rw [State.Raised, State.active, State.latched, State.bootRead_desk]
    exact s.raiseBad_raised (mem_bootPairs.2 h)
  · rw [State.bootRead_desk]
    exact s.raiseBad_record (fun hmem => h (mem_bootPairs.1 hmem))

end

/-- The mode after a start decided by the tables and the headwater held (R124, R125). -/
theorem State.decideStart_modes_of_headwater (v : State) :
    (v.mdc.source ≠ .flashAuto → v.decideStart.mdc.mode = .config ∧ v.decideStart.mdc.phase = none) ∧
    (v.mdc.source = .flashAuto →
      (∀ r, v.tables.entryCheck = some r →
        v.decideStart.mdc.mode = .config ∧ v.decideStart.mdc.phase = none ∧ v.decideStart.mdc.startReason = some r) ∧
      (v.tables.entryCheck = none → v.lvu.headwater ≠ none → v.decideStart.mdc.mode = .govern ∧ v.decideStart.mdc.phase = none) ∧
      (v.tables.entryCheck = none → v.lvu.headwater = none →
        (v.tables.stationOr.seenTimeout = 0 →
          v.decideStart.mdc.mode = .config ∧ v.decideStart.mdc.phase = none ∧ v.decideStart.Raised .levelLost) ∧
        (0 < v.tables.stationOr.seenTimeout → v.decideStart.mdc = { v.mdc with
          phase := some .startWait, startWait := some (v.now + v.tables.stationOr.seenTimeout) }))) := by
  refine ⟨fun hs => ?_, fun hs => ⟨fun r hc => ?_, fun hc hw => ?_, fun hc hw => ⟨fun ht => ?_, fun ht => ?_⟩⟩⟩
  · rw [State.decideStart_held hs, State.enterConfig_mdc]
    exact ⟨rfl, rfl⟩
  · rw [State.decideStart_check hs hc, State.enterConfig_mdc]
    exact ⟨rfl, rfl, rfl⟩
  · obtain ⟨level, hlevel⟩ := Option.ne_none_iff_exists'.1 hw
    rw [State.decideStart_governs hs hc hlevel, v.enterGovern_entersGovern.1]
    exact ⟨rfl, rfl⟩
  · rw [State.decideStart_fails hs hc hw ht]
    refine ⟨?_, ?_, v.failStartWait_levelLost⟩ <;> rw [State.failStartWait_mdc]
  · rw [State.decideStart_waits hs hc hw (Nat.ne_of_gt ht)]

theorem judgeSlot_table {id : TableId} {f : FlashSlot} {d : TableData} (h : judgeSlot id f = .valid d) : d.table = id := by
  unfold judgeSlot at h
  cases f with
  | torn => cases h
  | holds b =>
    dsimp only at h
    split at h
    · cases h
    · split at h
      · cases h
      · split at h
        · cases h
        · split at h
          · cases h
          · split at h
            next hd =>
              obtain rfl := BootOutcome.valid.inj h
              exact parseTable_table hd
            next => cases h

theorem TableId.index_eq_last {id : TableId} (h : 17 ≤ id.index.val) : id = .fill := by
  cases id with
  | fill => rfl
  | curve k => revert k; decide
  | _ => exact absurd h (by decide)

/-- Settles O4: the slots one by one; then the outcomes in the order of the tables, and the start decided. -/
theorem bootReadsJudgeEverySlot : Obligations.BootReadsJudgeEverySlot := by
  refine ⟨fun s b h hb => execFlashReadCompletion_next h hb, fun s hb hfill htables hs => ?_, fun s l hb hl htables hparse => ?_⟩
  · have habsent : ∀ o ∈ List.replicate 17 BootOutcome.absent ++ [judgeSlot .fill s.flash[(17 : Fin 18)]], o = .absent := by
      rw [hfill]
      decide
    have hexec := (execFlashReadCompletion_last hb).trans (congrArg _ (State.endBootRead_absent habsent))
    let v : State := { s with boot := none, mdc := { s.mdc with phase := none } }
    have hdecided : v.Decided v.decideStart := State.decideStart_decided (by rw [show v.tables = {} from htables]; rfl)
    have hcheck : v.tables.entryCheck = some (.table .station) := by
      rw [show v.tables = {} from htables]
      decide
    obtain ⟨hheld, hauto⟩ := v.decideStart_modes_of_headwater
    have hconfig : v.decideStart.mdc.mode = .config ∧ v.decideStart.mdc.phase = none := by
      by_cases hsource : v.mdc.source = .flashAuto
      · obtain ⟨hmode, hphase, -⟩ := (hauto hsource).1 _ hcheck
        exact ⟨hmode, hphase⟩
      · exact hheld hsource
    exact ⟨_, hexec, hdecided.watches.tables.trans htables, hdecided.watches.boot, hdecided.watches.flash, hconfig.1, hconfig.2,
      hdecided.source, fun hsource => ((hauto hsource).1 _ hcheck).2.2⟩
  · intro found
    have hlength : (l ++ [judgeSlot .fill s.flash[(17 : Fin 18)]]).length = 18 := by rw [List.length_append, hl]; rfl
    have hown : ∀ (id : TableId) (d : TableData),
        (l ++ [judgeSlot .fill s.flash[(17 : Fin 18)]])[id.index.val]? = some (.valid d) → d.table = id := by
      intro id d hd
      by_cases hid : id.index.val < 17
      · rw [List.getElem?_append_left (by rw [hl]; exact hid)] at hd
        obtain ⟨b, hb⟩ := hparse id d hd
        exact parseTable_table hb
      · obtain rfl := TableId.index_eq_last (Nat.le_of_not_lt hid)
        rw [List.getElem?_append_right (by rw [hl]; decide), hl] at hd
        exact judgeSlot_table (Option.some.inj hd)
    have hexec := execFlashReadCompletion_last hb
    rw [State.endBootRead_eq] at hexec
    have hbooting := State.bootRead_booting htables hlength hown
    have hholds {id : TableId} {o : BootOutcome} := State.bootRead_holds (id := id) (o := o) htables hlength hown
    have hfailed := State.bootRead_loadFailed (s := s) (outcomes := l ++ [judgeSlot .fill s.flash[(17 : Fin 18)]])
    have hmodes := (s.bootRead (l ++ [judgeSlot .fill s.flash[(17 : Fin 18)]])).decideStart_modes_of_headwater
    have hv : s.bootRead (l ++ [judgeSlot .fill s.flash[(17 : Fin 18)]]) = { (s.raiseBad (bootPairs (l ++
        [judgeSlot .fill s.flash[(17 : Fin 18)]]))).takeOutcomes (bootPairs (l ++ [judgeSlot .fill s.flash[(17 : Fin 18)]])) with
      boot := none, mdc := { s.mdc with phase := none } } := by
      rw [State.bootRead, hbooting.mdc]
    generalize (s.raiseBad (bootPairs (l ++ [judgeSlot .fill s.flash[(17 : Fin 18)]]))).takeOutcomes (bootPairs (l ++
      [judgeSlot .fill s.flash[(17 : Fin 18)]])) = w at hbooting hv
    generalize s.bootRead (l ++ [judgeSlot .fill s.flash[(17 : Fin 18)]]) = v at hexec hholds hfailed hmodes hv
    have hdecided : v.Decided v.decideStart := State.decideStart_decided (by rw [hv]; exact hbooting.shadows)
    generalize v.decideStart = t at hexec hmodes hdecided
    have hwatches := hdecided.watches
    have htabs := hwatches.tables
    have hsource : v.mdc.source = s.mdc.source := by rw [hv]
    have hpresent (p : ReachSide) : t.portPresent p = w.portPresent p := State.portPresent_of_station_eq (by rw [htabs, hv]) p
    have hstation (st : Station) (hst : t.tables.station = .valid st) : w.tables.station.get? = some st := by
      have hsame : w.tables = t.tables := by rw [htabs, hv]
      rw [hsame, hst]
      rfl
    rw [hsource, ← htabs] at hmodes
    have hvw : v.lvu.headwater = s.lvu.headwater ∧ v.now = s.now ∧ v.mdc = { s.mdc with phase := none } := by
      rw [hv]
      exact ⟨hbooting.headwater, hbooting.now, rfl⟩
    obtain ⟨hheadwater, hnow, hmdc⟩ := hvw
    rw [hheadwater, hnow, hmdc] at hmodes
    obtain ⟨hheld, hauto⟩ := hmodes
    refine ⟨t, hexec, ?_, ?_, hdecided.source.trans hsource, fun id ho => ?_, fun id ho => ⟨?_, ?_⟩, fun id ho => ?_, fun id d ho => ?_, hheld, hauto,
      fun i hi hu => ?_, fun c => ?_, fun st hst => ⟨?_, fun hd => ?_, fun hp => ?_, fun hp => ?_, fun hp => ?_⟩, fun r hr hs => ?_, fun hvalid => ?_⟩
    · rw [hwatches.boot, hv]
    · rw [hwatches.flash, hv]
      exact hbooting.flash
    · rw [htabs]
      exact hholds ho
    · rw [htabs]
      exact hholds ho
    · rw [State.Raised, State.active, State.latched, hdecided.loadFailed]
      exact (hfailed id).1 ho
    · exact (hdecided.loadFailed id).trans ((hfailed id).2 ho)
    · rw [htabs]
      exact hholds ho
    · have hcfg : t.cfg i = w.cfg i := by rw [State.cfg, htabs, hv]
      have hgate : v.gate i = { s.gate i with stateTimer := w.tables.station.get?.map (fun st => s.now + st.seenTimeout) } := by
        rw [hv]
        exact (hbooting.gates i).trans (if_pos ⟨by rw [← hcfg]; exact hi, hu⟩)
      obtain ⟨hstate, htimer⟩ := hdecided.unseen i (by rw [hgate]; exact hu)
      refine ⟨hstate, htimer.trans ?_⟩
      rw [hgate, htabs, hv]
    · have hchannel : t.lvu.channels[c] = w.channel c := by rw [hwatches.channels, hv]; rfl
      have htw : t.tables = w.tables := by rw [htabs, hv]
      rw [hchannel, hbooting.channels c, htw]
      rfl
    · rw [hwatches.validSince, hv]
      exact hbooting.validSince (by rw [hstation st hst]; exact nofun)
    · rw [hwatches.tailwater, hv]
      exact hbooting.tailwater st (hstation st hst) hd
    · have hstarted := hbooting.portU st (hstation st hst) (by rw [← hpresent]; exact hp)
      rw [hwatches.portU.1, hwatches.portU.2, hv]
      exact hstarted
    · have hstarted := hbooting.portD st (hstation st hst) (by rw [← hpresent]; exact hp)
      rw [hwatches.portD.1, hwatches.portD.2, hv]
      exact hstarted
    · have hforecast := hbooting.forecast (by rw [hstation st hst]; exact nofun) (by rw [← hpresent]; exact hp)
      rw [hwatches.queue, hwatches.forecast, hwatches.source, hwatches.upstream, htabs, hv]
      exact hforecast
    · have htw : t.tables = w.tables := by rw [htabs, hv]
      rw [htw] at hr
      rw [hwatches.upstream, hv]
      exact hbooting.upstream r (by rw [hr]; rfl) (hbooting.source hs)
    · refine hwatches.current (fun hvalid' => ?_) hvalid
      rw [hv] at hvalid' ⊢
      exact hbooting.own hvalid'

end Sys2Proof.Machine
end

section
/-! PROOFS. Derived levels: the median (O9). -/

namespace Sys2Proof.Machine

theorem sortValues_perm (l : List Nat) : (sortValues l).Perm l := by
  induction l with
  | nil => exact .refl _
  | cons a r ih => exact (insertSorted_perm a _).trans (ih.cons a)

theorem sortValues_sorted (l : List Nat) : (sortValues l).Pairwise (· ≤ ·) := by
  induction l with
  | nil => exact .nil
  | cons a r ih => exact insertSorted_sorted a ih

theorem sortValues_length (l : List Nat) : (sortValues l).length = l.length := (sortValues_perm l).length_eq

theorem median_eq (l : List Nat) : median l =
    if l.length = 0 then none
    else if l.length % 2 = 1 then some ((sortValues l).getD (l.length / 2) 0)
    else some (((sortValues l).getD (l.length / 2 - 1) 0 + (sortValues l).getD (l.length / 2) 0) / 2) := by
  unfold median
  dsimp only
  rw [sortValues_length]

theorem median_odd {l : List Nat} {n : Nat} (h : l.length = 2 * n + 1) : median l = (sortValues l)[n]? := by
  have hn : n < (sortValues l).length := by rw [sortValues_length]; omega
  have hmiddle : l.length / 2 = n := by omega
  rw [median_eq, if_neg (by omega), if_pos (by omega), hmiddle, List.getD_eq_getElem _ _ hn, List.getElem?_eq_getElem hn]

theorem median_even {l : List Nat} {n a b : Nat} (h : l.length = 2 * n + 2) (ha : (sortValues l)[n]? = some a)
    (hb : (sortValues l)[n + 1]? = some b) : median l = some ((a + b) / 2) := by
  have hlower : l.length / 2 - 1 = n := by omega
  have hupper : l.length / 2 = n + 1 := by omega
  rw [median_eq, if_neg (by omega), if_neg (by omega), hlower, hupper, List.getD_eq_getElem?_getD, List.getD_eq_getElem?_getD, ha, hb]
  rfl

theorem median_eq_none {l : List Nat} : median l = none ↔ l = [] := by
  rw [median_eq, ← List.length_eq_zero_iff]
  split
  next h => exact ⟨fun _ => h, fun _ => rfl⟩
  next h => split <;> exact ⟨nofun, fun h' => absurd h' h⟩

/-- Settles O9. -/
theorem mediansAreMiddleValues : Obligations.MediansAreMiddleValues := fun l =>
  ⟨sortValues_perm l, sortValues_sorted l, median_eq_none, fun _ => median_odd, fun _ _ _ => median_even⟩

end Sys2Proof.Machine
end

section
/-! PROOFS. What a HEADWATER derivation does (O8). -/

namespace Sys2Proof.Machine

/-! ## Conditions of the levels -/

/-- A raise or a clear of one condition leaves the record of another. -/
theorem State.raise_record_ne (s : State) {c c' : Cond} (h : c' ≠ c) (hl : c' ≠ .noticeLost) :
    (s.raise c).desk.record c' = s.desk.record c' := Desk.raise_record_ne _ _ h hl

theorem State.clear_record_ne (s : State) {c c' : Cond} (h : c' ≠ c) : (s.clear c).desk.record c' = s.desk.record c' :=
  Desk.clear_record_ne _ h

theorem State.active_of_record {s t : State} {c : Cond} (h : t.desk.record c = s.desk.record c) : t.active c = s.active c :=
  congrArg CondRecord.active h

theorem State.raised_of_record {s t : State} {c : Cond} (h : t.desk.record c = s.desk.record c) (hr : s.Raised c) : t.Raised c :=
  ⟨(congrArg CondRecord.active h).trans hr.1, (congrArg CondRecord.latched h).trans hr.2⟩

section
variable (s : State) (h : Nat)

/-- HEAD_LOW is active exactly below the minimum operating level (R52). -/
theorem State.evaluateHeadLow_spec :
    s.evaluateHeadLow h = { s with desk := (s.evaluateHeadLow h).desk } ∧
    (s.tables.station.isValid = true → (s.evaluateHeadLow h).active .headLow = decide (h < s.tables.stationOr.minimumLevel)) ∧
    (∀ c, c ≠ .headLow → c ≠ .noticeLost → (s.evaluateHeadLow h).desk.record c = s.desk.record c) := by
  have hraised : (s.raise .headLow).active .headLow = true := (s.raised_raise .headLow).1
  have hcleared : (s.clear .headLow).active .headLow = false := s.active_clear .headLow
  have hraise (c : Cond) (hc : c ≠ .headLow) (hl : c ≠ .noticeLost) := s.raise_record_ne hc hl
  have hclear (c : Cond) (hc : c ≠ .headLow) := s.clear_record_ne hc
  unfold State.evaluateHeadLow TableSlot.isValid TableSlot.get? Tables.stationOr
  cases hs : s.tables.station with
  | valid st =>
    dsimp only
    by_cases hlow : h < st.minimumLevel
    · rw [if_pos hlow, decide_eq_true hlow]
      split
      next hactive => exact ⟨rfl, fun _ => hactive, fun _ _ _ => rfl⟩
      next => exact ⟨rfl, fun _ => hraised, hraise⟩
    · rw [if_neg hlow, decide_eq_false hlow]
      split
      next => exact ⟨rfl, fun _ => hcleared, fun c hc _ => hclear c hc⟩
      next hquiet => exact ⟨rfl, fun _ => Bool.eq_false_iff.2 hquiet, fun _ _ _ => rfl⟩
  | _ => exact ⟨rfl, nofun, fun _ _ _ => rfl⟩

/-- The regime evaluated: HEAD_HIGH is raised where a FLOOD begins and cleared where one ends (R51). -/
theorem State.evaluateRegime_spec :
    (s.lvu.regime = .normal → s.tables.stationOr.floodEntry ≤ h → (s.evaluateRegime h).Raised .headHigh) ∧
    (s.lvu.regime = .flood → h ≤ s.tables.stationOr.floodExit → (s.evaluateRegime h).active .headHigh = false) ∧
    (∀ c, c ≠ .headHigh → c ≠ .noticeLost → (s.evaluateRegime h).desk.record c = s.desk.record c) := by
  have hdesk := s.evaluateRegime_desk h
  cases hr : s.lvu.regime with
  | normal =>
    rw [hr] at hdesk
    refine ⟨fun _ he => ?_, nofun, fun c hc hl => ?_⟩
    · rw [State.Raised, State.active, State.latched, hdesk]
      simp only [if_pos he]
      exact s.raised_raise .headHigh
    · rw [hdesk]
      dsimp only
      split
      · exact s.raise_record_ne hc hl
      · rfl
  | flood =>
    rw [hr] at hdesk
    refine ⟨nofun, fun _ he => ?_, fun c hc hl => ?_⟩
    · rw [State.active, hdesk]
      simp only [if_pos he]
      exact s.active_clear .headHigh
    · rw [hdesk]
      dsimp only
      split
      · exact s.clear_record_ne hc
      · rfl

end

/-! ## The steps of a HEADWATER derivation (R48) -/

section
variable (s : State)

/-- The median of the usable HEADWATER channels taken. -/
def State.headwaterTaken : State := { s with
  lvu := Lvu.computeHead { s.lvu with
    headwater := median (s.usable .headwater)
    lastHeadwater := match median (s.usable .headwater) with | some h => some h | none => s.lvu.lastHeadwater } }

/-- Regime and low level evaluated at a valid headwater. -/
def State.levelsEvaluated (result : Option Nat) : State :=
  match result with
  | some h => State.evaluateHeadLow (if s.mdc.mode.supervised then s.evaluateRegime h else s) h
  | none => s

/-- A loss of headwater raised, its return cleared (R53). -/
def State.lossReported (before result : Option Nat) : State :=
  match before, result with
  | some _, none => if s.mdc.mode.supervised then s.raise .levelLost else s
  | none, some _ => s.clear .levelLost
  | _, _ => s

theorem State.updateHeadwater_eq : s.updateHeadwater = State.computeOwnAcceptance
    ((s.headwaterTaken.levelsEvaluated (median (s.usable .headwater))).lossReported s.lvu.headwater (median (s.usable .headwater))) := rfl

/-- The headwater at which a derivation evaluates the regime. -/
def State.evaluatedNow (result : Option Nat) : Option Nat := if s.mdc.mode.supervised then result else none

theorem State.levelsEvaluated_spec (result : Option Nat) :
    s.levelsEvaluated result = { s with
      lvu := { s.lvu with regime := s.regimeAfter (s.evaluatedNow result) }, csu := (s.levelsEvaluated result).csu
      portU := (s.levelsEvaluated result).portU, desk := (s.levelsEvaluated result).desk } ∧
    s.SameNotices (s.levelsEvaluated result) ∧
    (result = none → (s.levelsEvaluated result).desk = s.desk) ∧
    (∀ h, result = some h → s.tables.station.isValid = true →
      (s.levelsEvaluated result).active .headLow = decide (h < s.tables.stationOr.minimumLevel)) ∧
    (∀ h, result = some h → s.mdc.mode.supervised = true →
      (s.lvu.regime = .normal → s.tables.stationOr.floodEntry ≤ h → (s.levelsEvaluated result).Raised .headHigh) ∧
      (s.lvu.regime = .flood → h ≤ s.tables.stationOr.floodExit → (s.levelsEvaluated result).active .headHigh = false)) ∧
    (∀ c, c ≠ .headLow → c ≠ .headHigh → c ≠ .noticeLost → (s.levelsEvaluated result).desk.record c = s.desk.record c) := by
  cases result with
  | none =>
    have hsame : s.evaluatedNow none = none := ite_self _
    rw [hsame]
    exact ⟨rfl, .of_eq s, fun _ => rfl, nofun, nofun, fun _ _ _ _ => rfl⟩
  | some h =>
    by_cases hm : s.mdc.mode.supervised = true
    · have heval : s.levelsEvaluated (some h) = (s.evaluateRegime h).evaluateHeadLow h := by
        rw [State.levelsEvaluated, if_pos hm]
      have hnow : s.evaluatedNow (some h) = some h := if_pos hm
      obtain ⟨hlowFrame, hlow, hlowKeeps⟩ := (s.evaluateRegime h).evaluateHeadLow_spec h
      obtain ⟨hflood, hdry, hregimeKeeps⟩ := s.evaluateRegime_spec h
      have hframe := s.evaluateRegime_frame h
      have hlvu := s.evaluateRegime_lvu h
      have hnotices := s.evaluateRegime_sameNotices h
      rw [heval, hnow]
      generalize s.evaluateRegime h = u at hlowFrame hlow hlowKeeps hflood hdry hregimeKeeps hframe hlvu hnotices ⊢
      generalize u.evaluateHeadLow h = v at hlowFrame hlow hlowKeeps ⊢
      have htables : u.tables = s.tables := (congrArg State.tables hframe :)
      refine ⟨?_, ?_, nofun, fun h' hh hv => ?_, fun h' hh _ => ?_, fun c hlo hhi hl => ?_⟩
      · have hregime : u.lvu = { s.lvu with regime := s.regimeAfter (some h) } := by
          rw [hlvu]
          unfold State.regimeAfter
          cases s.lvu.regime <;> rfl
        rw [hlowFrame, ← hregime, hframe]
      · refine hnotices.trans ?_
        rw [hlowFrame]
        exact .of_eq u
      · obtain rfl := Option.some.inj hh
        rw [← htables]
        exact hlow (by rw [htables]; exact hv)
      · obtain rfl := Option.some.inj hh
        have hkept := hlowKeeps .headHigh (by simp) (by simp)
        exact ⟨fun hn he => State.raised_of_record hkept (hflood hn he), fun hf he => (State.active_of_record hkept).trans (hdry hf he)⟩
      · exact (hlowKeeps c hlo hl).trans (hregimeKeeps c hhi hl)
    · have heval : s.levelsEvaluated (some h) = s.evaluateHeadLow h := by
        rw [State.levelsEvaluated, if_neg hm]
      have hnow : s.evaluatedNow (some h) = none := if_neg hm
      obtain ⟨hlowFrame, hlow, hlowKeeps⟩ := s.evaluateHeadLow_spec h
      rw [heval, hnow]
      generalize s.evaluateHeadLow h = v at hlowFrame hlow hlowKeeps ⊢
      refine ⟨?_, ?_, nofun, fun h' hh hv => ?_, fun h' hh hm' => absurd hm' hm, fun c hlo hhi hl => hlowKeeps c hlo hl⟩
      · rw [hlowFrame]
        rfl
      · rw [hlowFrame]
        exact .of_eq s
      · obtain rfl := Option.some.inj hh
        exact hlow hv

theorem State.lossReported_spec (before result : Option Nat) :
    s.lossReported before result = { s with desk := (s.lossReported before result).desk } ∧
    (before ≠ none → result = none → s.mdc.mode.supervised = true → (s.lossReported before result).Raised .levelLost) ∧
    (before ≠ none → result = none → s.mdc.mode.supervised = false → (s.lossReported before result).desk = s.desk) ∧
    (before = none → result ≠ none → (s.lossReported before result).active .levelLost = false) ∧
    (∀ c, c ≠ .levelLost → c ≠ .noticeLost → (s.lossReported before result).desk.record c = s.desk.record c) := by
  have hraised := s.raised_raise .levelLost
  have hcleared := s.active_clear .levelLost
  unfold State.lossReported
  cases before with
  | none =>
    cases result with
    | none => exact ⟨rfl, fun hb => absurd rfl hb, fun hb => absurd rfl hb, fun _ hr => absurd rfl hr, fun _ _ _ => rfl⟩
    | some h => exact ⟨rfl, nofun, nofun, fun _ _ => hcleared, fun c hc _ => s.clear_record_ne hc⟩
  | some b =>
    cases result with
    | none =>
      dsimp only
      split
      next hm => exact ⟨rfl, fun _ _ _ => hraised, fun _ _ hm' => absurd (hm.symm.trans hm') (by decide), nofun, fun c hc hl => s.raise_record_ne hc hl⟩
      next hm => exact ⟨rfl, fun _ _ hm' => absurd hm' hm, fun _ _ _ => rfl, nofun, fun _ _ _ => rfl⟩
    | some h => exact ⟨rfl, nofun, nofun, nofun, fun _ _ _ => rfl⟩

end

end Sys2Proof.Machine
end

section
/-! PROOFS. What a sample or a stale expiry of a channel derives (O7, O8). -/

namespace Sys2Proof.Machine

/-! ## A HEADWATER derivation (R48 to R53) -/

/-- What a HEADWATER derivation leaves. -/
structure State.HeadwaterUpdated (s t : State) : Prop where
  frame : t = { s with lvu := t.lvu, csu := t.csu, portU := t.portU, desk := t.desk }
  lvu : t.lvu = { s.headwaterTaken.lvu with regime := s.regimeAfter (s.evaluatedNow (median (s.usable .headwater))) }
  own : t.OwnExact
  notices : s.SameNotices t
  headLow_kept : t.lvu.headwater = none → t.active .headLow = s.active .headLow
  headLow : ∀ h, t.lvu.headwater = some h → s.tables.station.isValid = true →
    t.active .headLow = decide (h < s.tables.stationOr.minimumLevel)
  headHigh : ∀ h, t.lvu.headwater = some h → s.mdc.mode.supervised = true →
    (s.lvu.regime = .normal → s.tables.stationOr.floodEntry ≤ h → t.Raised .headHigh) ∧
    (s.lvu.regime = .flood → h ≤ s.tables.stationOr.floodExit → t.active .headHigh = false)
  lost : s.lvu.headwater ≠ none → t.lvu.headwater = none → s.mdc.mode.supervised = true → t.Raised .levelLost
  lost_kept : s.lvu.headwater ≠ none → t.lvu.headwater = none → s.mdc.mode.supervised = false →
    t.desk.record .levelLost = s.desk.record .levelLost
  returned : s.lvu.headwater = none → t.lvu.headwater ≠ none → t.active .levelLost = false
  kept : ∀ c, c ≠ .headLow → c ≠ .headHigh → c ≠ .levelLost → c ≠ .noticeLost → t.desk.record c = s.desk.record c

theorem Lvu.computeHead_headwater (l : Lvu) : l.computeHead.headwater = l.headwater := by rw [Lvu.computeHead_frame]
theorem Lvu.computeHead_regime (l : Lvu) : l.computeHead.regime = l.regime := by rw [Lvu.computeHead_frame]

theorem State.headwaterTaken_headwater (s : State) :
    s.headwaterTaken.lvu.headwater = median (s.usable .headwater) ∧ s.headwaterTaken.lvu.regime = s.lvu.regime :=
  ⟨Lvu.computeHead_headwater _, Lvu.computeHead_regime _⟩

theorem State.updateHeadwater_updated (s : State) : s.HeadwaterUpdated s.updateHeadwater := by
  obtain ⟨hheadwater, hregime⟩ := s.headwaterTaken_headwater
  have hregimeAfter (r : Option Nat) : s.headwaterTaken.regimeAfter r = s.regimeAfter r := by
    unfold State.regimeAfter
    rw [hregime]
    rfl
  have hevaluated (r : Option Nat) : s.headwaterTaken.evaluatedNow r = s.evaluatedNow r := rfl
  obtain ⟨hlevels, hnotices, hkept, hlow, hhigh, hlevelKeeps⟩ := s.headwaterTaken.levelsEvaluated_spec (median (s.usable .headwater))
  have heq := s.updateHeadwater_eq
  have htaken : s.headwaterTaken = { s with lvu := s.headwaterTaken.lvu } := rfl
  rw [hregimeAfter, hevaluated] at hlevels
  generalize hresult : median (s.usable .headwater) = result at *
  generalize hu : s.headwaterTaken.levelsEvaluated result = u at hlevels hnotices hkept hlow hhigh hlevelKeeps heq
  obtain ⟨hloss, hlost, hlostKept, hreturned, hlossKeeps⟩ := u.lossReported_spec s.lvu.headwater result
  generalize u.lossReported s.lvu.headwater result = v at hloss hlost hlostKept hreturned hlossKeeps heq
  have hown := v.computeOwnAcceptance_frame
  have hexact := v.computeOwnAcceptance_exact
  have hsent := State.computeOwnAcceptance_sameNotices v
  rw [← heq] at hown hexact hsent
  generalize s.updateHeadwater = t at hown hexact hsent
  have htlvu : t.lvu = { s.headwaterTaken.lvu with regime := s.regimeAfter (s.evaluatedNow result) } := by
    rw [(congrArg State.lvu hown :), (congrArg State.lvu hloss :), (congrArg State.lvu hlevels :)]
  have htdesk : t.desk = v.desk := (congrArg State.desk hown :)
  have hum : u.mdc = s.mdc := (congrArg State.mdc hlevels :)
  have hth : t.lvu.headwater = result := by
    rw [htlvu]
    exact hheadwater
  have hrecord {c : Cond} (hc : c ≠ .levelLost) (hl : c ≠ .noticeLost) : t.desk.record c = u.desk.record c := by
    rw [htdesk]
    exact hlossKeeps c hc hl
  refine ⟨?_, by rw [hresult]; exact htlvu, hexact, ?_, fun hn => ?_, fun h hh hv => ?_, fun h hh hm => ?_, fun hb hn hm => ?_, fun hb hn hm => ?_, fun hb hn => ?_,
    fun c h1 h2 h3 h4 => (hrecord h3 h4).trans (hlevelKeeps c h1 h2 h4)⟩
  · have hstep : v = { s with lvu := v.lvu, csu := v.csu, portU := v.portU, desk := v.desk } := by
      have hvlvu : v.lvu = u.lvu := (congrArg State.lvu hloss :)
      have hvcsu : v.csu = u.csu := (congrArg State.csu hloss :)
      have hvU : v.portU = u.portU := (congrArg State.portU hloss :)
      have hulvu : u.lvu = { s.headwaterTaken.lvu with regime := s.regimeAfter (s.evaluatedNow result) } := (congrArg State.lvu hlevels :)
      have hframe := congrArg (fun x : State => { x with desk := v.desk }) hlevels
      rw [hvlvu, hvcsu, hvU, hulvu]
      exact hloss.trans hframe
    have htl : t.lvu = v.lvu := (congrArg State.lvu hown :)
    have hframe := congrArg (fun x : State => { x with csu := t.csu, portU := t.portU }) hstep
    rw [htdesk, htl]
    exact hown.trans hframe
  · have hsv : u.SameNotices v := by
      rw [hloss]
      exact .of_eq u
    have hst : s.SameNotices s.headwaterTaken := by
      rw [htaken]
      exact .of_eq s
    exact ((hst.trans hnotices).trans hsv).trans hsent
  · have hsame : u.desk = s.desk := hkept (hth.symm.trans hn)
    refine (State.active_of_record (hrecord (by simp) (by simp))).trans ?_
    rw [State.active, hsame]
    rfl
  · exact (State.active_of_record (hrecord (by simp) (by simp))).trans (hlow h (hth.symm.trans hh) hv)
  · obtain ⟨hflood, hdry⟩ := hhigh h (hth.symm.trans hh) hm
    have hsame := hrecord (c := .headHigh) (by simp) (by simp)
    exact ⟨fun hn he => State.raised_of_record hsame (hflood (hregime.trans hn) he),
      fun hf he => (State.active_of_record hsame).trans (hdry (hregime.trans hf) he)⟩
  · exact State.raised_of_record (s := v) (by rw [htdesk]) (hlost hb (hth.symm.trans hn) (by rw [hum]; exact hm))
  · have hsame := hlostKept hb (hth.symm.trans hn) (by rw [hum]; exact hm)
    rw [htdesk, hsame]
    exact hlevelKeeps .levelLost (by simp) (by simp) (by simp)
  · exact (State.active_of_record (s := v) (by rw [htdesk])).trans (hreturned hb (by rw [← hth]; exact hn))

/-! ## A channel sampled or gone STALE (R45, R46) -/

/-- From `s` to `u` one channel has been graded or gone STALE: the channels and the record of CHANNEL_STALE have changed. -/
structure State.Graded (s u : State) : Prop where
  frame : u = { s with lvu := { s.lvu with channels := u.lvu.channels }, desk := u.desk }
  record : ∀ c, (∀ k, c ≠ .channelStale k) → c ≠ .noticeLost → u.desk.record c = s.desk.record c

theorem storedQuality_eq (k : ChannelCfg) (x : Sample) : storedQuality k x =
    if (k.validMin : Int) ≤ x.value ∧ x.value ≤ (k.validMax : Int) ∧ x.quality ≠ .bad then
      some (if x.quality = .good then .good else .questionable)
    else none := by
  unfold storedQuality inRange
  cases hq : x.quality <;> by_cases hr : (k.validMin : Int) ≤ x.value ∧ x.value ≤ (k.validMax : Int) <;> simp [hr]

section
variable (s : State) (c : Fin 8)

theorem State.setChannel_graded (r : Channel) : s.Graded (s.setChannel c r) := ⟨rfl, fun _ _ _ => rfl⟩

variable {s} in
theorem State.Graded.trans {u v : State} (hu : s.Graded u) (hv : u.Graded v) : s.Graded v := by
  refine ⟨?_, fun k hk hl => (hv.record k hk hl).trans (hu.record k hk hl)⟩
  have hframe := congrArg (fun x : State => { x with lvu := { x.lvu with channels := v.lvu.channels }, desk := v.desk }) hu.frame
  exact hv.frame.trans hframe

theorem State.clear_graded : s.Graded (s.clear (.channelStale c)) := ⟨rfl, fun _ hk _ => s.clear_record_ne (hk c)⟩
theorem State.raise_graded : s.Graded (s.raise (.channelStale c)) := ⟨rfl, fun _ hk hl => s.raise_record_ne (hk c) hl⟩

theorem State.gradeSample_graded (x : Sample) : s.Graded (s.gradeSample c x) := by
  unfold State.gradeSample
  dsimp only
  split
  · exact (s.setChannel_graded c _).trans (State.clear_graded ..)
  · exact s.setChannel_graded c _

/-- A channel whose stale watch has expired. -/
def State.staled : State := (s.setChannel c { s.channel c with quality := .stale, staleWatch := none }).raise (.channelStale c)

theorem State.staled_graded : s.Graded (s.staled c) := (s.setChannel_graded c _).trans (State.raise_graded ..)

end

/-! ## The derivation as a whole -/

/-- The regime after an evaluation at a headwater (R51). -/
def State.regimeAt (s : State) (h : Nat) : Regime :=
  match s.lvu.regime with
  | .normal => if s.tables.stationOr.floodEntry ≤ h then .flood else .normal
  | .flood => if h ≤ s.tables.stationOr.floodExit then .normal else .flood

/-- What a sample or a stale expiry of a HEADWATER channel derives, with the end of the start wait (R46 to R53, R116, R125, R128). -/
def State.HeadwaterDerived (s t : State) : Prop :=
  t.lvu.headwater = median (t.usable .headwater) ∧ t.csu.ownAcceptance = t.ownAcceptanceNow ∧
  (t.lvu.headwater = none →
    t.lvu.lastHeadwater = s.lvu.lastHeadwater ∧ t.lvu.head = s.lvu.lastHead.getD 0 ∧ t.lvu.regime = s.lvu.regime ∧
    t.active .headLow = s.active .headLow) ∧
  (∀ h, t.lvu.headwater = some h →
    t.lvu.lastHeadwater = some h ∧ t.lvu.head = min (h - t.lvu.tailwater) 200000 ∧
    (s.tables.station.isValid = true → t.active .headLow = decide (h < s.tables.stationOr.minimumLevel)) ∧
    (s.mdc.mode.supervised = true →
      t.lvu.regime = s.regimeAt h ∧
      (s.lvu.regime = .normal → s.tables.stationOr.floodEntry ≤ h → t.Raised .headHigh) ∧
      (s.lvu.regime = .flood → h ≤ s.tables.stationOr.floodExit → t.active .headHigh = false))) ∧
  (s.lvu.headwater ≠ none → t.lvu.headwater = none → s.mdc.mode.supervised = true → t.Raised .levelLost) ∧
  (s.lvu.headwater ≠ none → t.lvu.headwater = none → s.mdc.mode.supervised = false →
    t.desk.record .levelLost = s.desk.record .levelLost) ∧
  (s.lvu.headwater = none → t.lvu.headwater ≠ none → t.active .levelLost = false) ∧
  (¬(s.mdc.mode = .starting ∧ s.mdc.phase = some .startWait) ∨ t.lvu.headwater = none → t.mdc = s.mdc) ∧
  (∀ h, s.mdc.mode = .starting → s.mdc.phase = some .startWait → t.lvu.headwater = some h →
    s.EntersGovern t ∧ t.active .controlSilent = false ∧ t.lvu.regime = s.regimeAt h ∧
    (s.lvu.regime = .normal → s.tables.stationOr.floodEntry ≤ h → t.Raised .headHigh))

section
variable {s u : State}

theorem State.usable_congr {a b : State} (htables : b.tables = a.tables) (hchannels : b.lvu.channels = a.lvu.channels) (r : Role) :
    b.usable r = a.usable r := by
  have hvalues (q : Quality) : b.valuesOf r q = a.valuesOf r q := by
    unfold State.valuesOf State.channel
    rw [htables, hchannels]
  unfold State.usable
  rw [hvalues, hvalues]

theorem State.regimeAfter_some (s : State) (h : Nat) : s.regimeAfter (some h) = s.regimeAt h := by
  unfold State.regimeAfter State.regimeAt
  cases s.lvu.regime <;> rfl

theorem State.headwaterTaken_last (s : State) :
    s.headwaterTaken.lvu.lastHeadwater = (match median (s.usable .headwater) with | some h => some h | none => s.lvu.lastHeadwater) ∧
    s.headwaterTaken.lvu.head = (match median (s.usable .headwater) with
      | some h => min (h - s.lvu.tailwater) 200000
      | none => s.lvu.lastHead.getD 0) ∧
    s.headwaterTaken.lvu.tailwater = s.lvu.tailwater ∧ s.headwaterTaken.lvu.channels = s.lvu.channels := by
  unfold State.headwaterTaken
  rw [Lvu.computeHead_head, Lvu.computeHead_frame]
  exact ⟨rfl, rfl, rfl, rfl⟩

/-- The derivation without an end of the start wait. -/
theorem State.HeadwaterUpdated.derived {v : State} (hg : s.Graded u) (h : u.HeadwaterUpdated v)
    (hwait : ¬(s.mdc.mode = .starting ∧ s.mdc.phase = some .startWait ∧ v.lvu.headwater.isSome = true)) : s.HeadwaterDerived v := by
  obtain ⟨hlast, hhead, htail, hchannels⟩ := u.headwaterTaken_last
  obtain ⟨hheadwater, -⟩ := u.headwaterTaken_headwater
  have hgl : u.lvu = { s.lvu with channels := u.lvu.channels } := (congrArg State.lvu hg.frame :)
  have hgt : u.tables = s.tables := (congrArg State.tables hg.frame :)
  have hgm : u.mdc = s.mdc := (congrArg State.mdc hg.frame :)
  have hvm : v.mdc = s.mdc := (congrArg State.mdc h.frame :).trans hgm
  have hvh : v.lvu.headwater = median (u.usable .headwater) := by rw [h.lvu]; exact hheadwater
  have hvlast : v.lvu.lastHeadwater = u.headwaterTaken.lvu.lastHeadwater := by rw [h.lvu]
  have hvhead : v.lvu.head = u.headwaterTaken.lvu.head := by rw [h.lvu]
  have hvtail : v.lvu.tailwater = u.lvu.tailwater := by rw [h.lvu]; exact htail
  have hvregime : v.lvu.regime = u.regimeAfter (u.evaluatedNow (median (u.usable .headwater))) := by rw [h.lvu]
  have hvt : v.tables = u.tables := (congrArg State.tables h.frame :)
  have hvch : v.lvu.channels = u.lvu.channels := by
    rw [h.lvu]
    exact hchannels
  have husable : v.usable .headwater = u.usable .headwater := State.usable_congr hvt hvch _
  have hlast0 : u.lvu.lastHeadwater = s.lvu.lastHeadwater := by rw [hgl]
  have hlastHead : u.lvu.lastHead = s.lvu.lastHead := by rw [hgl]
  have hregime0 : u.lvu.regime = s.lvu.regime := by rw [hgl]
  have hheadwater0 : u.lvu.headwater = s.lvu.headwater := by rw [hgl]
  have hregimeAt (level : Nat) : u.regimeAt level = s.regimeAt level := by
    unfold State.regimeAt
    rw [hregime0, hgt]
  rw [← hvh] at hlast hhead hvregime
  refine ⟨by rw [hvh, husable], h.own, fun hn => ?_, fun level hl => ?_, fun hb hn hm => ?_, fun hb hn hm => ?_, fun hb hn => ?_, fun _ => hvm,
    fun level hm hp hl => absurd ⟨hm, hp, by rw [hl]; rfl⟩ hwait⟩
  · rw [hn] at hlast hhead hvregime
    have hnone : u.evaluatedNow none = none := ite_self _
    rw [hnone] at hvregime
    refine ⟨hvlast.trans (hlast.trans hlast0), hvhead.trans (hhead.trans (congrArg (Option.getD · 0) hlastHead)), hvregime.trans hregime0, ?_⟩
    exact (h.headLow_kept hn).trans (State.active_of_record (hg.record _ (by simp) (by simp)))
  · rw [hl] at hlast hhead hvregime
    refine ⟨hvlast.trans hlast, by rw [hvhead, hhead, hvtail], fun hv => ?_, fun hm => ⟨?_, ?_⟩⟩
    · rw [← hgt] at hv ⊢
      exact h.headLow level hl hv
    · have hsome : u.evaluatedNow (some level) = some level := if_pos (by rw [hgm]; exact hm)
      rw [hvregime, hsome, State.regimeAfter_some, hregimeAt]
    · rw [← hregime0, ← hgt]
      exact h.headHigh level hl (by rw [hgm]; exact hm)
  · exact h.lost (by rw [hheadwater0]; exact hb) hn (by rw [hgm]; exact hm)
  · exact (h.lost_kept (by rw [hheadwater0]; exact hb) hn (by rw [hgm]; exact hm)).trans (hg.record _ (by simp) (by simp))
  · exact h.returned (by rw [hheadwater0]; exact hb) hn

theorem State.EntersGovern.of_same {v t : State} (hn : s.SameNotices v) (hm : v.mdc = s.mdc) (hr : v.rgv = s.rgv)
    (hg : ∀ i, v.gate i = s.gate i) (h : v.EntersGovern t) : s.EntersGovern t := by
  obtain ⟨hmdc, hrgv, hrefresh, hgates⟩ := h
  refine ⟨?_, ?_, hrefresh.of_same hn, fun i => ?_⟩
  · rw [hmdc, hm, hn.now, hn.tables]
  · rw [hrgv, hr, hn.now, hn.tables]
  · rw [← hg i]
    exact hgates i

/-- The derivation that ends the start wait. -/
theorem State.HeadwaterUpdated.governs {v : State} (hg : s.Graded u) (h : u.HeadwaterUpdated v)
    (hwait : s.mdc.mode = .starting ∧ s.mdc.phase = some .startWait ∧ v.lvu.headwater.isSome = true) :
    s.HeadwaterDerived v.enterGovern := by
  obtain ⟨hm, hphase, hsome⟩ := hwait
  obtain ⟨level, hlevel⟩ := Option.isSome_iff_exists.1 hsome
  have hgl : u.lvu = { s.lvu with channels := u.lvu.channels } := (congrArg State.lvu hg.frame :)
  have hgt : u.tables = s.tables := (congrArg State.tables hg.frame :)
  have hgm : u.mdc = s.mdc := (congrArg State.mdc hg.frame :)
  have hvm : v.mdc = s.mdc := (congrArg State.mdc h.frame :).trans hgm
  have hvt : v.tables = u.tables := (congrArg State.tables h.frame :)
  have hquiet : s.mdc.mode.supervised = false := by rw [hm]; rfl
  have hnotices : s.SameNotices v := by
    have hsu : s.SameNotices u := by
      rw [hg.frame]
      exact .of_eq s
    exact hsu.trans h.notices
  have hgate (i : Fin 16) : v.gate i = s.gate i := by
    have hyard : v.yard = s.yard := (congrArg State.yard h.frame :).trans (congrArg State.yard hg.frame :)
    exact congrArg (Yard.gate · i) hyard
  have hrgv : v.rgv = s.rgv := (congrArg State.rgv h.frame :).trans (congrArg State.rgv hg.frame :)
  have hfresh : v.evaluatedAtEntry v.mdc.mode.starts = some level := by
    rw [hvm, hm]
    exact hlevel
  have hvregime : v.lvu.regime = s.lvu.regime := by
    have hnone : u.evaluatedNow (median (u.usable .headwater)) = none := if_neg (by rw [hgm, hquiet]; exact Bool.false_ne_true)
    rw [h.lvu, hnone]
    show u.lvu.regime = _
    rw [hgl]
  have hregimeAt : v.regimeAt level = s.regimeAt level := by
    unfold State.regimeAt
    rw [hvregime, hvt, hgt]
  obtain ⟨hheadwater, -⟩ := u.headwaterTaken_headwater
  obtain ⟨hlast, hhead, htail, hchannels⟩ := u.headwaterTaken_last
  have hvh : v.lvu.headwater = median (u.usable .headwater) := by rw [h.lvu]; exact hheadwater
  rw [← hvh, hlevel] at hlast hhead
  have hvlast : v.lvu.lastHeadwater = some level := by rw [h.lvu]; exact hlast
  have hvhead : v.lvu.head = min (level - v.lvu.tailwater) 200000 := by rw [h.lvu]; exact hhead.trans (by rw [htail])
  have hvch : v.lvu.channels = u.lvu.channels := by rw [h.lvu]; exact hchannels
  have htlvu := v.enterGovern_lvu
  have htables := v.enterGovern_sameWatches.tables
  have hexact := v.enterGovern_sameWatches.own h.own
  have henters := v.enterGovern_entersGovern
  obtain ⟨hsilent, hflood, -⟩ := v.enterGovern_desk
  have hrecord (c : Cond) := v.enterGovern_record (c := c)
  rw [hfresh] at htlvu hflood
  generalize v.enterGovern = t at htlvu htables hexact henters hsilent hflood hrecord ⊢
  have hth : t.lvu.headwater = some level := by rw [htlvu]; exact hlevel
  have husable : t.usable .headwater = u.usable .headwater :=
    State.usable_congr (htables.trans hvt) (by rw [htlvu]; exact hvch) _
  have hne {P : Prop} (hn : t.lvu.headwater = none) : P := by rw [hth] at hn; cases hn
  have hlow : t.desk.record .headLow = v.desk.record .headLow := hrecord _ (by simp) (by simp) (by simp) (by simp)
  have hlost : t.desk.record .levelLost = v.desk.record .levelLost := hrecord _ (by simp) (by simp) (by simp) (by simp)
  refine ⟨by rw [hth, husable, ← hvh, hlevel], hexact, fun hn => hne hn, fun l hl => ?_, fun _ hn => hne hn, fun _ hn => hne hn, fun hb _ => ?_, ?_,
    fun l _ _ hl => ?_⟩
  · obtain rfl := Option.some.inj (hth.symm.trans hl)
    refine ⟨by rw [htlvu]; exact hvlast, by rw [htlvu]; exact hvhead, fun hv => ?_, fun hsup => ?_⟩
    · rw [← hgt] at hv ⊢
      exact (State.active_of_record hlow).trans (h.headLow level hlevel hv)
    · exact absurd (hquiet.symm.trans hsup) Bool.false_ne_true
  · refine (State.active_of_record hlost).trans (h.returned (by rw [hgl]; exact hb) ?_)
    rw [hlevel]
    exact nofun
  · rintro (hw | hn)
    · exact absurd ⟨hm, hphase⟩ hw
    · exact hne hn
  · obtain rfl := Option.some.inj (hth.symm.trans hl)
    refine ⟨henters.of_same hnotices hvm hrgv hgate, hsilent, ?_, fun hn he => ?_⟩
    · rw [htlvu, State.regimeAfter_some]
      exact hregimeAt
    · refine (hflood ⟨level, rfl, hvregime.trans hn, ?_⟩).1
      rw [hvt, hgt]
      exact he

/-- The derivation of a HEADWATER channel, with the end of the start wait where it applies. -/
theorem State.Graded.headwater (hg : s.Graded u) : s.HeadwaterDerived u.updateHeadwater.startWaitHeadwater := by
  have h := u.updateHeadwater_updated
  generalize u.updateHeadwater = v at h ⊢
  have hvm : v.mdc = s.mdc := (congrArg State.mdc h.frame :).trans (congrArg State.mdc hg.frame :)
  unfold State.startWaitHeadwater
  rw [hvm]
  split
  next hwait => exact h.governs hg hwait
  next hwait => exact h.derived hg hwait

end

/-! ## A TAILWATER derivation (R49, R50) -/

/-- What a sample or a stale expiry of a TAILWATER channel derives. -/
def State.TailwaterDerived (s t : State) : Prop :=
  t = { s with lvu := t.lvu, desk := t.desk } ∧ t.lvu.headwater = s.lvu.headwater ∧ t.lvu.regime = s.lvu.regime ∧
  (∀ w, median (t.usable .tailwater) = some w →
    t.lvu.tailwater = w ∧ t.lvu.tailSource = .derived ∧ t.lvu.lastTailwater = some w) ∧
  (median (t.usable .tailwater) = none → t.lvu.lastTailwater = s.lvu.lastTailwater ∧
    (∀ w, s.lvu.lastTailwater = some w → t.lvu.tailwater = w ∧ t.lvu.tailSource = .held) ∧
    (s.lvu.lastTailwater = none → t.lvu.tailwater = s.tables.stationOr.tailwaterDefault ∧ t.lvu.tailSource = .default)) ∧
  t.lvu.head = (match s.lvu.headwater with | some h => min (h - t.lvu.tailwater) 200000 | none => s.lvu.lastHead.getD 0)

section
variable {s u : State}

/-- The levels after a TAILWATER derivation, before head is computed. -/
def State.tailwaterTaken (s : State) : Lvu :=
  match median (s.usable .tailwater) with
  | some w => { s.lvu with tailwater := w, tailSource := .derived, lastTailwater := some w }
  | none =>
    match s.lvu.lastTailwater with
    | some w => { s.lvu with tailwater := w, tailSource := .held }
    | none => { s.lvu with tailwater := s.tables.stationOr.tailwaterDefault, tailSource := .default }

theorem State.updateTailwater_eq (s : State) : s.updateTailwater = { s with lvu := s.tailwaterTaken.computeHead } := by
  unfold State.updateTailwater State.tailwaterTaken State.fallbackTailwater State.computeHead
  cases median (s.usable .tailwater) <;> rfl

theorem State.tailwaterTaken_frame (s : State) : s.tailwaterTaken = { s.lvu with
    tailwater := s.tailwaterTaken.tailwater, tailSource := s.tailwaterTaken.tailSource, lastTailwater := s.tailwaterTaken.lastTailwater } := by
  unfold State.tailwaterTaken
  cases median (s.usable .tailwater) <;> cases s.lvu.lastTailwater <;> rfl

theorem State.Graded.tailwater (hg : s.Graded u) : s.TailwaterDerived u.updateTailwater := by
  have hgl : u.lvu = { s.lvu with channels := u.lvu.channels } := (congrArg State.lvu hg.frame :)
  have hgt : u.tables = s.tables := (congrArg State.tables hg.frame :)
  have hlast : u.lvu.lastTailwater = s.lvu.lastTailwater := by rw [hgl]
  have hheadwater : u.lvu.headwater = s.lvu.headwater := by rw [hgl]
  have hlastHead : u.lvu.lastHead = s.lvu.lastHead := by rw [hgl]
  have hregime : u.lvu.regime = s.lvu.regime := by rw [hgl]
  have hheadEq := u.tailwaterTaken.computeHead_head
  have hheadFrame := u.tailwaterTaken.computeHead_frame
  have htaken := u.tailwaterTaken_frame
  have heq := u.updateTailwater_eq
  have hderived : u.tailwaterTaken = (match median (u.usable .tailwater) with
    | some w => { u.lvu with tailwater := w, tailSource := .derived, lastTailwater := some w }
    | none =>
      match u.lvu.lastTailwater with
      | some w => { u.lvu with tailwater := w, tailSource := .held }
      | none => { u.lvu with tailwater := u.tables.stationOr.tailwaterDefault, tailSource := .default }) := rfl
  generalize u.tailwaterTaken = l at hheadEq hheadFrame htaken heq hderived
  generalize l.computeHead = r at hheadEq hheadFrame heq
  have hlh : l.headwater = s.lvu.headwater := by rw [htaken]; exact hheadwater
  have hllast : l.lastHead = s.lvu.lastHead := by rw [htaken]; exact hlastHead
  rw [hlh, hllast] at hheadEq
  have hrtail : r.tailwater = l.tailwater := by rw [hheadFrame]
  have hrsource : r.tailSource = l.tailSource := by rw [hheadFrame]
  have hrlast : r.lastTailwater = l.lastTailwater := by rw [hheadFrame]
  have hrchannels : r.channels = u.lvu.channels := by rw [hheadFrame, htaken]
  have husable : State.usable { u with lvu := r } .tailwater = u.usable .tailwater := 
    State.usable_congr (a := u) (b := { u with lvu := r }) rfl hrchannels .tailwater
  rw [heq]
  refine ⟨?_, ?_, ?_, fun w hw => ?_, fun hn => ?_, ?_⟩
  · rw [hg.frame]
  · show r.headwater = _
    rw [hheadFrame, hlh]
  · show r.regime = _
    rw [hheadFrame, htaken, hregime]
  · rw [husable] at hw
    rw [hw] at hderived
    show r.tailwater = w ∧ r.tailSource = .derived ∧ r.lastTailwater = some w
    rw [hrtail, hrsource, hrlast, hderived]
    exact ⟨rfl, rfl, rfl⟩
  · rw [husable] at hn
    rw [hn] at hderived
    show r.lastTailwater = _ ∧ (∀ w, _ → r.tailwater = w ∧ r.tailSource = .held) ∧ (_ → r.tailwater = _ ∧ r.tailSource = .default)
    rw [hrtail, hrsource, hrlast]
    rw [hlast] at hderived
    cases hs : s.lvu.lastTailwater with
    | some w =>
      rw [hs] at hderived
      rw [hderived]
      refine ⟨hlast.trans hs, fun w' hw' => ?_, nofun⟩
      obtain rfl := Option.some.inj hw'
      exact ⟨rfl, rfl⟩
    | none =>
      rw [hs, hgt] at hderived
      rw [hderived]
      exact ⟨hlast.trans hs, nofun, fun _ => ⟨rfl, rfl⟩⟩
  · show r.head = _
    rw [hheadEq, ← hrtail] <;> rfl

end

end Sys2Proof.Machine
end

section
/-! PROOFS. Samples and stale expiries as commands (O7, O8). -/

namespace Sys2Proof.Machine

section
variable {s t : State}

/-! ## A sample is forwarded after it is taken (R151) -/

theorem State.HeadwaterDerived.forwarded (h : s.HeadwaterDerived t) (f : BusFrame) : s.HeadwaterDerived (t.forwardFrom .F f) := by
  have hframe : t.forwardFrom .F f = { t with desk := t.desk.forward f } := rfl
  have hsame (c : Cond) : (t.forwardFrom .F f).desk.record c = t.desk.record c := by simp [hframe]
  have hraised {c : Cond} (hr : t.Raised c) : (t.forwardFrom .F f).Raised c := State.raised_of_record (hsame c) hr
  have hactive (c : Cond) : (t.forwardFrom .F f).active c = t.active c := State.active_of_record (hsame c)
  obtain ⟨hheadwater, hown, hnone, hsome, hlost, hkept, hreturned, hmode, hgovern⟩ := h
  refine ⟨hheadwater, hown, fun hn => ?_, fun l hl => ?_, fun hb hn hm => hraised (hlost hb hn hm), fun hb hn hm => (hsame _).trans (hkept hb hn hm),
    fun hb hn => (hactive _).trans (hreturned hb hn), hmode, fun l hm hp hl => ?_⟩
  · rw [hactive]
    exact hnone hn
  · obtain ⟨hlast, hhead, hlow, hflood⟩ := hsome l hl
    refine ⟨hlast, hhead, fun hv => (hactive _).trans (hlow hv), fun hm => ?_⟩
    obtain ⟨hregime, hentry, hexit⟩ := hflood hm
    exact ⟨hregime, fun hn he => hraised (hentry hn he), fun hf he => (hactive _).trans (hexit hf he)⟩
  · obtain ⟨henters, hsilent, hregime, hentry⟩ := hgovern l hm hp hl
    exact ⟨henters, (hactive _).trans hsilent, hregime, fun hn he => hraised (hentry hn he)⟩

theorem State.TailwaterDerived.forwarded (h : s.TailwaterDerived t) (f : BusFrame) : s.TailwaterDerived (t.forwardFrom .F f) := by
  obtain ⟨hframe, hrest⟩ := h
  refine ⟨?_, hrest⟩
  have hdesk := congrArg (fun x : State => { x with desk := t.desk.forward f }) hframe
  exact hdesk

/-! ## What becomes of the channels -/

/-- The derivation of a channel's role, with the end of the start wait where it applies. -/
def State.roleDerived (u : State) (r : Role) : State :=
  if r = .headwater then (u.deriveRole r).startWaitHeadwater else u.deriveRole r

theorem State.roleDerived_headwater (u : State) : u.roleDerived .headwater = u.updateHeadwater.startWaitHeadwater := rfl
theorem State.roleDerived_tailwater (u : State) : u.roleDerived .tailwater = u.updateTailwater := rfl

theorem State.startWaitHeadwater_channels (v : State) :
    v.startWaitHeadwater.lvu.channels = v.lvu.channels ∧
    ∀ k, v.startWaitHeadwater.desk.record (.channelStale k) = v.desk.record (.channelStale k) := by
  have hchannels := v.enterGovern_sameWatches.channels
  have hrecord (k : Fin 8) := v.enterGovern_record (c := .channelStale k) (by simp) (by simp) (by simp) (by simp)
  unfold State.startWaitHeadwater
  split
  · exact ⟨hchannels, hrecord⟩
  · exact ⟨rfl, fun _ => rfl⟩

theorem State.roleDerived_channels (u : State) (r : Role) :
    (u.roleDerived r).lvu.channels = u.lvu.channels ∧
    ∀ k, (u.roleDerived r).desk.record (.channelStale k) = u.desk.record (.channelStale k) := by
  cases r with
  | headwater =>
    have h := u.updateHeadwater_updated
    rw [State.roleDerived_headwater]
    generalize u.updateHeadwater = v at h ⊢
    obtain ⟨-, -, -, htaken⟩ := u.headwaterTaken_last
    obtain ⟨hchannels, hrecord⟩ := v.startWaitHeadwater_channels
    refine ⟨hchannels.trans ?_, fun k => (hrecord k).trans (h.kept _ (by simp) (by simp) (by simp) (by simp))⟩
    rw [h.lvu]
    exact htaken
  | tailwater =>
    have heq := u.updateTailwater_eq
    have hframe := u.tailwaterTaken.computeHead_frame
    have htaken := u.tailwaterTaken_frame
    rw [State.roleDerived_tailwater, heq]
    refine ⟨?_, fun _ => rfl⟩
    show u.tailwaterTaken.computeHead.channels = _
    rw [hframe, htaken]
  | unused => exact ⟨rfl, fun _ => rfl⟩

theorem State.channel_eq (u : State) (d : Fin 8) : u.lvu.channels[d] = u.channel d := rfl

theorem State.setChannel_others {u : State} {c d : Fin 8} (r : Channel) (h : d ≠ c) : (u.setChannel c r).lvu.channels[d] = u.lvu.channels[d] :=
  u.channel_setChannel_ne r h

/-- What grading a sample makes of its channel (R45). -/
theorem State.gradeSample_spec (s : State) (c : Fin 8) (x : Sample) :
    (∀ d, d ≠ c → (s.gradeSample c x).lvu.channels[d] = s.lvu.channels[d]) ∧
    (if ((s.tables.channelCfg c).validMin : Int) ≤ x.value ∧ x.value ≤ ((s.tables.channelCfg c).validMax : Int) ∧ x.quality ≠ .bad then
      (s.gradeSample c x).lvu.channels[c] =
        { value := some x.value.toNat, quality := if x.quality = .good then .good else .questionable,
          lastGood := some s.now, staleWatch := some (s.now + (s.tables.channelCfg c).staleLimit) } ∧
      (s.gradeSample c x).active (.channelStale c) = false
    else (s.gradeSample c x).lvu.channels[c] = { s.lvu.channels[c] with quality := .bad }) := by
  have hstored := storedQuality_eq (s.tables.channelCfg c) x
  unfold State.gradeSample
  dsimp only
  split at hstored
  next huse =>
    rw [hstored, if_pos huse]
    refine ⟨fun d hd => State.setChannel_others _ hd, ?_, State.active_clear _ _⟩
    exact s.channel_setChannel c _
  next huse =>
    rw [hstored, if_neg huse]
    refine ⟨fun d hd => State.setChannel_others _ hd, ?_⟩
    exact s.channel_setChannel c _

theorem State.staled_spec (s : State) (c : Fin 8) :
    (s.staled c).lvu.channels[c] = { s.lvu.channels[c] with quality := .stale, staleWatch := none } ∧
    (∀ d, d ≠ c → (s.staled c).lvu.channels[d] = s.lvu.channels[d]) ∧ (s.staled c).Raised (.channelStale c) :=
  ⟨s.channel_setChannel c _, fun _ hd => State.setChannel_others _ hd, State.raised_raise _ _⟩

/-! ## The two commands -/

theorem exec_sampleReceived {f : BusFrame} {c : Fin 8} (hv : busFrameValid .F f = true) (hk : f.kind = kindSample)
    (hc : s.tables.sampleChannel (readSample f) = some c) :
    exec (.sampleReceived f) s =
      .next (((s.gradeSample c (readSample f)).roleDerived (s.tables.channelCfg c).role).forwardFrom .F f) := by
  have htake : s.takeSample (readSample f) = (s.gradeSample c (readSample f)).roleDerived (s.tables.channelCfg c).role := by
    unfold State.takeSample
    rw [hc]
    rfl
  have hexec : exec (.sampleReceived f) s = .next (s.receiveF f) := rfl
  rw [hexec, State.receiveF_sample hv hk, htake]

theorem exec_staleWatchExpiry {c : Fin 8} {e : Tick} (hw : s.lvu.channels[c].staleWatch = some e) (he : e ≤ s.now) :
    exec (.staleWatchExpiry c) s = .next ((s.staled c).roleDerived (s.tables.channelCfg c).role) := by
  have hdue : s.staleDue c = true := by
    unfold State.staleDue
    rw [← State.channel_eq, hw]
    exact timerDue_of_le he
  have hexec : exec (.staleWatchExpiry c) s = execStaleWatchExpiry c s := rfl
  rw [hexec, execStaleWatchExpiry, if_pos hdue]
  rfl

end

/-- Settles O7: one channel is graded or goes STALE, and no derivation touches a channel. -/
theorem channelsAreGradedAndGoStale : Obligations.ChannelsAreGradedAndGoStale := by
  refine ⟨fun s f c hv hk hc => ⟨_, exec_sampleReceived hv hk hc, ?_⟩, fun s c e hw he => ⟨_, exec_staleWatchExpiry hw he, ?_⟩⟩
  · obtain ⟨hothers, hgraded⟩ := s.gradeSample_spec c (readSample f)
    obtain ⟨hchannels, hrecord⟩ := (s.gradeSample c (readSample f)).roleDerived_channels (s.tables.channelCfg c).role
    generalize s.gradeSample c (readSample f) = u at *
    generalize u.roleDerived _ = t at *
    have hforward : (t.forwardFrom .F f).lvu.channels = u.lvu.channels := hchannels
    have hactive : (t.forwardFrom .F f).active (.channelStale c) = u.active (.channelStale c) :=
      (State.active_of_record (s := t) (by simp [State.forwardFrom])).trans (State.active_of_record (hrecord c))
    rw [hforward, hactive]
    exact ⟨hothers, hgraded⟩
  · obtain ⟨hstale, hothers, hraised⟩ := s.staled_spec c
    obtain ⟨hchannels, hrecord⟩ := (s.staled c).roleDerived_channels (s.tables.channelCfg c).role
    generalize s.staled c = u at *
    generalize u.roleDerived _ = t at *
    rw [hchannels]
    exact ⟨hstale, hothers, State.raised_of_record (hrecord c) hraised⟩

/-- Settles O8: a graded or stale channel leaves everything else as it was, and the derivation of its role follows. -/
theorem samplesDeriveHeadwater : Obligations.SamplesDeriveHeadwater := by
  intro s c
  dsimp only
  refine ⟨fun f hv hk hc => ⟨fun hr => ⟨_, exec_sampleReceived hv hk hc, ?_⟩, fun hr => ⟨_, exec_sampleReceived hv hk hc, ?_⟩⟩,
    fun e hw he => ⟨fun hr => ⟨_, exec_staleWatchExpiry hw he, ?_⟩, fun hr => ⟨_, exec_staleWatchExpiry hw he, ?_⟩⟩⟩ <;> rw [hr]
  · exact (s.gradeSample_graded c (readSample f)).headwater.forwarded f
  · exact (s.gradeSample_graded c (readSample f)).tailwater.forwarded f
  · exact (s.staled_graded c).headwater
  · exact (s.staled_graded c).tailwater

end Sys2Proof.Machine
end

section
/-! PROOFS. Frames on the reach ports (O48). -/

namespace Sys2Proof.Machine

section
variable (s : State) (p : ReachSide)

/-- A reach port that has heard a valid frame (R105). -/
def State.heardPort : ReachPort :=
  { s.reachPort p with link := .up, lastValid := some s.now, silence := some (s.now + s.tables.stationOr.linkTimeout) }

theorem State.reachPort_setReachPort (r : ReachPort) : (s.setReachPort p r).reachPort p = r := by cases p <;> rfl

theorem State.linkHeard_eq : s.linkHeard p =
    { (s.setReachPort p (s.heardPort p)) with desk := if (s.reachPort p).link = .lost then s.desk.clear (.linkLost p) else s.desk } := by
  unfold State.linkHeard State.heardPort
  dsimp only
  cases hl : (s.reachPort p).link <;> cases p <;> rfl

theorem State.linkHeard_port : (s.linkHeard p).reachPort p = s.heardPort p := by
  rw [s.linkHeard_eq]
  cases p <;> rfl

theorem State.linkHeard_active (h : (s.reachPort p).link = .lost) : (s.linkHeard p).active (.linkLost p) = false := by
  rw [s.linkHeard_eq, if_pos h]
  exact State.active_clear s _

theorem State.linkHeard_desk (h : (s.reachPort p).link ≠ .lost) : (s.linkHeard p).desk = s.desk := by
  rw [s.linkHeard_eq, if_neg h]

theorem State.linkHeard_record {c : Cond} (hc : c ≠ .linkLost p) : (s.linkHeard p).desk.record c = s.desk.record c := by
  rw [s.linkHeard_eq]
  dsimp only
  split
  · exact Desk.clear_record_ne _ hc
  · rfl

theorem State.linkHeard_frame : s.linkHeard p = { (s.setReachPort p ((s.linkHeard p).reachPort p)) with desk := (s.linkHeard p).desk } := by
  rw [s.linkHeard_port]
  conv_lhs => rw [s.linkHeard_eq]
  rw [s.linkHeard_eq]

end

/-! ## A notice in the forecast queue (R107 to R110) -/

section
variable (s : State) (sequence out : Nat)

/-- The delay in seconds at which a notice is due (R108). -/
def Tables.noticeDelay (t : Tables) : Nat := match t.reach.active with | .valid r => reachDelay out r.bands | _ => 0

theorem State.noticeDue_empty (h : s.csu.queue = []) : s.noticeDue out = s.now + 10 * Tables.noticeDelay out s.tables := by
  unfold State.noticeDue
  rw [h]
  rfl

theorem State.noticeDue_tail {e : List ForecastEntry} {tail : ForecastEntry} (h : s.csu.queue = e ++ [tail]) :
    s.noticeDue out = max (s.now + 10 * Tables.noticeDelay out s.tables) tail.due := by
  unfold State.noticeDue
  rw [h, List.getLast?_concat]
  rfl

/-- A notice changes the csu and the desk; FORECAST_QUEUE_FULL says whether the queue held 32. -/
theorem State.appendNotice_spec : s.appendNotice out = { s with csu := (s.appendNotice out).csu, desk := (s.appendNotice out).desk } ∧
    (s.csu.queue.length < 32 → (s.appendNotice out).active .forecastQueueFull = false) ∧
    (s.csu.queue.length = 32 → (s.appendNotice out).Raised .forecastQueueFull) ∧
    ∀ c, c ≠ .forecastQueueFull → c ≠ .noticeLost → (s.appendNotice out).desk.record c = s.desk.record c := by
  have hcleared := s.active_clear .forecastQueueFull
  have hraised := s.raised_raise .forecastQueueFull
  unfold State.appendNotice
  dsimp only
  split
  next h => exact ⟨rfl, fun _ => hcleared, fun hl => by simp [h] at hl, fun c hc _ => s.clear_record_ne hc⟩
  next h =>
    split
    next hroom => exact ⟨rfl, fun _ => hcleared, fun hl => by omega, fun c hc _ => s.clear_record_ne hc⟩
    next hroom => exact ⟨rfl, fun hl => absurd hl hroom, fun _ => hraised, fun c hc hl => s.raise_record_ne hc hl⟩

theorem State.appendNotice_empty (h : s.csu.queue = []) :
    (s.appendNotice out).csu = if Tables.noticeDelay out s.tables = 0 then { s.csu with upstream := out, upstreamSource := .notice }
      else { s.csu with queue := [{ outflow := out, due := s.now + 10 * Tables.noticeDelay out s.tables }] } := by
  have hdue := s.noticeDue_empty out h
  have hcleared : (s.clear .forecastQueueFull).csu = s.csu := rfl
  have hmature (e : ForecastEntry) : (s.appendNotice e.outflow).csu = mature s.now [{ e with due := s.noticeDue e.outflow }] s.csu := by
    unfold State.appendNotice
    rw [h]
    rfl
  refine (hmature ⟨out, 0⟩).trans ?_
  have hqueue : s.csu = { s.csu with queue := [] } := by
    cases hc : s.csu
    rw [hc] at h
    simp only at h
    rw [h]
  dsimp only
  rw [hdue]
  unfold mature
  dsimp only
  have hreached : s.now + 10 * Tables.noticeDelay out s.tables ≤ s.now ↔ Tables.noticeDelay out s.tables = 0 := by
    simp
  by_cases hd : Tables.noticeDelay out s.tables = 0
  · rw [if_pos (hreached.2 hd), if_pos hd, mature, hqueue]
  · rw [if_neg (mt hreached.1 hd), if_neg hd]

theorem State.appendNotice_room {e : List ForecastEntry} {tail : ForecastEntry} (h : s.csu.queue = e ++ [tail]) (hroom : s.csu.queue.length < 32) :
    (s.appendNotice out).csu = { s.csu with
      queue := s.csu.queue ++ [{ outflow := out, due := max (s.now + 10 * Tables.noticeDelay out s.tables) tail.due }] } := by
  have hdue := s.noticeDue_tail out h
  unfold State.appendNotice
  dsimp only
  rw [hdue]
  split
  next hnil => simp [hnil] at h
  next head rest hq =>
    rw [if_pos hroom, ← hq]
    rfl

theorem State.appendNotice_full {head tail : ForecastEntry} {e : List ForecastEntry} (h : s.csu.queue = head :: (e ++ [tail]))
    (hfull : s.csu.queue.length = 32) :
    (s.appendNotice out).csu = { s.csu with
      queue := e ++ [tail] ++ [{ outflow := out, due := max (s.now + 10 * Tables.noticeDelay out s.tables) tail.due }]
      upstream := head.outflow, upstreamSource := .notice } := by
  have hdue := s.noticeDue_tail (e := head :: e) out h
  unfold State.appendNotice
  dsimp only
  rw [hdue]
  split
  next hnil => simp [hnil] at h
  next head' rest hq =>
    rw [if_neg (by omega)]
    obtain ⟨rfl, rfl⟩ := List.cons.inj (hq.symm.trans h)
    rfl

/-- A RELEASE before its notice joins the forecast queue: its sequence compared and held (R107). -/
def State.sequenceTaken : State :=
  let s1 := match s.csu.lastSequence with
    | none => s
    | some last => if sequence = (last + 1) % 256 then s.clear .noticeGap else s.raise .noticeGap
  { s1 with csu := { s1.csu with lastSequence := some sequence } }

theorem State.takeRelease_eq : s.takeRelease sequence out = (s.sequenceTaken sequence).appendNotice (min out maxReleaseOutflow) := rfl

theorem State.sequenceTaken_spec :
    s.sequenceTaken sequence = { s with csu := { s.csu with lastSequence := some sequence }, desk := (s.sequenceTaken sequence).desk } ∧
    (∀ last, s.csu.lastSequence = some last →
      (sequence = (last + 1) % 256 → (s.sequenceTaken sequence).active .noticeGap = false) ∧
      (sequence ≠ (last + 1) % 256 → (s.sequenceTaken sequence).Raised .noticeGap)) ∧
    (s.csu.lastSequence = none → (s.sequenceTaken sequence).desk = s.desk) ∧
    ∀ c, c ≠ .noticeGap → c ≠ .noticeLost → (s.sequenceTaken sequence).desk.record c = s.desk.record c := by
  have hcleared := s.active_clear .noticeGap
  have hraised := s.raised_raise .noticeGap
  unfold State.sequenceTaken
  cases hlast : s.csu.lastSequence with
  | none => exact ⟨rfl, nofun, fun _ => rfl, fun _ _ _ => rfl⟩
  | some last =>
    dsimp only
    split
    next hin =>
      refine ⟨rfl, fun l hl => ?_, nofun, fun c hc _ => s.clear_record_ne hc⟩
      obtain rfl := Option.some.inj hl
      exact ⟨fun _ => hcleared, fun hout => absurd hin hout⟩
    next hout =>
      refine ⟨rfl, fun l hl => ?_, nofun, fun c hc hl => s.raise_record_ne hc hl⟩
      obtain rfl := Option.some.inj hl
      exact ⟨fun hin => absurd hin hout, fun _ => hraised⟩

end

theorem State.receiveReach_valid {s : State} {p : ReachSide} {f : ReachFrame} (hp : s.portPresent p = true)
    (hv : reachFrameValid p (s.neighbour p) f = true) : s.receiveReach p f =
      if f.kind = reachRelease then (s.linkHeard p).takeRelease f.sequence.toNat (beAt f.payload 0 4)
      else if f.kind = reachAccept then (s.linkHeard p).takeAccept (beAt f.payload 0 4)
      else s.linkHeard p := by
  rw [State.receiveReach, if_pos hp, if_pos hv]

/-- Settles O48: the port is heard, then the frame is taken by its kind, a RELEASE by the length of the forecast queue. -/
theorem reachFramesAreTaken : Obligations.ReachFramesAreTaken := by
  intro s p f hp hv
  dsimp only
  have hreceive := State.receiveReach_valid hp hv
  have hport := s.linkHeard_port p
  have hactive := s.linkHeard_active p
  have hdesk := s.linkHeard_desk p
  have hframe := s.linkHeard_frame p
  refine ⟨fun hk => ?_, ?_, ?_⟩
  · rw [hk, if_neg (by decide), if_neg (by decide)] at hreceive
    have hexec : exec (.linkcheckReceived p f) s = .next (s.linkHeard p) := congrArg Host.Outcome.next hreceive
    exact ⟨_, hexec, ⟨hport, hactive⟩, hframe, hdesk⟩
  · rintro rfl hk
    rw [hk, if_neg (by decide), if_pos rfl] at hreceive
    have hexec : exec (.acceptReceived f) s = .next ((s.linkHeard .D).takeAccept (beAt f.payload 0 4)) := congrArg Host.Outcome.next hreceive
    have hcsu : (s.linkHeard .D).csu = s.csu := (congrArg State.csu hframe :)
    refine ⟨_, hexec, ⟨hport, hactive⟩, ?_, ?_⟩
    · exact congrArg (fun c : Csu => { c with received := some (min (beAt f.payload 0 4) 1000000) }) hcsu
    · have hu := congrArg (fun x : State => { x with csu := ((s.linkHeard .D).takeAccept (beAt f.payload 0 4)).csu }) hframe
      exact hu
  · rintro rfl hk hlen
    rw [hk, if_pos rfl, State.takeRelease_eq] at hreceive
    generalize hout : min (beAt f.payload 0 4) maxReleaseOutflow = out at hreceive
    have hout' : min (beAt f.payload 0 4) 134215680 = out := hout
    rw [hout']
    have hrecord {c : Cond} (hc : c ≠ .linkLost .U) : (s.linkHeard .U).desk.record c = s.desk.record c := s.linkHeard_record .U hc
    generalize s.linkHeard .U = h at *
    obtain ⟨hsFrame, hgap, hnone, hsRecord⟩ := h.sequenceTaken_spec f.sequence.toNat
    have hhu : h.portU = s.heardPort .U := hport
    have hhc : h.csu = s.csu := (congrArg State.csu hframe :)
    generalize h.sequenceTaken f.sequence.toNat = u at *
    have huc : u.csu = { s.csu with lastSequence := some f.sequence.toNat } := by
      rw [hsFrame, hhc]
    have hut : u.tables = s.tables := (congrArg State.tables hsFrame :).trans (congrArg State.tables hframe :)
    have hun : u.now = s.now := (congrArg State.now hsFrame :).trans (congrArg State.now hframe :)
    have huq : u.csu.queue = s.csu.queue := by rw [huc]
    obtain ⟨htFrame, hroom, hfull, htRecord⟩ := u.appendNotice_spec out
    have hempty := u.appendNotice_empty out
    have happend {e tail} := u.appendNotice_room (e := e) (tail := tail) out
    have hmature {head tail e} := u.appendNotice_full (head := head) (tail := tail) (e := e) out
    have hexec : exec (.releaseReceived f) s = .next (u.appendNotice out) := congrArg Host.Outcome.next hreceive
    rw [hun, hut, huc] at hempty hmature happend
    rw [huq] at hroom hfull
    generalize u.appendNotice out = t at *
    have hkept {c : Cond} (h1 : c ≠ .forecastQueueFull) (h2 : c ≠ .noticeLost) : t.desk.record c = u.desk.record c := htRecord c h1 h2
    refine ⟨t, hexec, ⟨?_, fun hl => ?_⟩, ?_, fun last hl => ?_, fun hn => ?_, hroom, hfull, hempty, fun e tail hq hl => happend hq hl,
      fun head e tail hq hl => hmature hq hl⟩
    · exact (congrArg State.portU htFrame :).trans ((congrArg State.portU hsFrame :).trans hhu)
    · refine (State.active_of_record (hkept (by simp) (by simp))).trans ((State.active_of_record (hsRecord _ (by simp) (by simp))).trans (hactive hl))
    · have hh : h = { s with portU := h.portU, desk := h.desk } := hframe
      have hu := congrArg (fun x : State => { x with csu := u.csu, desk := u.desk }) hh
      have hu' : u = { h with csu := u.csu, desk := u.desk } := by
        rw [huc, ← hhc]
        exact hsFrame
      have ht := congrArg (fun x : State => { x with csu := t.csu, desk := t.desk }) (hu'.trans hu)
      have hport' : t.portU = h.portU := (congrArg State.portU htFrame :).trans (congrArg State.portU hsFrame :)
      rw [hport']
      exact htFrame.trans ht
    · obtain ⟨hin, hout⟩ := hgap last (by rw [hhc]; exact hl)
      have hsame := hkept (c := .noticeGap) (by simp) (by simp)
      exact ⟨fun h1 => (State.active_of_record hsame).trans (hin h1), fun h1 => State.raised_of_record hsame (hout h1)⟩
    · refine (State.active_of_record (hkept (by simp) (by simp))).trans ?_
      refine (State.active_of_record (s := h) (by rw [hnone (by rw [hhc]; exact hn)])).trans ?_
      exact State.active_of_record (hrecord (by simp))

end Sys2Proof.Machine
end

section
/-! PROOFS. The timers and transmitters of the reach ports, and the own acceptance (O49). -/

namespace Sys2Proof.Machine

/-! ## What an idle transmitter takes (R106, R119) -/

section
variable {s : State} {p : ReachSide}

theorem ReachPort.start_linkcheck {r : ReachPort} (h : r.sending = none) (hq : r.pendingRelease = none) (ha : r.pendingAccept = none)
    (station sequence : Nat) : r.start station sequence = ({ r with
      pendingLinkcheck := false
      sending := if r.pendingLinkcheck then some (makeReachFrame (BitVec.ofNat 8 station) reachLinkcheck 0 []) else none }, sequence) := by
  cases r with
  | mk link lastValid silence period errors release accept linkcheck sending =>
    obtain rfl : sending = none := h
    obtain rfl : release = none := hq
    obtain rfl : accept = none := ha
    cases linkcheck <;> rfl

theorem State.startReach_release {q : Nat} (h : (s.reachPort p).sending = none) (hq : (s.reachPort p).pendingRelease = some q) :
    (s.startReach p).reachPort p = { s.reachPort p with
      pendingRelease := none
      sending := some (makeReachFrame (BitVec.ofNat 8 s.tables.stationOr.stationNumber) 1 (BitVec.ofNat 8 s.csu.outSequence) (beBytes 4 q)) } ∧
    (s.startReach p).csu = { s.csu with outSequence := (s.csu.outSequence + 1) % 256 } := by
  have hstart := ReachPort.start_release h hq s.tables.stationOr.stationNumber s.csu.outSequence
  unfold State.startReach
  dsimp only
  rw [hstart]
  cases p <;> exact ⟨rfl, rfl⟩

theorem State.startReach_accept {a : Nat} (h : (s.reachPort p).sending = none) (hq : (s.reachPort p).pendingRelease = none)
    (ha : (s.reachPort p).pendingAccept = some a) :
    (s.startReach p).reachPort p = { s.reachPort p with
      pendingAccept := none
      sending := some (makeReachFrame (BitVec.ofNat 8 s.tables.stationOr.stationNumber) 2 0 (beBytes 4 a)) } ∧
    (s.startReach p).csu = s.csu := by
  have hstart := ReachPort.start_accept h hq ha s.tables.stationOr.stationNumber s.csu.outSequence
  unfold State.startReach
  dsimp only
  rw [hstart]
  cases p <;> exact ⟨rfl, rfl⟩

theorem State.startReach_linkcheck (h : (s.reachPort p).sending = none) (hq : (s.reachPort p).pendingRelease = none)
    (ha : (s.reachPort p).pendingAccept = none) :
    (s.startReach p).reachPort p = { s.reachPort p with
      pendingLinkcheck := false
      sending := if (s.reachPort p).pendingLinkcheck then
        some (makeReachFrame (BitVec.ofNat 8 s.tables.stationOr.stationNumber) 3 0 []) else none } ∧
    (s.startReach p).csu = s.csu := by
  have hstart := ReachPort.start_linkcheck h hq ha s.tables.stationOr.stationNumber s.csu.outSequence
  unfold State.startReach
  dsimp only
  rw [hstart]
  cases p <;> exact ⟨rfl, rfl⟩

theorem State.startReach_only (s : State) (p : ReachSide) :
    s.startReach p = { (s.setReachPort p ((s.startReach p).reachPort p)) with csu := (s.startReach p).csu } := by
  cases p <;> rfl

end

theorem State.placeAccept_present {s : State} {a : Nat} (hp : s.portPresent .U = true) : s.placeAccept a =
    State.startReach { s with portU := { s.portU with pendingAccept := some a }, csu := { s.csu with lastSent := some a } } .U :=
  if_pos hp

/-! ## A link period (R106, R117) -/

section
variable (s : State) (p : ReachSide)

/-- The own acceptance that a link period sends with its LINKCHECK. -/
def State.ownAtPeriod : Option Nat := match p, s.tables.accept.active with | .U, .valid _ => s.csu.ownAcceptance | _, _ => none

/-- A link period before the transmitter begins: the frames placed pending. -/
def State.periodPlaced : State :=
  { (s.setReachPort p { s.reachPort p with
      period := some (s.now + s.tables.stationOr.linkPeriod), pendingLinkcheck := true
      pendingAccept := match s.ownAtPeriod p with | some a => some a | none => (s.reachPort p).pendingAccept }) with
    csu := match s.ownAtPeriod p with | some a => { s.csu with lastSent := some a } | none => s.csu }

theorem State.periodPlaced_port : (s.periodPlaced p).reachPort p = { s.reachPort p with
    period := some (s.now + s.tables.stationOr.linkPeriod), pendingLinkcheck := true
    pendingAccept := match s.ownAtPeriod p with | some a => some a | none => (s.reachPort p).pendingAccept } := by
  cases p <;> rfl

theorem State.periodPlaced_csu :
    (s.periodPlaced p).csu = match s.ownAtPeriod p with | some a => { s.csu with lastSent := some a } | none => s.csu := rfl

theorem State.periodPlaced_tables : (s.periodPlaced p).tables = s.tables := by cases p <;> rfl

theorem State.periodPlaced_outSequence : (s.periodPlaced p).csu.outSequence = s.csu.outSequence := by
  rw [State.periodPlaced_csu]
  cases s.ownAtPeriod p <;> rfl

theorem State.startReach_periodPlaced_frame : (s.periodPlaced p).startReach p =
    { (s.setReachPort p (((s.periodPlaced p).startReach p).reachPort p)) with csu := ((s.periodPlaced p).startReach p).csu } := by
  cases p <;> rfl

variable {s p}

theorem exec_linkPeriodExpiry {e : Tick} (hp : s.portPresent p = true) (h : (s.reachPort p).period = some e) (he : e ≤ s.now) :
    exec (.linkPeriodExpiry p) s = .next ((s.periodPlaced p).startReach p) := by
  have hdue : s.periodDue p = true := by
    unfold State.periodDue
    rw [hp, h]
    exact timerDue_of_le he
  have hexec : exec (.linkPeriodExpiry p) s = execLinkPeriodExpiry p s := rfl
  rw [hexec, execLinkPeriodExpiry, if_pos hdue]
  cases p with
  | D => rfl
  | U =>
    have hpresent (r : ReachPort) : State.portPresent { s with portU := r } .U = true := hp
    generalize hr : ({ s.reachPort .U with
      period := some (s.now + s.tables.stationOr.linkPeriod), pendingLinkcheck := true } : ReachPort) = r
    have hown : (match ReachSide.U, s.tables.accept.active, s.csu.ownAcceptance with
        | .U, .valid _, some a => Host.Outcome.next ((s.setReachPort .U r).placeAccept a)
        | _, _, _ => .next ((s.setReachPort .U r).startReach .U)) =
        (match s.ownAtPeriod .U with
        | some a => (.next ((s.setReachPort .U r).placeAccept a) : Host.Outcome State Fault Refusal)
        | none => .next ((s.setReachPort .U r).startReach .U)) := by
      unfold State.ownAtPeriod
      cases s.tables.accept.active <;> cases s.csu.ownAcceptance <;> rfl
    dsimp only
    rw [hr]
    refine hown.trans ?_
    unfold State.periodPlaced
    cases s.ownAtPeriod .U with
    | none =>
      rw [← hr]
      rfl
    | some a =>
      refine congrArg Host.Outcome.next ((State.placeAccept_present (hpresent r)).trans ?_)
      rw [← hr]
      rfl

end

/-! ## The own acceptance by the ACCEPT table (R116) -/

/-- The row that an ACCEPT table gives for a headwater: the first at or above it, or the last. -/
theorem acceptRow_of_first {h : Nat} (front : List AcceptRow) {row : AcceptRow} {rest : List AcceptRow}
    (hfront : ∀ x ∈ front, x.threshold < h) (hrow : h ≤ row.threshold ∨ rest = []) : acceptRow h (front ++ row :: rest) = some row := by
  induction front with
  | nil =>
    cases rest with
    | nil => rfl
    | cons next rest => exact if_pos (hrow.resolve_right nofun)
  | cons x front ih =>
    have hskip : ¬h ≤ x.threshold := Nat.not_le.2 (hfront x List.mem_cons_self)
    have hrest := ih fun y hy => hfront y (List.mem_cons_of_mem _ hy)
    cases front <;> exact (if_neg hskip).trans hrest

theorem State.ownAcceptanceNow_of_rows {s : State} {front rest : List AcceptRow} {row : AcceptRow}
    (hrows : s.tables.accept.active = .valid (front ++ row :: rest))
    (hrow : ∀ h, s.lvu.headwater = some h → (∀ x ∈ front, x.threshold < h) ∧ (h ≤ row.threshold ∨ rest = [])) :
    s.ownAcceptanceNow = some (if s.lvu.regime = .flood ∨ s.lvu.headwater = none then 0 else row.acceptance) := by
  unfold State.ownAcceptanceNow
  rw [hrows]
  cases hr : s.lvu.regime with
  | flood => rfl
  | normal =>
    cases hh : s.lvu.headwater with
    | none => rfl
    | some h =>
      obtain ⟨hfront, hlast⟩ := hrow h hh
      simp [acceptRow_of_first front hfront hlast]

/-- The own acceptance of a VALID ACCEPT table, and what Port U sends of it. -/
theorem State.computeOwnAcceptance_spec {s : State} {a : Nat} (ha : s.ownAcceptanceNow = some a) :
    s.computeOwnAcceptance = { s with portU := s.computeOwnAcceptance.portU, csu := s.computeOwnAcceptance.csu } ∧
    s.computeOwnAcceptance.csu.ownAcceptance = some a ∧
    (s.csu.lastSent = some a ∨ s.portPresent .U = false →
      s.computeOwnAcceptance.csu.lastSent = s.csu.lastSent ∧ s.computeOwnAcceptance.portU = s.portU) ∧
    (s.csu.lastSent ≠ some a → s.portPresent .U = true → s.computeOwnAcceptance.csu.lastSent = some a ∧
      (s.portU.sending.isSome = true → s.computeOwnAcceptance.portU = { s.portU with pendingAccept := some a }) ∧
      (s.portU.sending = none → s.portU.pendingRelease = none →
        s.computeOwnAcceptance.portU = { s.portU with pendingAccept := none, sending := some (s.acceptFrame a) })) := by
  have hframe := s.computeOwnAcceptance_frame
  refine ⟨?_, (State.computeOwnAcceptance_own s).trans ha, fun hkept => ?_, fun hl hp => ⟨?_, fun hb => ?_, fun hi hr => ?_⟩⟩
  · exact hframe
  · rw [State.computeOwnAcceptance_kept (.inr (hkept.imp (fun h => h.trans ha.symm) id))]
    exact ⟨rfl, rfl⟩
  · rw [State.computeOwnAcceptance_lastSent hp, ha]
    rfl
  · rw [State.computeOwnAcceptance_busy ha hl hp hb]
    rfl
  · rw [State.computeOwnAcceptance_idle ha hl hp hi hr]

theorem exec_reachSilenceExpiry {s : State} {p : ReachSide} {e : Tick} (hp : s.portPresent p = true)
    (h : (s.reachPort p).silence = some e) (he : e ≤ s.now) :
    exec (.reachSilenceExpiry p) s = .next (State.raise
      { (s.setReachPort p { s.reachPort p with link := .lost, silence := none }) with
        csu := match p with
          | .U => { s.csu with forecast := .degraded }
          | .D => { s.csu with received := none } } (.linkLost p)) := by
  have hdue : s.silenceDue p = true := by
    unfold State.silenceDue
    rw [hp, h]
    exact timerDue_of_le he
  have hexec : exec (.reachSilenceExpiry p) s = execReachSilenceExpiry p s := rfl
  rw [hexec, execReachSilenceExpiry, if_pos hdue]
  cases p <;> rfl

/-- A transmit completion leaves the port idle, and its transmitter takes the first pending kind. -/
theorem exec_reachTransmitCompletion {s : State} {p : ReachSide} (h : (s.reachPort p).sending.isSome = true) :
    exec (.reachTransmitCompletion p) s = .next ((s.setReachPort p { s.reachPort p with sending := none }).startReach p) := by
  obtain ⟨f, hf⟩ := Option.isSome_iff_exists.1 h
  have hexec : exec (.reachTransmitCompletion p) s = execReachTransmitCompletion p s := rfl
  rw [hexec, execReachTransmitCompletion, hf]

/-- Settles O49: a timer places what it places, and an idle transmitter takes the first pending kind. -/
theorem reachPortsKeepTheirTimers : Obligations.ReachPortsKeepTheirTimers := by
  refine ⟨fun s p e he => ?_, fun s front rest row hrows hrow => ?_⟩
  · dsimp only
    refine ⟨fun hp h => ⟨_, exec_reachSilenceExpiry hp h he, ?_, State.raised_raise _ _, ?_, ?_⟩,
      fun hp h => ⟨_, exec_linkPeriodExpiry hp h he, ?_, fun hb => ?_, fun hi => ⟨fun q hq => ?_, fun a hq ha => ?_, fun hq ha => ?_⟩⟩, fun h => ?_⟩
    · cases p <;> rfl
    · cases p <;> rfl
    · cases p <;> rfl
    · exact s.startReach_periodPlaced_frame p
    · rw [State.startReach_busy (by rw [State.periodPlaced_port]; exact hb)]
      exact ⟨s.periodPlaced_port p, s.periodPlaced_csu p⟩
    · have h := State.startReach_release (s := s.periodPlaced p) (p := p) (q := q)
      rw [State.periodPlaced_port, State.periodPlaced_outSequence, State.periodPlaced_tables, State.periodPlaced_csu] at h
      exact h hi hq
    · have h := State.startReach_accept (s := s.periodPlaced p) (p := p) (a := a)
      rw [State.periodPlaced_port, State.periodPlaced_tables, State.periodPlaced_csu] at h
      exact h hi hq ha
    · have h := State.startReach_linkcheck (s := s.periodPlaced p) (p := p)
      rw [State.periodPlaced_port, State.periodPlaced_tables, State.periodPlaced_csu] at h
      exact h hi hq ha
    · have hframe := State.startReach_only (s.setReachPort p { s.reachPort p with sending := none }) p
      have hport := s.reachPort_setReachPort p { s.reachPort p with sending := none }
      have hrelease (q : Nat) := State.startReach_release (s := s.setReachPort p { s.reachPort p with sending := none }) (p := p) (q := q)
      have haccept (a : Nat) := State.startReach_accept (s := s.setReachPort p { s.reachPort p with sending := none }) (p := p) (a := a)
      have hlinkcheck := State.startReach_linkcheck (s := s.setReachPort p { s.reachPort p with sending := none }) (p := p)
      rw [hport] at hrelease haccept hlinkcheck
      have htables : (s.setReachPort p { s.reachPort p with sending := none }).tables = s.tables := by cases p <;> rfl
      have hcsu : (s.setReachPort p { s.reachPort p with sending := none }).csu = s.csu := by cases p <;> rfl
      rw [htables] at hrelease haccept hlinkcheck
      rw [hcsu] at hrelease haccept hlinkcheck
      refine ⟨_, exec_reachTransmitCompletion h, ?_, fun q hq => hrelease q rfl hq, fun a hq ha => haccept a rfl hq ha,
        fun hq ha => hlinkcheck rfl hq ha⟩
      cases p <;> exact hframe
  · have ha := State.ownAcceptanceNow_of_rows hrows hrow
    exact State.computeOwnAcceptance_spec ha

end Sys2Proof.Machine
end

section
/-! PROOFS. The forecast, the refresh and the cascade tables at a round (O50). -/

namespace Sys2Proof.Machine

/-! ## The forecast matures (R110, R111) -/

theorem mature_of_head_later {now : Tick} {rest : List ForecastEntry} (h : ∀ x ∈ rest.head?, now < x.due) (c : Csu) :
    mature now rest c = { c with queue := rest } := by
  cases rest with
  | nil => rfl
  | cons x rest => exact if_neg (Nat.not_le.2 (h x rfl))

theorem mature_of_due {now : Tick} {rest : List ForecastEntry} {last : ForecastEntry} (hlast : last.due ≤ now)
    (hrest : ∀ x ∈ rest.head?, now < x.due) (front : List ForecastEntry) (hfront : ∀ x ∈ front, x.due ≤ now) (c : Csu) :
    mature now (front ++ [last] ++ rest) c = { c with queue := rest, upstream := last.outflow, upstreamSource := .notice } := by
  induction front generalizing c with
  | nil => exact (if_pos hlast).trans (mature_of_head_later hrest _)
  | cons x front ih =>
    exact (if_pos (hfront x List.mem_cons_self)).trans (ih (fun y hy => hfront y (List.mem_cons_of_mem _ hy)) _)

theorem exec_forecastDueExpiry {s : State} {front rest : List ForecastEntry} {last : ForecastEntry}
    (hq : s.csu.queue = front ++ [last] ++ rest) (hfront : ∀ x ∈ front, x.due ≤ s.now) (hlast : last.due ≤ s.now)
    (hrest : ∀ x ∈ rest.head?, s.now < x.due) :
    exec .forecastDueExpiry s = .next { s with
      csu := { s.csu with queue := rest, upstream := last.outflow, upstreamSource := .notice } } := by
  have hdue : s.forecastDue = true := by
    unfold State.forecastDue
    rw [hq]
    cases front with
    | nil => exact decide_eq_true hlast
    | cons x front => exact decide_eq_true (hfront x List.mem_cons_self)
  have hexec : exec .forecastDueExpiry s = execForecastDueExpiry s := rfl
  rw [hexec, execForecastDueExpiry, if_pos hdue, hq, mature_of_due hlast hrest front hfront]

/-! ## A refresh (R118, R119) -/

theorem exec_refreshTimerExpiry {s : State} {e : Tick} (h : s.csu.refreshTimer = some e) (he : e ≤ s.now)
    (hm : s.mdc.mode.governing = true) (hp : s.portPresent .D = true) : exec .refreshTimerExpiry s = .next s.placeRelease := by
  have hdue : timerDue s.csu.refreshTimer s.now = true := by
    rw [h]
    exact timerDue_of_le he
  have hon : s.noticesOn = true := by
    unfold State.noticesOn
    rw [hm, hp]
    rfl
  have hexec : exec .refreshTimerExpiry s = execRefreshTimerExpiry s := rfl
  rw [hexec, execRefreshTimerExpiry, if_pos hdue, if_pos hon]

/-! ## The cascade tables swapped in (R71, R111, R116) -/

/-- From `u` to `v` a table of no effect on the cascade has been swapped in. -/
structure State.SwapsAside (u v : State) : Prop where
  frame : v = { u with tables := v.tables }
  station : v.tables.station = u.tables.station
  accept : v.tables.accept = u.tables.accept
  reach : v.tables.reach = u.tables.reach

section
variable {u v w : State}

theorem State.SwapsAside.refl : u.SwapsAside u := ⟨rfl, rfl, rfl, rfl⟩

theorem State.SwapsAside.trans (huv : u.SwapsAside v) (hvw : v.SwapsAside w) : u.SwapsAside w := by
  refine ⟨?_, hvw.station.trans huv.station, hvw.accept.trans huv.accept, hvw.reach.trans huv.reach⟩
  have hframe := congrArg (fun x : State => { x with tables := w.tables }) huv.frame
  exact hvw.frame.trans hframe

/-- One READY image taken into use. -/
def State.swapIn (u : State) (p : TableId × TableData) : State := State.takeContents { u with tables := u.tables.dropShadow p.1 } p.2

theorem State.swapIn_ramp (u : State) (o : OpTable Ramp) :
    u.SwapsAside ((match o.shadow with | .ready x => [(TableId.ramp, TableData.ramp x)] | _ => []).foldl State.swapIn u) := by
  cases o.shadow <;> exact ⟨rfl, rfl, rfl, rfl⟩

theorem State.swapIn_flood (u : State) (o : OpTable (List FloodRow)) :
    u.SwapsAside ((match o.shadow with | .ready x => [(TableId.flood, TableData.flood x)] | _ => []).foldl State.swapIn u) := by
  cases o.shadow <;> exact ⟨rfl, rfl, rfl, rfl⟩

theorem State.swapIn_fill (u : State) (o : OpTable (List (Fin 16))) :
    u.SwapsAside ((match o.shadow with | .ready x => [(TableId.fill, TableData.fill x)] | _ => []).foldl State.swapIn u) := by
  cases o.shadow <;> exact ⟨rfl, rfl, rfl, rfl⟩

/-- A READY ACCEPT table taken into use, or the state as it is. -/
def State.acceptSwapped (u : State) (o : OpTable (List AcceptRow)) : State :=
  (match o.shadow with | .ready x => [(TableId.accept, TableData.accept x)] | _ => []).foldl State.swapIn u

/-- A READY REACH table taken into use, or the state as it is. -/
def State.reachSwapped (u : State) (o : OpTable Reach) : State :=
  (match o.shadow with | .ready x => [(TableId.reach, TableData.reach x)] | _ => []).foldl State.swapIn u

/-- The swap is that of ACCEPT and REACH between swaps of no effect on the cascade. -/
theorem State.swapShadows_cascade (s : State) : ∃ u v, s.SwapsAside u ∧ ((u.acceptSwapped s.tables.accept).reachSwapped s.tables.reach).SwapsAside v ∧
    s.swapShadows = v := by
  have hfold : s.swapShadows = s.tables.readyShadows.foldl State.swapIn s := rfl
  rw [hfold]
  unfold Tables.readyShadows
  rw [List.foldl_append, List.foldl_append, List.foldl_append, List.foldl_append]
  have hramp := s.swapIn_ramp s.tables.ramp
  generalize List.foldl State.swapIn s _ = a at hramp ⊢
  have hflood := a.swapIn_flood s.tables.flood
  generalize List.foldl State.swapIn a _ = b at hflood ⊢
  exact ⟨b, _, hramp.trans hflood, State.swapIn_fill _ s.tables.fill, rfl⟩

theorem State.ownAcceptanceNow_congr {a b : State} (haccept : b.tables.accept.active = a.tables.accept.active) (hlvu : b.lvu = a.lvu) :
    b.ownAcceptanceNow = a.ownAcceptanceNow := by
  unfold State.ownAcceptanceNow
  rw [haccept, hlvu]

theorem State.acceptSwapped_spec (u : State) (o : OpTable (List AcceptRow)) :
    (∀ rows, o.shadow = .ready rows →
      (u.acceptSwapped o).csu.ownAcceptance = (u.acceptSwapped o).ownAcceptanceNow ∧
      (u.portPresent .U = true → (u.acceptSwapped o).csu.lastSent = (u.acceptSwapped o).csu.ownAcceptance)) ∧
    ((∀ rows, o.shadow ≠ .ready rows) → u.acceptSwapped o = u) ∧
    (u.acceptSwapped o).csu.upstream = u.csu.upstream ∧ (u.acceptSwapped o).csu.upstreamSource = u.csu.upstreamSource ∧
    (u.acceptSwapped o).tables.reach = u.tables.reach ∧ (u.acceptSwapped o).lvu = u.lvu := by
  unfold State.acceptSwapped
  cases hs : o.shadow with
  | ready rows =>
    generalize hw : ({ u with tables := (u.tables.dropShadow .accept).setContents (.accept rows) } : State) = w
    have hvalid : w.tables.accept.active = .valid rows := by rw [← hw]; rfl
    have hcompute : [(TableId.accept, TableData.accept rows)].foldl State.swapIn u = w.computeOwnAcceptance := by rw [← hw]; rfl
    have hcsu : w.csu = u.csu := by rw [← hw]
    have hreach : w.tables.reach = u.tables.reach := by rw [← hw]; rfl
    have hlvu : w.lvu = u.lvu := by rw [← hw]
    have hpresent : w.portPresent .U = u.portPresent .U := by rw [← hw]; rfl
    have hframe := w.computeOwnAcceptance_frame
    have hown := w.computeOwnAcceptance_own
    have hsent := State.computeOwnAcceptance_lastSent (s := w)
    obtain ⟨a, ha⟩ : ∃ a, w.ownAcceptanceNow = some a := by
      unfold State.ownAcceptanceNow
      rw [hvalid]
      cases w.lvu.regime <;> cases w.lvu.headwater <;> exact ⟨_, rfl⟩
    dsimp only
    rw [hcompute]
    have hkept := w.computeOwnAcceptance_sameWatches
    generalize w.computeOwnAcceptance = t at *
    have hnow : t.ownAcceptanceNow = w.ownAcceptanceNow :=
      State.ownAcceptanceNow_congr (congrArg (·.tables.accept.active) hframe :) (congrArg State.lvu hframe :)
    refine ⟨fun _ _ => ⟨hown.trans hnow.symm, fun hp => ?_⟩, fun h => absurd rfl (h rows), hkept.upstream.trans (congrArg Csu.upstream hcsu),
      hkept.source.trans (congrArg Csu.upstreamSource hcsu), ?_, (congrArg State.lvu hframe :).trans hlvu⟩
    · rw [hsent (hpresent.trans hp), ha, hown, ha]
      rfl
    · exact (congrArg Tables.reach hkept.tables).trans hreach
  | _ => exact ⟨nofun, fun _ => rfl, rfl, rfl, rfl, rfl⟩

theorem State.reachSwapped_spec (u : State) (o : OpTable Reach) :
    u.reachSwapped o = { u with
      csu := { u.csu with upstream := (u.reachSwapped o).csu.upstream }, tables := (u.reachSwapped o).tables } ∧
    (u.reachSwapped o).tables.accept = u.tables.accept ∧
    (∀ r, o.shadow = .ready r → u.csu.upstreamSource = .initial → (u.reachSwapped o).csu.upstream = r.initial) ∧
    ((∀ r, o.shadow ≠ .ready r) ∨ u.csu.upstreamSource = .notice → (u.reachSwapped o).csu.upstream = u.csu.upstream) := by
  unfold State.reachSwapped
  cases hs : o.shadow with
  | ready r =>
    generalize hw : ({ u with tables := (u.tables.dropShadow .reach).setContents (.reach r) } : State) = w
    have hfollow : [(TableId.reach, TableData.reach r)].foldl State.swapIn u = w.followReach := by rw [← hw]; rfl
    dsimp only
    rw [hfollow, State.followReach_eq, ← hw]
    refine ⟨rfl, rfl, fun r' hr' hi => ?_, fun h => ?_⟩
    · obtain rfl := Shadow.ready.inj hr'
      exact if_pos hi
    · obtain h | h := h
      · exact absurd rfl (h r)
      · exact if_neg (by rw [h]; decide)
  | _ => exact ⟨rfl, rfl, nofun, fun _ => rfl⟩

/-- What the swap of READY shadows does to the cascade. -/
theorem State.swapShadows_csu (s : State) :
    (∀ rows, s.tables.accept.shadow = .ready rows →
      s.swapShadows.csu.ownAcceptance = s.swapShadows.ownAcceptanceNow ∧
      (s.portPresent .U = true → s.swapShadows.csu.lastSent = s.swapShadows.csu.ownAcceptance)) ∧
    ((∀ rows, s.tables.accept.shadow ≠ .ready rows) →
      s.swapShadows.csu.ownAcceptance = s.csu.ownAcceptance ∧ s.swapShadows.csu.lastSent = s.csu.lastSent ∧
      s.swapShadows.portU = s.portU) ∧
    (∀ r, s.tables.reach.shadow = .ready r → s.csu.upstreamSource = .initial → s.swapShadows.csu.upstream = r.initial) ∧
    ((∀ r, s.tables.reach.shadow ≠ .ready r) ∨ s.csu.upstreamSource = .notice → s.swapShadows.csu.upstream = s.csu.upstream) := by
  obtain ⟨u, v, hsu, hwv, hv⟩ := s.swapShadows_cascade
  rw [hv]
  obtain ⟨hready, hnot, hupstream, hsource, -, -⟩ := u.acceptSwapped_spec s.tables.accept
  generalize u.acceptSwapped s.tables.accept = a at *
  obtain ⟨hframe, haccept, hinitial, hkept⟩ := a.reachSwapped_spec s.tables.reach
  generalize a.reachSwapped s.tables.reach = b at *
  have hvcsu : v.csu = b.csu := (congrArg State.csu hwv.frame :)
  have hbcsu : b.csu = { a.csu with upstream := b.csu.upstream } := (congrArg State.csu hframe :)
  have hucsu : u.csu = s.csu := (congrArg State.csu hsu.frame :)
  have hnow : v.ownAcceptanceNow = a.ownAcceptanceNow :=
    State.ownAcceptanceNow_congr (congrArg OpTable.active (hwv.accept.trans haccept))
      ((congrArg State.lvu hwv.frame :).trans (congrArg State.lvu hframe :))
  have hown : v.csu.ownAcceptance = a.csu.ownAcceptance := by rw [hvcsu, hbcsu]
  have hsent : v.csu.lastSent = a.csu.lastSent := by rw [hvcsu, hbcsu]
  have hport : v.portU = a.portU := (congrArg State.portU hwv.frame :).trans (congrArg State.portU hframe :)
  have hpresent : u.portPresent .U = s.portPresent .U := portPresent_of_station_eq hsu.station .U
  refine ⟨fun rows hr => ?_, fun hn => ?_, fun r hr hi => ?_, fun h => ?_⟩
  · rw [hnow, hown, hsent, ← hpresent]
    exact hready rows hr
  · rw [hown, hsent, hport, hnot hn, hucsu]
    exact ⟨rfl, rfl, (congrArg State.portU hsu.frame :)⟩
  · rw [hvcsu]
    exact hinitial r hr (hsource.trans (by rw [hucsu]; exact hi))
  · rw [hvcsu, hkept (h.imp id fun hs => hsource.trans (by rw [hucsu]; exact hs)), hupstream, hucsu]

end

/-! ## A round leaves the cascade as its start made it (R86 to R89) -/

section
variable (s : State) (plans : List Plan) (a : Accepted)

theorem State.adoptOrders_frame : s.adoptOrders = { s with yard := s.adoptOrders.yard } := by
  unfold State.adoptOrders
  refine foldl_keeps (fun t : State => t = { s with yard := t.yard }) _ (fun t i ht => ?_) _ _ rfl
  exact congrArg (fun x : State => x.setGate i (t.gate i).adopt) ht

theorem State.roundStart_frame : s.roundStart = { s.restartRound.swapShadows with yard := s.roundStart.yard } := by
  unfold State.roundStart
  dsimp only
  split
  · exact State.adoptOrders_frame _
  · rfl

/-- A round before its result is recorded: setpoints and planned outflow committed, and targets handed over. -/
def State.roundHanded : State :=
  State.handTargets { s.commitSetpoints a.setpoints with rgv := { s.rgv with planned := a.planned } } plans a.setpoints

theorem State.commitSetpoints_frame (l : List (Fin 16 × Nat)) : s.commitSetpoints l = { s with yard := (s.commitSetpoints l).yard } := by
  unfold State.commitSetpoints
  refine foldl_keeps (fun t : State => t = { s with yard := t.yard }) _ (fun t p ht => ?_) _ _ rfl
  exact congrArg (fun x : State => x.setGate p.1 { t.gate p.1 with commanded := some p.2 }) ht

theorem State.commitRound_eq : s.commitRound plans a = ((s.roundHanded plans a).recordResult (roundResult plans a)).handOverPlanned := by
  have hrgv : (s.commitSetpoints a.setpoints).rgv = s.rgv := (congrArg State.rgv (s.commitSetpoints_frame a.setpoints) :)
  unfold State.commitRound State.roundHanded
  dsimp only
  rw [hrgv]

theorem State.roundHanded_frame : s.roundHanded plans a = { s with
    yard := (s.roundHanded plans a).yard, rgv := { s.rgv with planned := a.planned }, desk := (s.roundHanded plans a).desk } := by
  have hcommit := s.commitSetpoints_frame a.setpoints
  unfold State.roundHanded
  generalize s.commitSetpoints a.setpoints = u at hcommit ⊢
  have hframe := State.handTargets_frame { u with rgv := { s.rgv with planned := a.planned } } plans a.setpoints
  generalize State.handTargets { u with rgv := { s.rgv with planned := a.planned } } plans a.setpoints = v at hframe ⊢
  have hu := congrArg (fun x : State => { x with yard := v.yard, rgv := { s.rgv with planned := a.planned }, desk := v.desk }) hcommit
  exact hframe.trans hu

theorem State.recordResult_frame (r : RoundResult) :
    s.recordResult r = { s with rgv := { s.rgv with lastResult := r }, desk := (s.recordResult r).desk } := by
  cases r <;> rfl

theorem State.handOverPlanned_csu : s.handOverPlanned.csu = { s.csu with
    lastNotified := s.handOverPlanned.csu.lastNotified, lastRelease := s.handOverPlanned.csu.lastRelease
    refreshTimer := s.handOverPlanned.csu.refreshTimer, outSequence := s.handOverPlanned.csu.outSequence } := by
  unfold State.handOverPlanned
  split
  · split
    · rfl
    · split <;> rfl
  · rfl

/-- What a round leaves of its start. -/
theorem State.commitRound_frame : s.commitRound plans a = { s with
    yard := (s.roundHanded plans a).yard, rgv := { s.rgv with planned := a.planned, lastResult := roundResult plans a }
    desk := ((s.roundHanded plans a).recordResult (roundResult plans a)).desk
    csu := (s.commitRound plans a).csu, portD := (s.commitRound plans a).portD } := by
  have hhanded := s.roundHanded_frame plans a
  rw [State.commitRound_eq]
  generalize s.roundHanded plans a = u at hhanded ⊢
  have hrecord := u.recordResult_frame (roundResult plans a)
  generalize u.recordResult (roundResult plans a) = v at hrecord ⊢
  have hover := v.handOverPlanned_frame
  generalize v.handOverPlanned = w at hover ⊢
  have hurgv : u.rgv = { s.rgv with planned := a.planned } := (congrArg State.rgv hhanded :)
  have hv := congrArg (fun x : State => { x with csu := w.csu, portD := w.portD }) hrecord
  have hu := congrArg (fun x : State => { x with
    rgv := { s.rgv with planned := a.planned, lastResult := roundResult plans a }, desk := v.desk, csu := w.csu, portD := w.portD }) hhanded
  rw [hurgv] at hv
  exact (hover.trans hv).trans hu

theorem State.commitRound_csu : (s.commitRound plans a).csu = { s.csu with
    lastNotified := (s.commitRound plans a).csu.lastNotified, lastRelease := (s.commitRound plans a).csu.lastRelease
    refreshTimer := (s.commitRound plans a).csu.refreshTimer, outSequence := (s.commitRound plans a).csu.outSequence } := by
  have hhanded := s.roundHanded_frame plans a
  rw [State.commitRound_eq]
  generalize s.roundHanded plans a = u at hhanded ⊢
  have hrecord := u.recordResult_frame (roundResult plans a)
  generalize u.recordResult (roundResult plans a) = v at hrecord ⊢
  have hcsu : v.csu = s.csu := (congrArg State.csu hrecord :).trans (congrArg State.csu hhanded :)
  rw [← hcsu]
  exact v.handOverPlanned_csu

variable {s}

theorem exec_governingRound {e : Tick} (h : s.rgv.roundTimer = some e) (he : e ≤ s.now) : exec .governingRound s = .next s.takeRound := by
  have hdue : timerDue s.rgv.roundTimer s.now = true := by
    rw [h]
    exact timerDue_of_le he
  have hexec : exec .governingRound s = execGoverningRound s := rfl
  rw [hexec, execGoverningRound, if_pos hdue]

end

/-- Settles O50: the due entries mature from the head, a refresh notifies, and a round changes the cascade by its swap alone. -/
theorem cascadeTimersTakeEffect : Obligations.CascadeTimersTakeEffect := by
  refine ⟨fun s front rest last hq hfront hlast hrest => exec_forecastDueExpiry hq hfront hlast hrest,
    fun s e h he hm hp => ⟨_, exec_refreshTimerExpiry h he hm hp, s.placeRelease_frame, s.placeRelease_notified⟩, fun s e h he => ?_⟩
  obtain ⟨hready, hnot, hinitial, hkept⟩ := s.restartRound.swapShadows_csu
  refine ⟨_, exec_governingRound h he, ?_⟩
  have hstart := s.roundStart_frame
  unfold State.takeRound
  dsimp only
  generalize s.restartRound.swapShadows = u at *
  generalize s.roundStart = v at *
  have hframe := v.commitRound_frame v.plans (v.trials v.plans v.plannedSum)
  have hcsu := v.commitRound_csu v.plans (v.trials v.plans v.plannedSum)
  generalize v.commitRound v.plans (v.trials v.plans v.plannedSum) = t at *
  have hvcsu : v.csu = u.csu := (congrArg State.csu hstart :)
  have hnow : t.ownAcceptanceNow = u.ownAcceptanceNow := State.ownAcceptanceNow_congr
    ((congrArg (·.tables.accept.active) hframe :).trans (congrArg (·.tables.accept.active) hstart :))
    ((congrArg State.lvu hframe :).trans (congrArg State.lvu hstart :))
  have hown : t.csu.ownAcceptance = u.csu.ownAcceptance := by rw [hcsu, hvcsu]
  have hsent : t.csu.lastSent = u.csu.lastSent := by rw [hcsu, hvcsu]
  have hupstream : t.csu.upstream = u.csu.upstream := by rw [hcsu, hvcsu]
  have hport : t.portU = u.portU := (congrArg State.portU hframe :).trans (congrArg State.portU hstart :)
  rw [hnow, hown, hsent, hupstream, hport]
  exact ⟨hready, hnot, hinitial, hkept⟩

end Sys2Proof.Machine
end

section
/-! PROOFS. Payloads of requests and images of tables read back (O5, O6). -/

namespace Sys2Proof.Machine

/-! ## Request payloads (R171) -/

theorem wordOf_toNat (hi lo : Byte) : (wordOf hi lo).toNat = hi.toNat * 256 + lo.toNat := by
  have hlo := lo.isLt
  have happend : (wordOf hi lo).toNat = hi.toNat <<< 8 ||| lo.toNat := BitVec.toNat_append hi lo
  rw [happend, ← Nat.shiftLeft_add_eq_or_of_lt hlo, Nat.shiftLeft_eq]

theorem beBytes_wordOf (hi lo : Byte) : beBytes 2 (wordOf hi lo).toNat = [hi, lo] := by
  have hpair : beNat [hi, lo] = (wordOf hi lo).toNat := by
    rw [wordOf_toNat]
    simp [beNat]
  rw [← hpair]
  exact beBytes_beNat [hi, lo]

theorem wordOf_beBytes (n : BitVec 16) : ∃ hi lo, beBytes 2 n.toNat = [hi, lo] ∧ wordOf hi lo = n := by
  refine ⟨BitVec.ofNat 8 (n.toNat / 256), BitVec.ofNat 8 n.toNat, rfl, BitVec.eq_of_toNat_eq ?_⟩
  have hn := n.isLt
  rw [wordOf_toNat, BitVec.toNat_ofNat, BitVec.toNat_ofNat]
  omega

theorem parseRequest_payload (r : Request) (hr : ∀ o d, r = .loadSegment o d → segmentLengthOk d = true) : parseRequest r.payload = some r := by
  cases r with
  | readTable t o | loadBegin t o | loadEnd o =>
    obtain ⟨hi, lo, hbytes, hword⟩ := wordOf_beBytes o
    rw [Request.payload, hbytes, ← hword]
    rfl
  | loadSegment o d =>
    obtain ⟨hi, lo, hbytes, hword⟩ := wordOf_beBytes o
    rw [Request.payload, hbytes, ← hword]
    exact if_pos (hr o d rfl)
  | _ => rfl

/-- A request parsed from a code and arguments has that code, and spells both. -/
def SpellsBack (n : Nat) (a : List Byte) : Prop := ∀ r, parseArguments n a = some r → r.code.toNat = n ∧ r.payload = r.code :: a

theorem SpellsBack.of_none {n : Nat} {a : List Byte} (h : parseArguments n a = none) : SpellsBack n a := by
  intro r hr
  rw [h] at hr
  exact nomatch hr

theorem SpellsBack.of_some {n : Nat} {a : List Byte} {r : Request} (h : parseArguments n a = some r) (hcode : r.code.toNat = n)
    (hpayload : r.payload = r.code :: a) : SpellsBack n a := by
  intro r' hr
  obtain rfl := Option.some.inj (h.symm.trans hr)
  exact ⟨hcode, hpayload⟩

section
variable {n : Nat}

/-- A request without arguments. -/
theorem SpellsBack.bare {r : Request} (hnil : parseArguments n [] = some r) (hcons : ∀ x l, parseArguments n (x :: l) = none)
    (hcode : r.code.toNat = n) (hpayload : r.payload = [r.code]) (a : List Byte) : SpellsBack n a :=
  match a with
  | [] => .of_some hnil hcode hpayload
  | x :: l => .of_none (hcons x l)

/-- A request of one argument byte. -/
theorem SpellsBack.byte {f : Byte → Request} (hone : ∀ x, parseArguments n [x] = some (f x)) (hnil : parseArguments n [] = none)
    (hcons : ∀ x y l, parseArguments n (x :: y :: l) = none) (hcode : ∀ x, (f x).code.toNat = n)
    (hpayload : ∀ x, (f x).payload = [(f x).code, x]) (a : List Byte) : SpellsBack n a :=
  match a with
  | [] => .of_none hnil
  | [x] => .of_some (hone x) (hcode x) (hpayload x)
  | x :: y :: l => .of_none (hcons x y l)

/-- A request of two argument bytes. -/
theorem SpellsBack.pair {f : Byte → Byte → Request} (htwo : ∀ x y, parseArguments n [x, y] = some (f x y)) (hnil : parseArguments n [] = none)
    (hone : ∀ x, parseArguments n [x] = none) (hcons : ∀ x y z l, parseArguments n (x :: y :: z :: l) = none)
    (hcode : ∀ x y, (f x y).code.toNat = n) (hpayload : ∀ x y, (f x y).payload = [(f x y).code, x, y]) (a : List Byte) : SpellsBack n a :=
  match a with
  | [] => .of_none hnil
  | [x] => .of_none (hone x)
  | [x, y] => .of_some (htwo x y) (hcode x y) (hpayload x y)
  | x :: y :: z :: l => .of_none (hcons x y z l)

/-- A request of three argument bytes. -/
theorem SpellsBack.triple {f : Byte → Byte → Byte → Request} (hthree : ∀ x y z, parseArguments n [x, y, z] = some (f x y z))
    (hnil : parseArguments n [] = none) (hone : ∀ x, parseArguments n [x] = none) (htwo : ∀ x y, parseArguments n [x, y] = none)
    (hcons : ∀ x y z w l, parseArguments n (x :: y :: z :: w :: l) = none) (hcode : ∀ x y z, (f x y z).code.toNat = n)
    (hpayload : ∀ x y z, (f x y z).payload = [(f x y z).code, x, y, z]) (a : List Byte) : SpellsBack n a :=
  match a with
  | [] => .of_none hnil
  | [x] => .of_none (hone x)
  | [x, y] => .of_none (htwo x y)
  | [x, y, z] => .of_some (hthree x y z) (hcode x y z) (hpayload x y z)
  | x :: y :: z :: w :: l => .of_none (hcons x y z w l)

end

theorem SpellsBack.segment (a : List Byte) : SpellsBack 9 a :=
  match a with
  | [] => .of_none rfl
  | [_] => .of_none rfl
  | h :: l :: d => fun r hr => by
    have hparse : parseArguments 9 (h :: l :: d) = if segmentLengthOk d then some (.loadSegment (wordOf h l) d) else none := rfl
    obtain rfl := (Option.eq_of_ite_some (hparse.symm.trans hr)).2
    exact ⟨rfl, congrArg (fun w => 9 :: (w ++ d)) (beBytes_wordOf h l)⟩

theorem spellsBack (n : Nat) (a : List Byte) : SpellsBack n a :=
  match n with
  | 1 => .bare (r := .readStatus) rfl (fun _ _ => rfl) rfl rfl a
  | 5 => .bare (r := .readPorts) rfl (fun _ _ => rfl) rfl rfl a
  | 11 => .bare (r := .loadAbort) rfl (fun _ _ => rfl) rfl rfl a
  | 12 => .bare (r := .save) rfl (fun _ _ => rfl) rfl rfl a
  | 13 => .bare (r := .enter) rfl (fun _ _ => rfl) rfl rfl a
  | 14 => .bare (r := .resume) rfl (fun _ _ => rfl) rfl rfl a
  | 15 => .bare (r := .freeze) rfl (fun _ _ => rfl) rfl rfl a
  | 16 => .bare (r := .configure) rfl (fun _ _ => rfl) rfl rfl a
  | 17 => .bare (r := .restoreForecast) rfl (fun _ _ => rfl) rfl rfl a
  | 19 => .bare (r := .restart) rfl (fun _ _ => rfl) rfl rfl a
  | 2 => .byte (f := .readGate) (fun _ => rfl) rfl (fun _ _ _ => rfl) (fun _ => rfl) (fun _ => rfl) a
  | 3 => .byte (f := .readChannel) (fun _ => rfl) rfl (fun _ _ _ => rfl) (fun _ => rfl) (fun _ => rfl) a
  | 4 => .byte (f := .readConditions) (fun _ => rfl) rfl (fun _ _ _ => rfl) (fun _ => rfl) (fun _ => rfl) a
  | 18 => .byte (f := .clearGate) (fun _ => rfl) rfl (fun _ _ _ => rfl) (fun _ => rfl) (fun _ => rfl) a
  | 7 => .pair (f := .ackCondition) (fun _ _ => rfl) rfl (fun _ => rfl) (fun _ _ _ _ => rfl) (fun _ _ => rfl) (fun _ _ => rfl) a
  | 10 => .pair (f := fun h l => .loadEnd (wordOf h l)) (fun _ _ => rfl) rfl (fun _ => rfl) (fun _ _ _ _ => rfl) (fun _ _ => rfl)
      (fun h l => congrArg (10 :: ·) (beBytes_wordOf h l)) a
  | 6 => .triple (f := fun t h l => .readTable t (wordOf h l)) (fun _ _ _ => rfl) rfl (fun _ => rfl) (fun _ _ => rfl) (fun _ _ _ _ _ => rfl)
      (fun _ _ _ => rfl) (fun t h l => congrArg (6 :: t :: ·) (beBytes_wordOf h l)) a
  | 8 => .triple (f := fun t h l => .loadBegin t (wordOf h l)) (fun _ _ _ => rfl) rfl (fun _ => rfl) (fun _ _ => rfl) (fun _ _ _ _ _ => rfl)
      (fun _ _ _ => rfl) (fun t h l => congrArg (8 :: t :: ·) (beBytes_wordOf h l)) a
  | 9 => .segment a
  | 0 => .of_none (match a with | [] => rfl | [_] => rfl | [_, _] => rfl | [_, _, _] => rfl | _ :: _ :: _ :: _ :: _ => rfl)
  | _ + 20 => .of_none (match a with | [] => rfl | [_] => rfl | [_, _] => rfl | [_, _, _] => rfl | _ :: _ :: _ :: _ :: _ => rfl)

/-- Settles O6: a two-byte argument and its word spell each other, and so do a code with its arguments and the request. -/
theorem requestPayloadsReadBack : Obligations.RequestPayloadsReadBack := by
  refine ⟨parseRequest_payload, fun p r h => ?_⟩
  cases p with
  | nil => exact nomatch h
  | cons code a =>
    obtain ⟨hcode, hpayload⟩ := spellsBack _ _ _ h
    rw [hpayload, BitVec.eq_of_toNat_eq hcode]

end Sys2Proof.Machine
end

section
/-! PROOFS. Images of tables read back (O5). -/

namespace Sys2Proof.Machine

/-! ## Fields of a run of bytes (chapter 12) -/

section
variable {b : List Byte} {off w : Nat}

/-- A field written back is the part of the run it was read from. -/
theorem beBytes_beAt (h : off + w ≤ b.length) : beBytes w (beAt b off w) = (b.drop off).take w := by
  have hlen : ((b.drop off).take w).length = w := by rw [List.length_take, List.length_drop]; omega
  have hback := beBytes_beNat ((b.drop off).take w)
  rwa [hlen] at hback

/-- A field joins the rest of the run. -/
theorem field_append {next : Nat} (h : off + w ≤ b.length) (hnext : next = off + w) :
    beBytes w (beAt b off w) ++ b.drop next = b.drop off := by
  rw [beBytes_beAt h, hnext, ← List.drop_drop, List.take_append_drop]

/-- The last field is the rest of the run. -/
theorem field_last (h : off + w = b.length) : beBytes w (beAt b off w) = b.drop off := by
  rw [beBytes_beAt (Nat.le_of_eq h), List.take_of_length_le]
  rw [List.length_drop]
  omega

theorem beAt_of_append {pre post : List Byte} {n : Nat} (hn : n < 256 ^ w) (hoff : pre.length = off) :
    beAt (pre ++ (beBytes w n ++ post)) off w = n := by
  have hdrop : (pre ++ (beBytes w n ++ post)).drop off = beBytes w n ++ post := List.drop_left' hoff
  have htake : (beBytes w n ++ post).take w = beBytes w n := List.take_left' (beBytes_length w n)
  rw [beAt, hdrop, htake, beNat_beBytes w n hn]

/-! ## Entries -/

theorem entriesAt_length (k : Nat) : (entriesAt b off w k).length = k := by simp [entriesAt]

theorem length_of_mem_entriesAt {k : Nat} {e : List Byte} (h : off + w * k ≤ b.length) (he : e ∈ entriesAt b off w k) : e.length = w := by
  obtain ⟨i, hi, rfl⟩ := List.mem_map.1 he
  have hstep : w * i + w ≤ w * k := by
    rw [← Nat.mul_succ]
    exact Nat.mul_le_mul_left w (List.mem_range.1 hi)
  rw [List.length_take, List.length_drop]
  omega

theorem entriesAt_flatten (b : List Byte) (off w k : Nat) : (entriesAt b off w k).flatten = (b.drop off).take (w * k) := by
  induction k with
  | zero => simp [entriesAt]
  | succ k ih =>
    have hsucc : entriesAt b off w (k + 1) = entriesAt b off w k ++ [(b.drop (off + w * k)).take w] := by
      simp [entriesAt, List.range_succ]
    rw [hsucc, List.flatten_append, ih, Nat.mul_succ, List.take_add, List.flatten_singleton, List.drop_drop]

/-- Entries that fill the run from an offset on are the rest of the run. -/
theorem entriesAt_flatten_of_length {k : Nat} (h : off + w * k = b.length) : (entriesAt b off w k).flatten = b.drop off := by
  rw [entriesAt_flatten, List.take_of_length_le]
  rw [List.length_drop]
  omega

end

section
variable {α β : Type} {f : List Byte → α} {g : α → List Byte}

theorem flatMap_map_of_readBack {l : List (List Byte)} (h : ∀ e ∈ l, g (f e) = e) : (l.map f).flatMap g = l.flatten := by
  induction l with
  | nil => rfl
  | cons e l ih =>
    rw [List.map_cons, List.flatMap_cons, List.flatten_cons, h e List.mem_cons_self, ih fun x hx => h x (List.mem_cons_of_mem _ hx)]

/-- Entries that are all read give back what they were read from. -/
theorem allSome_readBack {x : Type} {f : x → Option α} {w : x → List Byte} {l : List x} {r : List α} (hall : allSome (l.map f) = some r)
    (h : ∀ e ∈ l, ∀ a, f e = some a → g a = w e) : r.flatMap g = l.flatMap w ∧ r.length = l.length := by
  induction l generalizing r with
  | nil =>
    obtain rfl : [] = r := Option.some.inj hall
    exact ⟨rfl, rfl⟩
  | cons e l ih =>
    rw [List.map_cons] at hall
    cases hf : f e with
    | none =>
      rw [hf] at hall
      exact nomatch hall
    | some a =>
      rw [hf, allSome] at hall
      cases hrest : allSome (l.map f) with
      | none =>
        rw [hrest] at hall
        exact nomatch hall
      | some r' =>
        rw [hrest] at hall
        obtain rfl : a :: r' = r := Option.some.inj hall
        obtain ⟨hflat, hlen⟩ := ih hrest fun y hy => h y (List.mem_cons_of_mem _ hy)
        rw [List.flatMap_cons, List.flatMap_cons, h e List.mem_cons_self a hf, hflat, List.length_cons, List.length_cons, hlen]
        exact ⟨rfl, rfl⟩

end

/-! ## Each table's image (R172) -/

section
variable {b : List Byte}

theorem stationImage_readStation (h : b.length = 44) : stationImage (readStation b) = b := by
  unfold stationImage readStation
  dsimp only
  simp (disch := omega) only [List.append_assoc, field_append, field_last]
  rfl

theorem gateCfgImage_readGateCfg {g : GateCfg} (h : b.length = 36) (hg : readGateCfg b = some g) : gateCfgImage g = b := by
  unfold readGateCfg at hg
  split at hg
  next hcodes =>
    split at hg
    next =>
      obtain rfl := Option.some.inj hg
      have hservice : (beAt b 0 1 == 1).toNat = beAt b 0 1 := by
        obtain h0 | h1 : beAt b 0 1 = 0 ∨ beAt b 0 1 = 1 := by omega
        · rw [h0]; rfl
        · rw [h1]; rfl
      unfold gateCfgImage
      dsimp only
      obtain h0 | h1 : beAt b 1 1 = 0 ∨ beAt b 1 1 = 1 := by omega
      · have hkind : beBytes 1 0 = beBytes 1 (beAt b 1 1) := congrArg _ h0.symm
        rw [hservice, if_pos h0]
        dsimp only
        rw [hkind]
        simp (disch := omega) only [List.append_assoc, field_append, field_last]
        rfl
      · have hkind : beBytes 1 1 = beBytes 1 (beAt b 1 1) := congrArg _ h1.symm
        rw [hservice, if_neg (by omega)]
        dsimp only
        rw [hkind]
        simp (disch := omega) only [List.append_assoc, field_append, field_last]
        rfl
    next => exact nomatch hg
  next => exact nomatch hg

theorem groupCfgImage_readGroupCfg {g : GroupCfg} (h : b.length = 4) (hg : readGroupCfg b = some g) : groupCfgImage g = b := by
  unfold readGroupCfg at hg
  split at hg
  next hcode =>
    obtain rfl := Option.some.inj hg
    unfold groupCfgImage
    dsimp only
    obtain h0 | h1 : beAt b 0 1 = 0 ∨ beAt b 0 1 = 1 := by omega
    · have hkind : beBytes 1 0 = beBytes 1 (beAt b 0 1) := congrArg _ h0.symm
      rw [if_pos h0]
      dsimp only
      rw [hkind]
      simp (disch := omega) only [List.append_assoc, field_append, field_last]
      rfl
    · have hkind : beBytes 1 1 = beBytes 1 (beAt b 0 1) := congrArg _ h1.symm
      rw [if_neg (by omega)]
      dsimp only
      rw [hkind]
      simp (disch := omega) only [List.append_assoc, field_append, field_last]
      rfl
  next => exact nomatch hg

theorem channelCfgImage_readChannelCfg {c : ChannelCfg} (h : b.length = 13) (hc : readChannelCfg b = some c) : channelCfgImage c = b := by
  unfold readChannelCfg at hc
  split at hc
  next hcode =>
    obtain rfl := Option.some.inj hc
    unfold channelCfgImage
    dsimp only
    obtain h0 | h1 | h2 : beAt b 0 1 = 0 ∨ beAt b 0 1 = 1 ∨ beAt b 0 1 = 2 := by omega
    · have hrole : beBytes 1 0 = beBytes 1 (beAt b 0 1) := congrArg _ h0.symm
      rw [if_pos h0]
      dsimp only
      rw [hrole]
      simp (disch := omega) only [List.append_assoc, field_append, field_last]
      rfl
    · have hrole : beBytes 1 1 = beBytes 1 (beAt b 0 1) := congrArg _ h1.symm
      rw [if_neg (by omega), if_pos h1]
      dsimp only
      rw [hrole]
      simp (disch := omega) only [List.append_assoc, field_append, field_last]
      rfl
    · have hrole : beBytes 1 2 = beBytes 1 (beAt b 0 1) := congrArg _ h2.symm
      rw [if_neg (by omega), if_neg (by omega)]
      dsimp only
      rw [hrole]
      simp (disch := omega) only [List.append_assoc, field_append, field_last]
      rfl
  next => exact nomatch hc

theorem curveImage_readCurve {n : Nat} (h : b.length = 2 + 26 * n) (hn : beAt b 0 1 = n) : curveImage (readCurve n b) = b := by
  have hheads : ((List.range n).map fun j => beAt b (2 + 4 * j) 4).flatMap (beBytes 4) = (entriesAt b 2 4 n).flatten := by
    rw [List.flatMap_map, List.flatMap_def, entriesAt]
    refine congrArg List.flatten (List.map_congr_left fun j hj => beBytes_beAt ?_)
    have := List.mem_range.1 hj
    omega
  have hrow (i : Nat) (hi : i < 11) : ((List.range n).map fun j => beAt b (2 + 4 * n + 2 * (n * i + j)) 2).flatMap (beBytes 2) =
      (b.drop (2 + 4 * n + 2 * n * i)).take (2 * n) := by
    rw [← entriesAt_flatten, List.flatMap_map, List.flatMap_def, entriesAt]
    refine congrArg List.flatten (List.map_congr_left fun j hj => ?_)
    have hj := List.mem_range.1 hj
    have hoff : 2 + 4 * n + 2 * (n * i + j) = 2 + 4 * n + 2 * n * i + 2 * j := by ring
    have hspan : n * i + n ≤ n * 11 := by
      rw [← Nat.mul_succ]
      exact Nat.mul_le_mul_left n hi
    have hprod : 2 * n * i = 2 * (n * i) := by ring
    rw [hoff, beBytes_beAt]
    omega
  have hrows : ((List.range 11).map fun i => (List.range n).map fun j => beAt b (2 + 4 * n + 2 * (n * i + j)) 2).flatMap
      (fun r => r.flatMap (beBytes 2)) = (entriesAt b (2 + 4 * n) (2 * n) 11).flatten := by
    rw [List.flatMap_map, List.flatMap_def, entriesAt]
    exact congrArg List.flatten (List.map_congr_left fun i hi => hrow i (List.mem_range.1 hi))
  have hlast : (entriesAt b (2 + 4 * n) (2 * n) 11).flatten = b.drop (2 + 4 * n) := entriesAt_flatten_of_length (by omega)
  unfold curveImage readCurve
  dsimp only
  rw [hheads, hrows, hlast, entriesAt_flatten, List.length_map, List.length_range, ← hn]
  have hjoin : (b.drop 2).take (4 * beAt b 0 1) ++ b.drop (2 + 4 * beAt b 0 1) = b.drop 2 := by
    rw [← List.drop_drop, List.take_append_drop]
  rw [List.append_assoc, List.append_assoc, hjoin]
  simp (disch := omega) only [field_append]
  rfl

theorem rampBandImage_read (h : b.length = 12) :
    beBytes 4 (readRampBand b).upper ++ beBytes 4 (readRampBand b).rise ++ beBytes 4 (readRampBand b).fall = b := by
  unfold readRampBand
  simp (disch := omega) only [List.append_assoc, field_append, field_last]
  rfl

theorem floodRowImage_read (h : b.length = 6) : beBytes 4 (readFloodRow b).threshold ++ beBytes 2 (readFloodRow b).opening = b := by
  unfold readFloodRow
  simp (disch := omega) only [field_append, field_last]
  rfl

theorem acceptRowImage_read (h : b.length = 8) : beBytes 4 (readAcceptRow b).threshold ++ beBytes 4 (readAcceptRow b).acceptance = b := by
  unfold readAcceptRow
  simp (disch := omega) only [field_append, field_last]
  rfl

theorem reachBandImage_read (h : b.length = 6) : beBytes 4 (readReachBand b).upper ++ beBytes 2 (readReachBand b).delay = b := by
  unfold readReachBand
  simp (disch := omega) only [field_append, field_last]
  rfl

end

end Sys2Proof.Machine
end

section
/-! PROOFS. Table images and flash slots read back (O5). -/

namespace Sys2Proof.Machine

section
variable {b : List Byte} {d : TableData}

theorem conditionsImage_read (b : List Byte) : (b.map (·.toNat)).flatMap (beBytes 1) = b := by
  induction b with
  | nil => rfl
  | cons x b ih =>
    have hx : beBytes 1 x.toNat = [x] := by rw [beBytes_one, BitVec.ofNat_toNat, BitVec.setWidth_eq]
    rw [List.map_cons, List.flatMap_cons, ih, hx]
    rfl

theorem fillImage_read {l : List (Fin 16)} (hall : allSome ((b.drop 1).map readFillGate) = some l) (hlen : 1 ≤ b.length)
    (hcount : beAt b 0 1 = b.length - 1) : fillImage l = b := by
  obtain ⟨hflat, hlength⟩ := allSome_readBack (g := fun g : Fin 16 => beBytes 1 g.val) (w := fun x => [x]) hall fun x _ g hg => by
    unfold readFillGate at hg
    split at hg
    · obtain rfl := Option.some.inj hg
      exact (beBytes_one _).trans (congrArg (fun y => [y]) (by rw [BitVec.ofNat_toNat, BitVec.setWidth_eq]))
    · exact nomatch hg
  have hcountBack : l.length = beAt b 0 1 := by rw [hlength, List.length_drop, hcount]
  have hsingle : (b.drop 1).flatMap (fun x => [x]) = b.drop 1 := List.flatMap_singleton' _
  rw [fillImage, hflat, hsingle, hcountBack]
  exact field_append hlen rfl

/-- Entries of a fixed width that fill an image, each read back, are the image (R172). -/
theorem entries_readBack {α : Type} {f : List Byte → Option α} {g : α → List Byte} {w k : Nat} {l : List α}
    (hall : allSome ((entriesAt b 0 w k).map f) = some l) (hlen : w * k = b.length)
    (hread : ∀ e a, e.length = w → f e = some a → g a = e) : l.flatMap g = b := by
  obtain ⟨hflat, -⟩ := allSome_readBack (w := id) hall fun e he a ha => hread e a (length_of_mem_entriesAt (by omega) he) ha
  rw [hflat, List.flatMap_id, entriesAt_flatten_of_length (by omega), List.drop_zero]

/-- Rows of a fixed width behind a head, each read back, are the rest of the image (R172). -/
theorem rows_readBack {α : Type} {f : List Byte → α} {g : α → List Byte} {off w k : Nat} (hlen : off + w * k = b.length)
    (hread : ∀ e, e.length = w → g (f e) = e) : ((entriesAt b off w k).map f).flatMap g = b.drop off := by
  rw [flatMap_map_of_readBack fun e he => hread e (length_of_mem_entriesAt (Nat.le_of_eq hlen) he), entriesAt_flatten_of_length hlen]

/-- A table image that passes its content check is written back (R167, R172). -/
theorem image_of_parseTable {id : TableId} (h : parseTable id b = some d) : d.image = b := by
  unfold parseTable at h
  split at h
  next hallowed =>
    cases id with
    | station =>
      obtain ⟨-, rfl⟩ := Option.eq_of_ite_some h
      exact stationImage_readStation (by simpa [allowedLength] using hallowed)
    | gates =>
      have hlen : b.length = 576 := by simpa [allowedLength] using hallowed
      dsimp only at h
      split at h
      next l hall =>
        obtain ⟨-, rfl⟩ := Option.eq_of_ite_some h
        exact entries_readBack hall hlen.symm fun _ _ => gateCfgImage_readGateCfg
      next => exact nomatch h
    | groups =>
      have hlen : b.length = 16 := by simpa [allowedLength] using hallowed
      dsimp only at h
      split at h
      next l hall =>
        obtain ⟨-, rfl⟩ := Option.eq_of_ite_some h
        exact entries_readBack hall hlen.symm fun _ _ => groupCfgImage_readGroupCfg
      next => exact nomatch h
    | channels =>
      have hlen : b.length = 104 := by simpa [allowedLength] using hallowed
      dsimp only at h
      split at h
      next l hall =>
        obtain ⟨-, rfl⟩ := Option.eq_of_ite_some h
        exact entries_readBack hall hlen.symm fun _ _ => channelCfgImage_readChannelCfg
      next => exact nomatch h
    | conditions =>
      obtain ⟨-, rfl⟩ := Option.eq_of_ite_some h
      exact conditionsImage_read b
    | curve k =>
      have hlen : 54 ≤ b.length ∧ b.length ≤ 210 ∧ (b.length - 2) % 26 = 0 := of_decide_eq_true hallowed
      obtain ⟨⟨hcount, -⟩, rfl⟩ := Option.eq_of_ite_some h
      exact curveImage_readCurve (by omega) hcount
    | ramp =>
      have hlen : 17 ≤ b.length ∧ b.length ≤ 101 ∧ (b.length - 5) % 12 = 0 := of_decide_eq_true hallowed
      obtain ⟨⟨hcount, -⟩, rfl⟩ := Option.eq_of_ite_some h
      show rampImage _ = b
      unfold rampImage
      dsimp only
      rw [rows_readBack (by omega) fun _ => rampBandImage_read, List.length_map, entriesAt_length, ← hcount]
      simp (disch := omega) only [List.append_assoc, field_append]
      rfl
    | flood =>
      have hlen : 1 ≤ b.length ∧ b.length ≤ 49 ∧ (b.length - 1) % 6 = 0 := of_decide_eq_true hallowed
      obtain ⟨⟨hcount, -⟩, rfl⟩ := Option.eq_of_ite_some h
      show floodImage _ = b
      unfold floodImage
      rw [rows_readBack (by omega) fun _ => floodRowImage_read, List.length_map, entriesAt_length, ← hcount]
      exact field_append (by omega) rfl
    | accept =>
      have hlen : 9 ≤ b.length ∧ b.length ≤ 65 ∧ (b.length - 1) % 8 = 0 := of_decide_eq_true hallowed
      obtain ⟨⟨hcount, -⟩, rfl⟩ := Option.eq_of_ite_some h
      show acceptImage _ = b
      unfold acceptImage
      rw [rows_readBack (by omega) fun _ => acceptRowImage_read, List.length_map, entriesAt_length, ← hcount]
      exact field_append (by omega) rfl
    | reach =>
      have hlen : 15 ≤ b.length ∧ b.length ≤ 57 ∧ (b.length - 9) % 6 = 0 := of_decide_eq_true hallowed
      obtain ⟨⟨hcount, -⟩, rfl⟩ := Option.eq_of_ite_some h
      show reachImage _ = b
      unfold reachImage
      dsimp only
      rw [rows_readBack (by omega) fun _ => reachBandImage_read, List.length_map, entriesAt_length, ← hcount]
      simp (disch := omega) only [List.append_assoc, field_append]
      rfl
    | fill =>
      have hlen : 2 ≤ b.length ∧ b.length ≤ 17 := of_decide_eq_true hallowed
      dsimp only at h
      split at h
      next l hall =>
        obtain ⟨⟨hcount, -⟩, rfl⟩ := Option.eq_of_ite_some h
        exact fillImage_read hall (by omega) hcount
      next => exact nomatch h
  next => exact nomatch h

theorem allowed_of_parseTable {id : TableId} (h : parseTable id b = some d) : allowedLength id b.length = true := by
  unfold parseTable at h
  split at h
  next hallowed => exact hallowed
  next => exact nomatch h

/-- No allowed image is longer than its slot's length field can say (R172). -/
theorem length_lt_of_allowed {id : TableId} {n : Nat} (h : allowedLength id n = true) : n < 65536 := by
  cases id <;> simp only [allowedLength, beq_iff_eq, decide_eq_true_eq] at h <;> omega

end

/-! ## A slot read back (R169, R172) -/

section
variable (id : TableId) {b : List Byte}

/-- What the CRC of a slot covers (R172). -/
def slotCovered (b : List Byte) : List Byte := beBytes 2 slotMarker ++ beBytes 1 id.code ++ beBytes 2 b.length ++ b

theorem slotBytes_eq (b : List Byte) : slotBytes id b = slotCovered id b ++ crcBytes (crc16 (slotCovered id b)) := rfl

theorem slotCovered_length (b : List Byte) : (slotCovered id b).length = b.length + 5 := by
  simp [slotCovered]
  omega

theorem slotBytes_length (b : List Byte) : (slotBytes id b).length = b.length + 7 := by
  rw [slotBytes_eq, List.length_append, slotCovered_length, crcBytes_length]

theorem slotRead_of_le {c : List Byte} {n : Nat} (h : n ≤ c.length) : slotRead c n = c.take n := by
  rw [slotRead, Nat.sub_eq_zero_of_le h]
  simp

theorem slotRead_covered (b : List Byte) : slotRead (slotBytes id b) (b.length + 5) = slotCovered id b := by
  rw [slotRead_of_le (by rw [slotBytes_length]; omega), slotBytes_eq]
  exact List.take_left' (slotCovered_length id b)

theorem slotRead_header (b : List Byte) :
    slotRead (slotBytes id b) 5 = beBytes 2 slotMarker ++ beBytes 1 id.code ++ beBytes 2 b.length := by
  have hlen : (beBytes 2 slotMarker ++ beBytes 1 id.code ++ beBytes 2 b.length).length = 5 := by simp
  rw [slotRead_of_le (by rw [slotBytes_length]; omega), slotBytes_eq, slotCovered, List.append_assoc _ b]
  exact List.take_left' hlen

theorem code_lt (id : TableId) : id.code < 256 ^ 1 := by
  cases id with
  | curve k =>
    have := k.isLt
    show 16 + k.val < 256
    omega
  | _ => decide

theorem slot_header (hlen : b.length < 65536) :
    beAt (slotRead (slotBytes id b) 5) 0 2 = slotMarker ∧ beAt (slotRead (slotBytes id b) 5) 2 1 = id.code ∧
    beAt (slotRead (slotBytes id b) 5) 3 2 = b.length := by
  rw [slotRead_header]
  refine ⟨?_, ?_, ?_⟩
  · rw [List.append_assoc]
    exact beAt_of_append (pre := []) (by decide) rfl
  · rw [List.append_assoc]
    exact beAt_of_append (code_lt id) (by simp)
  · rw [← List.append_nil (_ ++ _), List.append_assoc]
    exact beAt_of_append hlen (by simp)

theorem slotCrcOk_slotBytes (hlen : b.length < 65536) : slotCrcOk (slotBytes id b) = true := by
  obtain ⟨-, -, hlength⟩ := slot_header id hlen
  have hwhole : slotRead (slotBytes id b) (b.length + 7) = slotCovered id b ++ (beBytes 2 (crc16 (slotCovered id b)).toNat ++ []) := by
    rw [slotRead_of_le (by rw [slotBytes_length]), List.take_of_length_le (by rw [slotBytes_length]), slotBytes_eq, List.append_nil]
    rfl
  have hcrc : beAt (slotRead (slotBytes id b) (b.length + 7)) (b.length + 5) 2 = (crc16 (slotCovered id b)).toNat := by
    rw [hwhole]
    exact beAt_of_append (crc16 (slotCovered id b)).isLt (slotCovered_length id b)
  have hcovered : (slotRead (slotBytes id b) (b.length + 7)).take (b.length + 5) = slotCovered id b := by
    rw [hwhole]
    exact List.take_left' (slotCovered_length id b)
  unfold slotCrcOk
  dsimp only
  rw [hlength, hcrc, hcovered]
  exact beq_self_eq_true _

theorem judgeSlot_slotBytes {id : TableId} {d : TableData} (h : parseTable id b = some d) :
    judgeSlot id (.holds (slotBytes id b)) = .valid d := by
  have hallowed := allowed_of_parseTable h
  have hlen := length_lt_of_allowed hallowed
  obtain ⟨hmarker, hcode, hlength⟩ := slot_header id hlen
  have himage : (slotRead (slotBytes id b) (b.length + 5)).drop 5 = b := by
    rw [slotRead_covered]
    exact List.drop_left' (by simp)
  unfold judgeSlot
  dsimp only
  rw [hmarker, hcode, hlength, slotCrcOk_slotBytes id hlen, hallowed, himage, h]
  simp

end

/-- Settles O5: every field is written back as the bytes it was read from, and the slot's header and CRC are those it was written with. -/
theorem tableImagesReadBack : Obligations.TableImagesReadBack := by
  intro id b d h
  have hallowed := allowed_of_parseTable h
  exact ⟨image_of_parseTable h, slotCrcOk_slotBytes id (length_lt_of_allowed hallowed), judgeSlot_slotBytes h⟩

end Sys2Proof.Machine
end

section
/-! PROOFS. Expiries of single gates, and the grants of the Group Arbiter (O18, O20, O21). -/

namespace Sys2Proof.Machine

/-! ## Operations within an event (R27) -/

section
variable {s : State} {i : Fin 16} {f : YardEnv → Yard → Yard}

theorem State.onYard_of_not_locked (h : (s.gate i).state ≠ .locked) : s.onYard i f = { s with yard := f s.yardEnv s.yard } := by
  unfold State.onYard
  exact if_neg fun hl => h hl.1

theorem State.onYard_of_stays (h : ((f s.yardEnv s.yard).gate i).state = .locked) : s.onYard i f = { s with yard := f s.yardEnv s.yard } := by
  unfold State.onYard
  exact if_neg fun hl => hl.2 h

theorem State.timerDueIn_of {st : GateState} {e : Tick} (hs : (s.gate i).state = st) (ht : (s.gate i).stateTimer = some e) (he : e ≤ s.now) :
    s.timerDueIn i st = true := by
  unfold State.timerDueIn
  rw [hs, ht, timerDue_of_le he, beq_self_eq_true, Bool.and_self]

end

/-! ## Expiries of one gate (R14, R20, R26, R95) -/

section
variable {s : State} {i : Fin 16}

theorem exec_lockAllowedExpiry {e : Tick} (he : e ≤ s.now) (hs : (s.gate i).state = .free) (ht : (s.gate i).stateTimer = some e) :
    exec (.lockAllowedExpiry i) s = .next { s with
      yard := Yard.issue s.yardEnv i .lock 0 (s.yard.setGate i { s.gate i with state := .locking, stateTimer := some (s.now + (s.cfg i).tLK) }) } := by
  have hexec : exec (.lockAllowedExpiry i) s = execLockAllowedExpiry i s := rfl
  rw [hexec, execLockAllowedExpiry, if_pos (State.timerDueIn_of hs ht he), State.onYard_of_not_locked (by rw [hs]; decide)]
  rfl

theorem exec_spillRunExpiry {e : Tick} (he : e ≤ s.now) (hs : (s.gate i).state = .moving) (ht : (s.gate i).stateTimer = some e) :
    exec (.spillRunExpiry i) s = .next { s with yard := Yard.stopRun s.yardEnv i s.yard } := by
  have hexec : exec (.spillRunExpiry i) s = execSpillRunExpiry i s := rfl
  rw [hexec, execSpillRunExpiry, if_pos (State.timerDueIn_of hs ht he), State.onYard_of_not_locked (by rw [hs]; decide)]

theorem exec_lagWatchExpiry {l : Tick} (hm : s.mdc.mode.supervised = true) (hu : (s.gate i).state ≠ .unseen) (hf : (s.gate i).state ≠ .faulted)
    (hr : (s.gate i).lagReported = false) (hl : (s.gate i).lagStart = some l) (he : l + (s.cfg i).lagTime ≤ s.now) :
    exec (.lagWatchExpiry i) s = .next ((s.setGate i { s.gate i with lagReported := true }).raise (.gateLag i)) := by
  have hdue : s.lagDue i = true := by
    unfold State.lagDue
    dsimp only
    rw [hl]
    simp [hm, hu, hf, hr, timerDue_of_le he]
  have hexec : exec (.lagWatchExpiry i) s = execLagWatchExpiry i s := rfl
  rw [hexec, execLagWatchExpiry, if_pos hdue]

theorem exec_orderHoldExpiry {o : OrderSlot} (ho : (s.gate i).slot = some o) (hv : o.visible = false) (he : o.holdEnd ≤ s.now) :
    exec (.orderHoldExpiry i) s = .next (s.setGate i { s.gate i with slot := some { o with visible := true } }) := by
  have hdue : s.holdDue i = true := by
    unfold State.holdDue
    rw [ho]
    simp [hv, he]
  have hexec : exec (.orderHoldExpiry i) s = execOrderHoldExpiry i s := rfl
  rw [hexec, execOrderHoldExpiry, if_pos hdue, ho]
  rfl

end

theorem Yard.stopRun_eq (e : YardEnv) (i : Fin 16) (y : Yard) : Yard.stopRun e i y = Yard.issue e i .stop 0
    (y.setGate i { y.gate i with state := .reversing, stateTimer := some (e.now + (e.cfg i).reversalDwell) }) := rfl

/-- Settles O18: one record replaced, and a frame issued or a condition raised. -/
theorem singleGateExpiriesTakeEffect : Obligations.SingleGateExpiriesTakeEffect := by
  intro s i e he
  dsimp only
  have hothers (g : Gate) (j : Fin 16) (hj : j ≠ i) : (s.yard.setGate i g).gate j = s.gate j := Yard.gate_setGate_ne s.yard g hj
  refine ⟨fun hs ht => ⟨_, exec_lockAllowedExpiry he hs ht, Yard.gate_setGate .., Yard.issue_carries .., hothers _, rfl, rfl⟩,
    fun hs ht => ⟨_, exec_spillRunExpiry he hs ht, Yard.gate_setGate .., Yard.issue_carries .., hothers _, rfl, rfl⟩,
    fun l hm hu hf hr hl ht => ⟨_, exec_lagWatchExpiry hm hu hf hr hl ht, State.raised_raise _ _, Yard.gate_setGate .., hothers _, rfl, rfl, rfl⟩,
    fun o ho hv ht => ⟨_, exec_orderHoldExpiry ho hv ht, Yard.gate_setGate .., hothers _, rfl, rfl, rfl⟩⟩

/-! ## Grant checks (R35 to R37, R40) -/

section
variable {e : YardEnv} {k : Fin 4}

theorem Yard.earlyLockTest_inFlight (e : YardEnv) (k : Fin 4) (y : Yard) : (Yard.earlyLockTest e k y).inFlight = y.inFlight := by
  unfold Yard.earlyLockTest
  split
  · refine foldl_frame (fun y : Yard => y.inFlight) _ (fun y i => ?_) _ _
    split
    · unfold Yard.earlyLockRequest
      dsimp only
      split <;> rfl
    · rfl
  · rfl

/-- The record of a group whose head has been granted a slot (R36, R37). -/
def Group.granted (g : Group) (now : Tick) (spacing : Nat) (rest : List QueueEntry) : Group :=
  { slots := g.slots + 1, lastGrant := some now, spacingTimer := if 0 < spacing then some (now + spacing) else none, queue := rest }

/-- Grant checks keep the capacity of their group, and take from the head of its queue. -/
theorem Yard.grantChecks_group (e : YardEnv) (k : Fin 4) (n : Nat) (y : Yard) :
    ((y.group k).slots ≤ (e.tables.groupCfg k).capacity → ((Yard.grantChecks e k n y).group k).slots ≤ (e.tables.groupCfg k).capacity) ∧
    ∃ m, ((Yard.grantChecks e k n y).group k).queue = (y.group k).queue.drop m := by
  have htest (y : Yard) : (Yard.earlyLockTest e k y).group k = y.group k := congrArg (·[k]) (Yard.earlyLockTest_groups e k y)
  induction n generalizing y with
  | zero => exact ⟨fun h => (htest y).symm ▸ h, 0, by rw [Yard.grantChecks, htest, List.drop_zero]⟩
  | succ n ih =>
    unfold Yard.grantChecks
    dsimp only
    split
    next hq => exact ⟨id, 0, rfl⟩
    next h rest hq =>
      have hdrop (m : Nat) : rest.drop m = (y.group k).queue.drop (m + 1) := by rw [hq]; rfl
      split
      next hallowed =>
        have hroom : (y.group k).slots < (e.tables.groupCfg k).capacity := by
          simp only [grantAllowed, Bool.and_eq_true, decide_eq_true_eq] at hallowed
          exact hallowed.1.2
        split
        · generalize hz : Yard.tellGranted e h.gate _ = z
          have hgroup : z.group k = (y.group k).granted e.now (e.tables.groupCfg k).spacing rest := by
            rw [← hz, Yard.tellGranted_group, Yard.group_setGroup]
            rfl
          obtain ⟨hslots, m, hm⟩ := ih z
          rw [hgroup] at hslots hm
          exact ⟨fun _ => hslots hroom, m + 1, hm.trans (hdrop m)⟩
        · generalize hz : y.setGroup k _ = z
          have hgroup : z.group k = { (y.group k).granted e.now (e.tables.groupCfg k).spacing rest with slots := (y.group k).slots } := by
            rw [← hz, Yard.group_setGroup]
            rfl
          obtain ⟨hslots, m, hm⟩ := ih z
          rw [hgroup] at hslots hm
          exact ⟨hslots, m + 1, hm.trans (hdrop m)⟩
      next => exact ⟨fun h => (htest y).symm ▸ h, 0, by rw [htest, List.drop_zero]⟩

/-- Grant checks after a grant with a spacing change nothing but by the early-lock test (R37). -/
theorem Yard.grantChecks_spacing (n : Nat) {y : Yard} {t u : Tick} (h : (y.group k).lastGrant = some t)
    (hs : (y.group k).spacingTimer = some u) : Yard.grantChecks e k n y = y ∨ Yard.grantChecks e k n y = Yard.earlyLockTest e k y := by
  cases n with
  | zero => exact .inr rfl
  | succ n =>
    unfold Yard.grantChecks
    dsimp only
    split
    · exact .inl rfl
    · rw [grantAllowed_spacing e k h hs]
      exact .inr rfl

theorem Gate.Drift.changes {i : Fin 16} {g g' : Gate} (h : Gate.Drift e i g g') (hne : g' ≠ g) :
    (g.state = .waitGrant ∧ g'.state = .unlocking) ∨
    (g.state = .free ∧ g.pending = false ∧ g'.state = .free ∧ g'.earlyLock = true) := by
  cases h with
  | same => exact absurd rfl hne
  | granted hs => exact .inl ⟨hs, rfl⟩
  | early hs hp t => exact .inr ⟨hs, hp, hs, rfl⟩

/-! ## A slot given up, and a grant that reaches its gate (R34, R38, R39) -/

/-- A slot released with no gate waiting: the count goes down, and nothing else changes. -/
theorem Yard.releaseSlot_empty {i : Fin 16} {y : Yard} (h : (y.group (e.cfg i).group).queue = []) : Yard.releaseSlot e i y =
    y.setGroup (e.cfg i).group { y.group (e.cfg i).group with slots := (y.group (e.cfg i).group).slots - 1 } :=
  Yard.grantCheck_empty e _ _ (by rw [Yard.group_setGroup]; exact h)

theorem Yard.releaseSlot_landed {i : Fin 16} {y : Yard} (h : (y.group (e.cfg i).group).queue = []) :
    (Yard.releaseSlot e i (y.landGrant i)).gates = y.gates ∧ (Yard.releaseSlot e i (y.landGrant i)).portF = y.portF ∧
    (Yard.releaseSlot e i (y.landGrant i)).group (e.cfg i).group =
      { y.group (e.cfg i).group with slots := (y.group (e.cfg i).group).slots - 1 } ∧
    (∀ l, l ≠ (e.cfg i).group → (Yard.releaseSlot e i (y.landGrant i)).group l = y.group l) ∧
    (Yard.releaseSlot e i (y.landGrant i)).inFlight = y.inFlight.filter (fun j => decide (j ≠ i)) := by
  rw [Yard.releaseSlot_empty (y := y.landGrant i) h]
  exact ⟨rfl, rfl, Yard.group_setGroup .., fun l hl => Yard.group_setGroup_ne _ _ hl, rfl⟩

theorem Yard.leaveQueue_place {i : Fin 16} {y : Yard} (hi : i ∉ y.inFlight) {front rest : List QueueEntry} {x : QueueEntry}
    (hq : (y.group (e.cfg i).group).queue = front ++ x :: rest) (hx : x.gate = i) (hne : ∀ a ∈ front ++ rest, a.gate ≠ i) :
    Yard.leaveQueue e i y =
      (match (generalizing := false) front with
       | [] => Yard.grantCheck e (e.cfg i).group (y.setGroup (e.cfg i).group { y.group (e.cfg i).group with queue := front ++ rest })
       | _ :: _ => y.setGroup (e.cfg i).group { y.group (e.cfg i).group with queue := front ++ rest }) := by
  have hdequeue : dequeue i (y.group (e.cfg i).group).queue = front ++ rest := by rw [hq, dequeue_append hx hne]
  have hhead : headGate (y.group (e.cfg i).group).queue = some i ↔ front = [] := by
    rw [hq]
    cases front with
    | nil => exact ⟨fun _ => rfl, fun _ => congrArg some hx⟩
    | cons a front => exact ⟨fun h => absurd (Option.some.inj h) (hne a (by simp)), nofun⟩
  unfold Yard.leaveQueue Yard.removeEntry
  rw [if_neg hi]
  dsimp only
  rw [hdequeue]
  by_cases hf : front = []
  · rw [if_pos (hhead.2 hf), hf]
  · rw [if_neg (mt hhead.1 hf)]
    cases front with
    | nil => exact absurd rfl hf
    | cons a front => rfl

/-- Settles O21: by what grant checks do to groups and gates, and by the empty queue for a slot handed back. -/
theorem grantChecksKeepTheCapacity : Obligations.GrantChecksKeepTheCapacity := by
  refine ⟨fun e k y => ?_, fun e i y => ?_⟩
  · dsimp only
    obtain ⟨hslots, hqueue⟩ := Yard.grantChecks_group e k (y.group k).queue.length y
    refine ⟨hslots, fun l hl => Yard.grantChecks_group_ne e hl _ y, hqueue,
      fun i hne => ((Yard.grantCheck_drifts k y).gate i).changes hne, fun g u hg hu => ?_⟩
    rw [Yard.grantCheck_spacing e k y hg hu]
    exact ⟨Yard.earlyLockTest_groups e k y, Yard.earlyLockTest_inFlight e k y, Yard.earlyLockTest_portF e k y⟩
  · dsimp only
    refine ⟨fun hi front x rest hq hx hne => Yard.leaveQueue_place hi hq hx hne, fun hi hq => ?_, fun hs hq => ?_, fun hs => ?_⟩
    · have hleave : Yard.leaveQueue e i y = Yard.releaseSlot e i (y.landGrant i) := if_pos hi
      rw [hleave]
      exact Yard.releaseSlot_landed hq
    · rw [Yard.deliverGrant_gone e y hs]
      exact Yard.releaseSlot_landed hq
    · rw [Yard.deliverGrant_waiting e y hs]
      exact ⟨Yard.takeGrant_gate .., Yard.issue_carries .., fun j hj => Yard.takeGrant_gate_ne e _ hj, rfl, rfl⟩

end

/-! ## The spacing of a group (R37) -/

theorem exec_spacingExpiry {s : State} {k : Fin 4} {e : Tick} (h : (s.group k).spacingTimer = some e) (he : e ≤ s.now) :
    exec (.spacingExpiry k) s = .next { s with
      yard := Yard.grantCheck s.yardEnv k (s.yard.setGroup k { s.group k with spacingTimer := none }) } := by
  have hdue : timerDue (s.group k).spacingTimer s.now = true := by
    rw [h]
    exact timerDue_of_le he
  have hexec : exec (.spacingExpiry k) s = execSpacingExpiry k s := rfl
  rw [hexec, execSpacingExpiry, if_pos hdue]

/-- A check that grants the head of a group whose spacing is above 0: the grant, and then at most the early-lock test. -/
theorem Yard.grantCheck_head {e : YardEnv} {k : Fin 4} {y : Yard} {x : QueueEntry} {rest : List QueueEntry}
    (hq : (y.group k).queue = x :: rest) (hx : (y.gate x.gate).state = .waitGrant) (hallowed : grantAllowed e k (y.group k) = true)
    (hs : 0 < (e.tables.groupCfg k).spacing) :
    ∃ z, z = Yard.tellGranted e x.gate (y.setGroup k ((y.group k).granted e.now (e.tables.groupCfg k).spacing rest)) ∧
      (Yard.grantCheck e k y = z ∨ Yard.grantCheck e k y = Yard.earlyLockTest e k z) := by
  refine ⟨_, rfl, ?_⟩
  have hcheck : Yard.grantCheck e k y = Yard.grantChecks e k rest.length (Yard.tellGranted e x.gate (y.setGroup k
      ((y.group k).granted e.now (e.tables.groupCfg k).spacing rest))) := by
    unfold Yard.grantCheck
    rw [hq, List.length_cons, Yard.grantChecks]
    simp only [hq, hallowed, if_true, hx]
    rfl
  rw [hcheck]
  refine Yard.grantChecks_spacing _ (t := e.now) (u := e.now + (e.tables.groupCfg k).spacing) ?_ ?_ <;>
    rw [Yard.tellGranted_group, Yard.group_setGroup]
  · rfl
  · exact if_pos hs

/-- What a check that grants the head leaves. -/
theorem Yard.grantCheck_granted {e : YardEnv} {k : Fin 4} {y : Yard} {x : QueueEntry} {rest : List QueueEntry}
    (hq : (y.group k).queue = x :: rest) (hx : (y.gate x.gate).state = .waitGrant) (hallowed : grantAllowed e k (y.group k) = true)
    (hs : 0 < (e.tables.groupCfg k).spacing) :
    (Yard.grantCheck e k y).group k = (y.group k).granted e.now (e.tables.groupCfg k).spacing rest ∧
    (if Config.grantCrosses e.draws e.now x.gate.val = true then
      (Yard.grantCheck e k y).gate x.gate = y.gate x.gate ∧ (Yard.grantCheck e k y).inFlight = y.inFlight ++ [x.gate] ∧
      (Yard.grantCheck e k y).portF = y.portF
     else
      (Yard.grantCheck e k y).gate x.gate = (y.gate x.gate).granted e x.gate ∧
      (Yard.grantCheck e k y).portF.Carries { gate := x.gate, frame := driveFrame (e.cfg x.gate).driveAddress .unlock 0 }) := by
  obtain ⟨z, hz, hcheck⟩ := Yard.grantCheck_head hq hx hallowed hs
  have hgroup : z.group k = (y.group k).granted e.now (e.tables.groupCfg k).spacing rest := by
    rw [hz, Yard.tellGranted_group, Yard.group_setGroup]
  generalize Yard.grantCheck e k y = t at hcheck ⊢
  have htgroup : t.group k = z.group k := by
    obtain rfl | rfl := hcheck
    · rfl
    · exact congrArg (·[k]) (Yard.earlyLockTest_groups e k z)
  have htport : t.portF = z.portF := by
    obtain rfl | rfl := hcheck
    · rfl
    · exact Yard.earlyLockTest_portF e k z
  have htflight : t.inFlight = z.inFlight := by
    obtain rfl | rfl := hcheck
    · rfl
    · exact Yard.earlyLockTest_inFlight e k z
  have htgate (hf : (z.gate x.gate).state ≠ .free) : t.gate x.gate = z.gate x.gate := by
    obtain rfl | rfl := hcheck
    · rfl
    · obtain h | ⟨h, -⟩ := Yard.earlyLockTest_gate e k z x.gate
      · exact h
      · exact absurd h hf
  refine ⟨htgroup.trans hgroup, ?_⟩
  obtain ⟨hcross, htell⟩ | ⟨hcross, htell⟩ := Yard.tellGranted_spec e x.gate (y.setGroup k
      ((y.group k).granted e.now (e.tables.groupCfg k).spacing rest))
  · rw [if_pos hcross, htport, htflight, htgate (by rw [hz, htell]; exact hx ▸ nofun), hz, htell]
    exact ⟨rfl, rfl, rfl⟩
  · have hgate : z.gate x.gate = (y.gate x.gate).granted e x.gate := by
      rw [hz, htell, Yard.takeGrant_gate]
      rfl
    rw [if_neg (by rw [hcross]; decide), htport, htgate (by rw [hgate]; exact nofun), hgate, hz, htell]
    exact ⟨rfl, Yard.issue_carries ..⟩

/-- Settles O20: the check on an empty queue does nothing, and one that grants the head makes at most the early-lock test after it. -/
theorem spacingExpiriesGrantTheHead : Obligations.SpacingExpiriesGrantTheHead := by
  intro s k e ht he
  have hothers (l : Fin 4) (hl : l ≠ k) :
      (Yard.grantCheck s.yardEnv k (s.yard.setGroup k { s.group k with spacingTimer := none })).group l = s.group l :=
    (Yard.grantChecks_group_ne _ hl _ _).trans (Yard.group_setGroup_ne _ _ hl)
  refine ⟨fun hq => ⟨_, exec_spacingExpiry ht he, rfl, ?_⟩, fun x rest g hq hx hv hroom hg hs hpassed => ⟨_, exec_spacingExpiry ht he, rfl, ?_⟩⟩
  · have hsame : Yard.grantCheck s.yardEnv k (s.yard.setGroup k { s.group k with spacingTimer := none }) =
        s.yard.setGroup k { s.group k with spacingTimer := none } :=
      Yard.grantCheck_empty _ _ _ (by rw [Yard.group_setGroup]; exact hq)
    have hgates := congrArg Yard.gates hsame
    have hport := congrArg Yard.portF hsame
    have hgroup := congrArg (Yard.group · k) hsame
    exact ⟨hgates, hport, hgroup.trans (Yard.group_setGroup ..), hothers⟩
  · generalize hy : s.yard.setGroup k { s.group k with spacingTimer := none } = y at hothers
    have hgroup : y.group k = { s.group k with spacingTimer := none } := by rw [← hy, Yard.group_setGroup]
    have hgate : y.gate x.gate = s.gate x.gate := by rw [← hy]; rfl
    have hflight : y.inFlight = s.yard.inFlight := by rw [← hy]; rfl
    have hport : y.portF = s.yard.portF := by rw [← hy]; rfl
    have hallowed : grantAllowed s.yardEnv k (y.group k) = true := by
      rw [hgroup]
      simp [grantAllowed, State.yardEnv, hv, hroom, hg, hpassed]
    obtain ⟨hgranted, htaken⟩ := Yard.grantCheck_granted (e := s.yardEnv) (k := k) (y := y) (x := x) (rest := rest) (by rw [hgroup]; exact hq)
      (by rw [hgate]; exact hx) hallowed hs
    have hrecord : (y.group k).granted s.now (s.tables.groupCfg k).spacing rest = { (y.group k).granted s.now 0 rest with
        spacingTimer := some (s.now + (s.tables.groupCfg k).spacing) } := by
      rw [Group.granted, if_pos hs]
      rfl
    have hgranted := hgranted.trans hrecord
    rw [hgroup] at hgranted
    rw [hgate, hflight, hport] at htaken
    exact ⟨hgranted, htaken, hothers⟩

end Sys2Proof.Machine
end

section
/-! PROOFS. The ways into FAULTED (O13, O14). -/

namespace Sys2Proof.Machine

/-! ## What a fault makes of the yard (R24, R34, R38, R39) -/

section
variable {e : YardEnv} {i : Fin 16} {lock : Bool} {y : Yard}

theorem Yard.faultGate_gate : (Yard.faultGate e i lock y).gate i = (y.gate i).inFault := by
  unfold Yard.faultGate
  split
  · rw [Yard.issue_gate, Yard.gate_setGate]
  · rw [Yard.gate_setGate]

theorem Yard.faultGate_groups : (Yard.faultGate e i lock y).groups = y.groups ∧ (Yard.faultGate e i lock y).inFlight = y.inFlight := by
  unfold Yard.faultGate
  split <;> exact ⟨rfl, rfl⟩

theorem Yard.faultGate_group (k : Fin 4) : (Yard.faultGate e i lock y).group k = y.group k :=
  congrArg (·[k]) Yard.faultGate_groups.1

/-- After the first steps of a fault the yard drifts at most. -/
theorem Yard.enterFaulted_drifts : Yard.Drifts e (Yard.faultGate e i lock y) (Yard.enterFaulted e i lock y) := by
  rw [Yard.enterFaulted_eq]
  split
  · exact Yard.leaveQueue_drifts ..
  · split
    · exact Yard.releaseSlot_drifts ..
    · exact .refl _

theorem Yard.enterFaulted_gate : (Yard.enterFaulted e i lock y).gate i = (y.gate i).inFault := by
  have hfault : (Yard.faultGate e i lock y).gate i = (y.gate i).inFault := Yard.faultGate_gate
  have hdrift := Yard.enterFaulted_drifts (e := e) (i := i) (lock := lock) (y := y)
  rw [(hdrift.gate i).eq (by rw [hfault]; exact nofun) (by rw [hfault]; exact nofun), hfault]

theorem Yard.enterFaulted_carries_iff {x : DriveEntry} (hx : x.gate = i) :
    (Yard.enterFaulted e i lock y).portF.Carries x ↔ (Yard.faultGate e i lock y).portF.Carries x := by
  have hfault : (Yard.faultGate e i lock y).gate i = (y.gate i).inFault := Yard.faultGate_gate
  exact Yard.enterFaulted_drifts.carries x (by rw [hx, hfault]; exact nofun)

theorem Yard.enterFaulted_issues_lock :
    (Yard.enterFaulted e i true y).portF.Carries { gate := i, frame := driveFrame (e.cfg i).driveAddress .lock 0 } :=
  (Yard.enterFaulted_carries_iff rfl).2 (Yard.issue_carries ..)

theorem Yard.enterFaulted_issues_none {x : DriveEntry} (hx : x.gate = i) (h : (Yard.enterFaulted e i false y).portF.Carries x) :
    y.portF.Carries x :=
  (Yard.enterFaulted_carries_iff hx).1 h

/-- A gate that neither waits nor holds a slot gives nothing up. -/
theorem Yard.enterFaulted_idle (hw : (y.gate i).state ≠ .waitGrant) (hs : (y.gate i).state.holdsSlot = false) :
    Yard.enterFaulted e i lock y = Yard.faultGate e i lock y := by
  rw [Yard.enterFaulted_eq, if_neg hw, hs]
  rfl

/-- A gate that holds a slot gives it up, here with no gate waiting. -/
theorem Yard.enterFaulted_releases (hs : (y.gate i).state.holdsSlot = true) (hq : (y.group (e.cfg i).group).queue = []) :
    Yard.enterFaulted e i lock y = (Yard.faultGate e i lock y).setGroup (e.cfg i).group
      { y.group (e.cfg i).group with slots := (y.group (e.cfg i).group).slots - 1 } := by
  have hw : (y.gate i).state ≠ .waitGrant := fun h => by rw [h] at hs; exact nomatch hs
  rw [Yard.enterFaulted_eq, if_neg hw, if_pos hs, Yard.releaseSlot_empty (by rw [Yard.faultGate_group]; exact hq), Yard.faultGate_group]

/-- A waiting gate whose grant is in flight hands its slot back, here with no gate waiting. -/
theorem Yard.enterFaulted_handsBack (hw : (y.gate i).state = .waitGrant) (hi : i ∈ y.inFlight) (hq : (y.group (e.cfg i).group).queue = []) :
    (Yard.enterFaulted e i lock y).group (e.cfg i).group =
      { y.group (e.cfg i).group with slots := (y.group (e.cfg i).group).slots - 1 } ∧ i ∉ (Yard.enterFaulted e i lock y).inFlight := by
  obtain ⟨-, hflight⟩ := Yard.faultGate_groups (e := e) (i := i) (lock := lock) (y := y)
  have hgroup := Yard.faultGate_group (e := e) (i := i) (lock := lock) (y := y) (e.cfg i).group
  have hleave : Yard.enterFaulted e i lock y = Yard.releaseSlot e i ((Yard.faultGate e i lock y).landGrant i) := by
    rw [Yard.enterFaulted_eq, if_pos hw]
    exact if_pos (by rw [hflight]; exact hi)
  obtain ⟨-, -, hback, -, hlanded⟩ := Yard.releaseSlot_landed (e := e) (i := i) (y := Yard.faultGate e i lock y) (by rw [hgroup]; exact hq)
  rw [hleave, hback, hlanded, hgroup]
  exact ⟨rfl, by simp⟩

/-- A gate that leaves its queue has no entry in it. -/
theorem Yard.removeEntry_queue {x : QueueEntry} (hx : x ∈ ((Yard.removeEntry e i y).group (e.cfg i).group).queue) : x.gate ≠ i := by
  have hdequeue {x : QueueEntry} (hx : x ∈ dequeue i (y.group (e.cfg i).group).queue) : x.gate ≠ i := by
    simpa using (List.mem_filter.1 hx).2
  unfold Yard.removeEntry at hx
  dsimp only at hx
  generalize hz : y.setGroup (e.cfg i).group _ = z at hx
  have hgroup : (z.group (e.cfg i).group).queue = dequeue i (y.group (e.cfg i).group).queue := by rw [← hz, Yard.group_setGroup]
  split at hx
  · obtain ⟨-, m, hm⟩ := Yard.grantChecks_group e (e.cfg i).group (z.group (e.cfg i).group).queue.length z
    have hx' : x ∈ ((Yard.grantChecks e (e.cfg i).group (z.group (e.cfg i).group).queue.length z).group (e.cfg i).group).queue := hx
    rw [hm, hgroup] at hx'
    exact hdequeue (List.mem_of_mem_drop hx')
  · rw [hgroup] at hx
    exact hdequeue hx

/-- A waiting gate with no grant in flight gives up its place. -/
theorem Yard.enterFaulted_leaves (hw : (y.gate i).state = .waitGrant) (hi : i ∉ y.inFlight) :
    ∀ x ∈ ((Yard.enterFaulted e i lock y).group (e.cfg i).group).queue, x.gate ≠ i := by
  obtain ⟨-, hflight⟩ := Yard.faultGate_groups (e := e) (i := i) (lock := lock) (y := y)
  have hleave : Yard.enterFaulted e i lock y = Yard.removeEntry e i (Yard.faultGate e i lock y) := by
    rw [Yard.enterFaulted_eq, if_pos hw]
    exact if_neg (by rw [hflight]; exact hi)
  rw [hleave]
  exact fun x hx => Yard.removeEntry_queue hx

end

/-! ## On the whole state -/

section
variable (s : State) (i : Fin 16) (lock : Bool) (c : Cond)

theorem State.faultGate_yard : (s.faultGate i lock c).yard = Yard.enterFaulted s.yardEnv i lock s.yard := State.onYard_yard ..

theorem State.faultGate_gate : (s.faultGate i lock c).gate i = (s.gate i).inFault :=
  (congrArg (Yard.gate · i) (s.faultGate_yard i lock c)).trans Yard.enterFaulted_gate

theorem State.faultGate_frame : s.faultGate i lock c = { s with yard := (s.faultGate i lock c).yard, desk := (s.faultGate i lock c).desk } := by
  have h := s.onYard_frame i (fun e y => Yard.enterFaulted e i lock y)
  unfold State.faultGate
  generalize s.onYard i (fun e y => Yard.enterFaulted e i lock y) = u at h ⊢
  have hdesk := congrArg (fun x : State => { x with desk := (State.raise (State.clear u (.gateLag i)) c).desk }) h
  have hyard : u.yard = Yard.enterFaulted s.yardEnv i lock s.yard := (congrArg State.yard h :)
  rw [← hyard] at hdesk
  exact hdesk

theorem State.faultGate_raised : (s.faultGate i lock c).Raised c := State.raised_raise _ _

variable {c} in
theorem State.faultGate_lag (hc : c ≠ .gateLag i) : (s.faultGate i lock c).active (.gateLag i) = false :=
  (State.active_of_record (State.raise_record_ne _ hc.symm (by simp))).trans (State.active_clear _ _)

end

/-! ## Faults without LOCK (R8, R9, R16) -/

section
variable {s : State} {i : Fin 16} {e : Tick}

theorem exec_seenWatchExpiry (hs : (s.gate i).state = .unseen) (ht : (s.gate i).stateTimer = some e) (he : e ≤ s.now) :
    exec (.seenWatchExpiry i) s = .next (s.faultGate i false (.gateUnseen i)) := by
  have hexec : exec (.seenWatchExpiry i) s = execSeenWatchExpiry i s := rfl
  rw [hexec, execSeenWatchExpiry, if_pos (State.timerDueIn_of hs ht he)]

theorem exec_recoveringExpiry_fault (hs : (s.gate i).state = .recovering) (ht : (s.gate i).stateTimer = some e) (he : e ≤ s.now)
    (hb : (s.gate i).brake ≠ some .engaged) : exec (.recoveringExpiry i) s = .next (s.faultGate i false (.gateFault i)) := by
  have hexec : exec (.recoveringExpiry i) s = execRecoveringExpiry i s := rfl
  rw [hexec, execRecoveringExpiry, if_pos (State.timerDueIn_of hs ht he), if_neg hb]

theorem exec_lockingExpiry_fault (hs : (s.gate i).state = .locking) (ht : (s.gate i).stateTimer = some e) (he : e ≤ s.now)
    (hb : (s.gate i).brake ≠ some .engaged) : exec (.lockingExpiry i) s = .next (s.faultGate i false (.gateFault i)) := by
  have hexec : exec (.lockingExpiry i) s = execLockingExpiry i s := rfl
  rw [hexec, execLockingExpiry, if_pos (State.timerDueIn_of hs ht he), if_neg hb]

/-- A gate that holds no slot faults without a frame and without a change to the groups. -/
theorem State.faultGate_idle (c : Cond) (hw : (s.gate i).state ≠ .waitGrant) (hs : (s.gate i).state.holdsSlot = false) :
    (s.faultGate i false c).yard.portF = s.yard.portF ∧ (s.faultGate i false c).yard.groups = s.yard.groups := by
  rw [State.faultGate_yard, Yard.enterFaulted_idle hw hs]
  exact ⟨rfl, rfl⟩

/-- Settles O14: a fault without LOCK changes the record, and gives up the slot from LOCKING alone. -/
theorem faultsWithoutLock : Obligations.FaultsWithoutLock := by
  intro s i e ht he
  dsimp only
  have hcarries (c : Cond) (x : DriveEntry) (hx : x.gate = i) (h : (s.faultGate i false c).yard.portF.Carries x) : s.yard.portF.Carries x := by
    rw [State.faultGate_yard] at h
    exact Yard.enterFaulted_issues_none hx h
  refine ⟨fun hs => ⟨_, ⟨exec_seenWatchExpiry hs ht he, s.faultGate_gate .., s.faultGate_raised .., s.faultGate_frame .., hcarries _⟩,
      State.faultGate_idle _ (by rw [hs]; exact nofun) (by rw [hs]; rfl)⟩,
    fun hs hb => ⟨_, ⟨exec_recoveringExpiry_fault hs ht he hb, s.faultGate_gate .., s.faultGate_raised .., s.faultGate_frame .., hcarries _⟩,
      State.faultGate_idle _ (by rw [hs]; exact nofun) (by rw [hs]; rfl)⟩,
    fun hs hb => ⟨_, ⟨exec_lockingExpiry_fault hs ht he hb, s.faultGate_gate .., s.faultGate_raised .., s.faultGate_frame .., hcarries _⟩,
      fun hq => ?_⟩⟩
  have hyard : (s.faultGate i false (.gateFault i)).yard = _ :=
    (s.faultGate_yard i false _).trans (Yard.enterFaulted_releases (e := s.yardEnv) (by rw [← State.gate, hs]; rfl) hq)
  have hgroup := congrArg (Yard.group · (s.cfg i).group) hyard
  have hport := congrArg Yard.portF hyard
  exact ⟨hport, hgroup.trans (Yard.group_setGroup ..)⟩

end

/-! ## Faults with LOCK (R13, R22 to R25) -/

/-- What a fault with LOCK leaves, of a gate whose record is `g` as it faults and which stood as in `s`. -/
def State.LockFaulted (s : State) (i : Fin 16) (g : Gate) (t : State) : Prop :=
  t.gate i = g.inFault ∧ t.yard.portF.Carries (s.command i .lock 0) ∧ t.Raised (.gateFault i) ∧ t.active (.gateLag i) = false ∧
  t = { s with yard := t.yard, desk := t.desk } ∧
  ((s.gate i).state.holdsSlot = true ∨ (s.gate i).state = .waitGrant ∧ i ∈ s.yard.inFlight →
    (s.group (s.cfg i).group).queue = [] →
    t.group (s.cfg i).group = { s.group (s.cfg i).group with slots := (s.group (s.cfg i).group).slots - 1 }) ∧
  ((s.gate i).state = .waitGrant → i ∈ s.yard.inFlight → (s.group (s.cfg i).group).queue = [] → i ∉ t.yard.inFlight) ∧
  ((s.gate i).state = .waitGrant → i ∉ s.yard.inFlight → ∀ x ∈ (t.group (s.cfg i).group).queue, x.gate ≠ i)

section
variable {s : State} {i : Fin 16}

theorem State.faultGate_lockFaulted (g : Gate) (hg : g.state = (s.gate i).state) :
    s.LockFaulted i g ((s.setGate i g).faultGate i true (.gateFault i)) := by
  have hyard := (s.setGate i g).faultGate_yard i true (.gateFault i)
  have hgate := (s.setGate i g).faultGate_gate i true (.gateFault i)
  have hraised := (s.setGate i g).faultGate_raised i true (.gateFault i)
  have hlag := (s.setGate i g).faultGate_lag i true (c := .gateFault i) (by simp)
  have hframe := (s.setGate i g).faultGate_frame i true (.gateFault i)
  have hold : (s.setGate i g).gate i = g := State.gate_setGate ..
  have hstate : ((s.setGate i g).yard.gate i).state = (s.gate i).state := (congrArg Gate.state hold).trans hg
  rw [hold] at hgate
  generalize (s.setGate i g).faultGate i true (.gateFault i) = t at hyard hgate hraised hlag hframe ⊢
  refine ⟨hgate, ?_, hraised, hlag, hframe, fun hs hq => ?_, fun hw hi hq => ?_, fun hw hi => ?_⟩
  · rw [hyard]
    exact Yard.enterFaulted_issues_lock
  · show t.yard.group _ = _
    rw [hyard]
    obtain hs | ⟨hw, hi⟩ := hs
    · have hrelease := congrArg (Yard.group · (s.cfg i).group)
        (Yard.enterFaulted_releases (e := (s.setGate i g).yardEnv) (lock := true) (y := (s.setGate i g).yard) (by rw [hstate]; exact hs) hq)
      exact hrelease.trans (Yard.group_setGroup ..)
    · exact (Yard.enterFaulted_handsBack (e := (s.setGate i g).yardEnv) (y := (s.setGate i g).yard) (by rw [hstate]; exact hw) hi hq).1
  · rw [hyard]
    exact (Yard.enterFaulted_handsBack (e := (s.setGate i g).yardEnv) (y := (s.setGate i g).yard) (by rw [hstate]; exact hw) hi hq).2
  · show ∀ x ∈ (t.yard.group _).queue, _
    rw [hyard]
    exact Yard.enterFaulted_leaves (e := (s.setGate i g).yardEnv) (y := (s.setGate i g).yard) (by rw [hstate]; exact hw) hi

theorem State.setGate_self (s : State) (i : Fin 16) : s.setGate i (s.gate i) = s := by
  have hyard : s.yard.setGate i (s.yard.gate i) = s.yard := by
    simp only [Yard.setGate, Yard.gate]
    congr 1
    exact Vector.set_getElem_self ..
  exact congrArg (fun y => { s with yard := y }) hyard

theorem State.faultGate_lockFaulted_self : s.LockFaulted i (s.gate i) (s.faultGate i true (.gateFault i)) := by
  have h := State.faultGate_lockFaulted (s := s) (i := i) (s.gate i) rfl
  rwa [State.setGate_self] at h

/-- A frame forwarded to Port L after the fault leaves it as it is. -/
theorem State.LockFaulted.forwarded {g : Gate} {t : State} (h : s.LockFaulted i g t) (f : BusFrame) : s.LockFaulted i g (t.forwardFrom .F f) := by
  obtain ⟨hgate, hlock, hraised, hlag, hframe, hrest⟩ := h
  have hrecord (c : Cond) : (t.forwardFrom .F f).desk.record c = t.desk.record c := by simp [State.forwardFrom]
  refine ⟨hgate, hlock, State.raised_of_record (hrecord _) hraised, (State.active_of_record (hrecord _)).trans hlag, ?_, hrest⟩
  have hdesk := congrArg (fun x : State => { x with desk := t.desk.forward f }) hframe
  exact hdesk

theorem exec_reportReceived {f : BusFrame} (hv : busFrameValid .F f = true) (hk : f.kind = kindReport)
    (hi : s.tables.reportGates f.source.toNat = [i]) :
    exec (.reportReceived f) s = .next ((s.takeReport i (readReport f)).forwardFrom .F f) := by
  have hoffer : s.offerReport f.source.toNat (readReport f) = s.takeReport i (readReport f) := by
    unfold State.offerReport
    rw [hi]
    rfl
  have hexec : exec (.reportReceived f) s = .next (s.receiveF f) := rfl
  rw [hexec, State.receiveF_report hv hk, hoffer]

theorem State.takeReport_fault {r : Report} (hr : r.fault = true) (hs : (s.gate i).state ≠ .faulted) :
    s.takeReport i r = (s.setGate i ((s.gate i).storeReport r s.now)).faultGate i true (.gateFault i) := by
  unfold State.takeReport
  dsimp only
  rw [if_neg hs, if_pos hr]

theorem exec_unlockingExpiry_fault {e : Tick} (hs : (s.gate i).state = .unlocking) (ht : (s.gate i).stateTimer = some e) (he : e ≤ s.now)
    (hb : (s.gate i).reportSinceGrant = false ∨ (s.gate i).brake ≠ some .released) :
    exec (.unlockingExpiry i) s = .next (s.faultGate i true (.gateFault i)) := by
  have hexec : exec (.unlockingExpiry i) s = execUnlockingExpiry i s := rfl
  have hproof : ¬((s.gate i).reportSinceGrant = true ∧ (s.gate i).brake = some .released) := fun ⟨hsince, hreleased⟩ =>
    hb.elim (fun h => Bool.false_ne_true (h.symm.trans hsince)) (fun h => h hreleased)
  rw [hexec, execUnlockingExpiry, if_pos (State.timerDueIn_of hs ht he)]
  exact if_neg hproof

theorem exec_moveWatchExpiry {e : Tick} (hs : (s.gate i).state = .moving ∨ (s.gate i).state = .reversing) (ht : (s.gate i).moveWatch = some e)
    (he : e ≤ s.now) : exec (.moveWatchExpiry i) s = .next (s.faultGate i true (.gateFault i)) := by
  have hdue : s.moveWatchDue i = true := by
    unfold State.moveWatchDue
    rw [ht, timerDue_of_le he]
    obtain h | h := hs <;> rw [h] <;> rfl
  have hexec : exec (.moveWatchExpiry i) s = execMoveWatchExpiry i s := rfl
  rw [hexec, execMoveWatchExpiry, if_pos hdue]

theorem exec_silenceWatchExpiry {st : Station} {r : Tick} (hu : (s.gate i).state ≠ .unseen) (hf : (s.gate i).state ≠ .faulted)
    (hst : s.tables.station = .valid st) (hr : (s.gate i).lastReport = some r)
    (he : max r (s.stationValidSince.getD 0) + st.reportTimeout ≤ s.now) :
    exec (.silenceWatchExpiry i) s = .next (s.faultGate i true (.gateFault i)) := by
  have hend : s.silenceEnd i = some (max r (s.stationValidSince.getD 0) + st.reportTimeout) := by
    unfold State.silenceEnd
    rw [hst, hr]
  have hdue : s.silenceWatchDue i = true := by
    unfold State.silenceWatchDue
    rw [hend, timerDue_of_le he]
    simp [hu, hf]
  have hexec : exec (.silenceWatchExpiry i) s = execSilenceWatchExpiry i s := rfl
  rw [hexec, execSilenceWatchExpiry, if_pos hdue]

end

/-- Settles O13: each way faults the gate with LOCK, a REPORT after its fields are stored. -/
theorem faultsIssueLock : Obligations.FaultsIssueLock := by
  intro s i
  dsimp only
  refine ⟨fun f hv hk hi hr hs => ⟨_, exec_reportReceived hv hk hi, ?_⟩, fun e hs ht he hb => ⟨_, exec_unlockingExpiry_fault hs ht he hb, ?_⟩,
    fun e hs ht he => ⟨_, exec_moveWatchExpiry hs ht he, ?_⟩,
    fun st r hu hf hst hr he => ⟨_, exec_silenceWatchExpiry hu hf hst hr he, ?_⟩⟩
  · rw [State.takeReport_fault hr hs]
    have h := (State.faultGate_lockFaulted (s := s) (i := i) ((s.gate i).storeReport (readReport f) s.now) rfl).forwarded f
    have hstored : (s.gate i).storeReport (readReport f) s.now = { (s.gate i).storeReport (readReport f) s.now with fault := some true } := by
      rw [← hr]
      rfl
    conv at h => arg 3; rw [hstored]
    exact h
  · exact State.faultGate_lockFaulted_self
  · exact State.faultGate_lockFaulted_self
  · exact State.faultGate_lockFaulted_self

end Sys2Proof.Machine
end

section
/-! PROOFS. FREE, moves and dwells of one gate (O17, O19). -/

namespace Sys2Proof.Machine

/-! ## Operations that touch one gate and no group -/

/-- From `y` to `y'` at most gate `i` and Port F have changed. -/
structure Yard.Alone (i : Fin 16) (y y' : Yard) : Prop where
  others : ∀ j, j ≠ i → y'.gate j = y.gate j
  groups : y'.groups = y.groups
  inFlight : y'.inFlight = y.inFlight

section
variable {e : YardEnv} {i : Fin 16} {y : Yard}

theorem Yard.Alone.refl (y : Yard) : Yard.Alone i y y := ⟨fun _ _ => rfl, rfl, rfl⟩

theorem Yard.Alone.trans {a b c : Yard} (hab : Yard.Alone i a b) (hbc : Yard.Alone i b c) : Yard.Alone i a c :=
  ⟨fun j hj => (hbc.others j hj).trans (hab.others j hj), hbc.groups.trans hab.groups, hbc.inFlight.trans hab.inFlight⟩

theorem Yard.Alone.group {y' : Yard} (h : Yard.Alone i y y') (k : Fin 4) : y'.group k = y.group k := congrArg (·[k]) h.groups

theorem Yard.setGate_alone (g : Gate) : Yard.Alone i y (y.setGate i g) := ⟨fun _ hj => Yard.gate_setGate_ne _ _ hj, rfl, rfl⟩

theorem Yard.issue_alone (c : DriveCommand) (n : Nat) : Yard.Alone i y (Yard.issue e i c n y) := ⟨fun _ _ => rfl, rfl, rfl⟩

theorem Yard.armLock_alone : Yard.Alone i y (Yard.armLock e i y) := Yard.setGate_alone _

theorem Yard.earlyLockRequest_alone : Yard.Alone i y (Yard.earlyLockRequest e i y) := by
  unfold Yard.earlyLockRequest
  dsimp only
  split
  · exact (Yard.setGate_alone _).trans Yard.armLock_alone
  · exact .refl y

theorem Yard.restFree_alone : Yard.Alone i y (Yard.restFree e i y) := by
  unfold Yard.restFree Yard.idleSignal
  split
  · exact Yard.armLock_alone.trans Yard.earlyLockRequest_alone
  · exact Yard.armLock_alone

theorem Yard.startRun_alone (toward : Nat) : Yard.Alone i y (Yard.startRun e i toward y) :=
  (Yard.setGate_alone _).trans (Yard.issue_alone ..)

theorem Yard.startMove_alone : Yard.Alone i y (Yard.startMove e i y) := by
  unfold Yard.startMove
  dsimp only
  split
  · exact (Yard.setGate_alone _).trans (Yard.issue_alone ..)
  · exact (Yard.setGate_alone _).trans (Yard.startRun_alone _)

theorem Yard.testFree_alone : Yard.Alone i y (Yard.testFree e i y) := by
  unfold Yard.testFree
  dsimp only
  split
  · exact (Yard.setGate_alone _).trans Yard.startMove_alone
  · exact (Yard.setGate_alone _).trans Yard.restFree_alone

theorem Yard.enterFree_alone : Yard.Alone i y (Yard.enterFree e i y) := (Yard.setGate_alone _).trans Yard.testFree_alone

theorem Yard.endMove_alone : Yard.Alone i y (Yard.endMove e i y) := by
  unfold Yard.endMove
  dsimp only
  split
  · exact (Yard.setGate_alone _).trans ((Yard.setGate_alone _).trans Yard.restFree_alone)
  · exact (Yard.setGate_alone _).trans Yard.enterFree_alone

theorem Yard.endDwell_alone : Yard.Alone i y (Yard.endDwell e i y) := by
  unfold Yard.endDwell
  dsimp only
  split
  · exact Yard.setGate_alone _
  · split
    · split
      · exact (Yard.setGate_alone _).trans Yard.endMove_alone
      · exact ((Yard.setGate_alone _).trans (Yard.setGate_alone _)).trans (Yard.startRun_alone _)
    · split
      · exact Yard.endMove_alone
      · split
        · exact (Yard.setGate_alone _).trans (Yard.startRun_alone _)
        · exact Yard.endMove_alone

end

/-! ## The pending test (R5) -/

theorem pendingTest_within {c : GateCfg} {q p : Nat} (h : gap q p ≤ c.band) : pendingTest c (some q) (some p) = false :=
  decide_eq_false (Nat.not_lt.2 h)

theorem pendingTest_beyond {c : GateCfg} {q p : Nat} (h : c.band < gap q p) : pendingTest c (some q) (some p) = true :=
  decide_eq_true h

/-! ## Runs and moves (R17, R19) -/

/-- The record of a gate that starts a run from a position toward an opening. -/
def Gate.runs (g : Gate) (c : GateCfg) (now : Tick) (p toward : Nat) : Gate :=
  { g with state := .moving, raising := decide (p < toward), stateTimer := some (now + runLength c (gap toward p)) }

/-- The record of a wicket gate that starts a move. -/
def Gate.movesWicket (g : Gate) (c : GateCfg) (now : Tick) (q : Nat) : Gate :=
  { g with
    state := .moving, pending := false, earlyLock := false, moveSetpoint := some q, stateTimer := none
    moveWatch := some (now + c.moveTimeout) }

/-- The record of a spill gate that starts a move. -/
def Gate.movesSpill (g : Gate) (c : GateCfg) (now : Tick) (p q : Nat) : Gate :=
  { g with
    state := .moving, pending := false, earlyLock := false, moveSetpoint := some q, trimCount := 0
    raising := decide (p < q), stateTimer := some (now + runLength c (gap q p)), moveWatch := some (now + c.moveTimeout) }

section
variable {e : YardEnv} {i : Fin 16} {y : Yard} {p q : Nat}

theorem Yard.startRun_eq (hp : (y.gate i).position = some p) (toward : Nat) : Yard.startRun e i toward y =
    Yard.issue e i (if p < toward then .runRaise else .runLower) 0 (y.setGate i ((y.gate i).runs (e.cfg i) e.now p toward)) := by
  have hposition : (y.gate i).position.getD 0 = p := by rw [hp]; rfl
  unfold Yard.startRun
  simp only [hposition, decide_eq_true_eq]
  rfl

theorem Yard.startMove_wicket (hk : (e.cfg i).kind = .wicket) (hq : (y.gate i).target = some q) :
    Yard.startMove e i y = Yard.issue e i .move q (y.setGate i ((y.gate i).movesWicket (e.cfg i) e.now q)) := by
  have htarget : (y.gate i).target.getD 0 = q := by rw [hq]; rfl
  unfold Yard.startMove
  simp only [hk, htarget]
  rfl

theorem Yard.startMove_spill (hk : (e.cfg i).kind = .spill) (hq : (y.gate i).target = some q) (hp : (y.gate i).position = some p) :
    Yard.startMove e i y = Yard.issue e i (if p < q then .runRaise else .runLower) 0
      (y.setGate i ((y.gate i).movesSpill (e.cfg i) e.now p q)) := by
  have htarget : (y.gate i).target.getD 0 = q := by rw [hq]; rfl
  unfold Yard.startMove
  simp only [hk, htarget]
  rw [Yard.startRun_eq (p := p) (by rw [Yard.gate_setGate]; exact hp), Yard.setGate_setGate, Yard.gate_setGate]
  rfl

/-! ## FREE (R5, R13, R14) -/

/-- The record of a gate that rests in FREE until its lock-allowed instant. -/
def Gate.rests (g : Gate) (c : GateCfg) (now : Tick) : Gate :=
  { g with state := .free, pending := false, stateTimer := some (max now (lockAllowedInstant c { g with state := .free, pending := false })) }

/-- No early-lock condition holds with an empty queue. -/
theorem Yard.idleSignal_empty (h : (y.group (e.cfg i).group).queue = []) : Yard.idleSignal e i y = y := by
  unfold Yard.idleSignal earlyLockCondition
  simp [h]

theorem Yard.rest_empty (h : (y.group (e.cfg i).group).queue = []) :
    Yard.rest e i y = y.setGate i ((y.gate i).rests (e.cfg i) e.now) := by
  unfold Yard.rest Yard.restFree
  rw [Yard.idleSignal_empty (y := Yard.armLock e i _) (by rw [Yard.armLock_alone.group]; exact h)]
  unfold Yard.armLock
  dsimp only
  rw [Yard.setGate_setGate, Yard.gate_setGate]
  rfl

/-- With a queue that is not empty a rest may take an early-lock request besides. -/
theorem Yard.rest_record : (Yard.rest e i y).gate i = (y.gate i).rests (e.cfg i) e.now ∨
    ∃ t, (Yard.rest e i y).gate i = { (y.gate i).rests (e.cfg i) e.now with earlyLock := true, stateTimer := some t } := by
  have harmed : (Yard.armLock e i (y.setGate i { y.gate i with state := .free, pending := false })).gate i =
      (y.gate i).rests (e.cfg i) e.now := by
    unfold Yard.armLock
    dsimp only
    rw [Yard.gate_setGate, Yard.gate_setGate]
    rfl
  unfold Yard.rest Yard.restFree Yard.idleSignal
  split
  · obtain h | ⟨-, -, t, h⟩ := Yard.earlyLockRequest_gate e i i (Yard.armLock e i (y.setGate i { y.gate i with state := .free, pending := false }))
    · exact .inl (h.trans harmed)
    · exact .inr ⟨t, by rw [h, harmed]⟩
  · exact .inl harmed

theorem Yard.enterFree_within (h : pendingTest (e.cfg i) (y.gate i).target (y.gate i).position = false) :
    Yard.enterFree e i y = Yard.rest e i y := by
  unfold Yard.enterFree Yard.testFree
  dsimp only
  rw [Yard.gate_setGate, if_neg (by rw [h]; exact Bool.false_ne_true), Yard.setGate_setGate]
  rfl

theorem Yard.enterFree_beyond (h : pendingTest (e.cfg i) (y.gate i).target (y.gate i).position = true) :
    Yard.enterFree e i y = Yard.startMove e i (y.setGate i { y.gate i with state := .free, pending := true }) := by
  unfold Yard.enterFree Yard.testFree
  dsimp only
  rw [Yard.gate_setGate, if_pos h, Yard.setGate_setGate]

theorem Yard.enterFree_wicket (hk : (e.cfg i).kind = .wicket) (hq : (y.gate i).target = some q) (hp : (y.gate i).position = some p)
    (hb : (e.cfg i).band < gap q p) :
    Yard.enterFree e i y = Yard.issue e i .move q (y.setGate i ((y.gate i).movesWicket (e.cfg i) e.now q)) := by
  rw [Yard.enterFree_beyond (by rw [hq, hp]; exact pendingTest_beyond hb),
    Yard.startMove_wicket hk (q := q) (by rw [Yard.gate_setGate]; exact hq), Yard.setGate_setGate, Yard.gate_setGate]
  rfl

theorem Yard.enterFree_spill (hk : (e.cfg i).kind = .spill) (hq : (y.gate i).target = some q) (hp : (y.gate i).position = some p)
    (hb : (e.cfg i).band < gap q p) :
    Yard.enterFree e i y = Yard.issue e i (if p < q then .runRaise else .runLower) 0
      (y.setGate i ((y.gate i).movesSpill (e.cfg i) e.now p q)) := by
  rw [Yard.enterFree_beyond (by rw [hq, hp]; exact pendingTest_beyond hb),
    Yard.startMove_spill hk (q := q) (p := p) (by rw [Yard.gate_setGate]; exact hq) (by rw [Yard.gate_setGate]; exact hp),
    Yard.setGate_setGate, Yard.gate_setGate]
  rfl

end

/-! ## The end of UNLOCKING (R13) -/

section
variable {s : State} {i : Fin 16}

theorem exec_unlockingExpiry {e : Tick} (hs : (s.gate i).state = .unlocking) (ht : (s.gate i).stateTimer = some e) (he : e ≤ s.now)
    (hr : (s.gate i).reportSinceGrant = true) (hb : (s.gate i).brake = some .released) :
    exec (.unlockingExpiry i) s = .next { s with
      yard := Yard.enterFree s.yardEnv i (s.yard.setGate i { s.gate i with unlockCompletion := some s.now }) } := by
  have hexec : exec (.unlockingExpiry i) s = execUnlockingExpiry i s := rfl
  rw [hexec, execUnlockingExpiry, if_pos (State.timerDueIn_of hs ht he)]
  refine (if_pos ⟨hr, hb⟩).trans ?_
  rw [State.onYard_of_not_locked (by rw [State.gate_setGate]; exact fun h => nomatch hs.symm.trans h)]
  rfl

/-- The lock-allowed instant, with an absent move end as tick 0 (R14). -/
theorem lockAllowedInstant_eq (c : GateCfg) (g : Gate) : lockAllowedInstant c g =
    (if (g.lockAfter || g.earlyLock) = true then max (g.unlockCompletion.getD 0 + c.tFM) ((g.lastMoveEnd.map (· + c.tST)).getD 0)
     else max (max (g.unlockCompletion.getD 0 + c.tFM) ((g.lastMoveEnd.map (· + c.tST)).getD 0))
      (max (g.unlockCompletion.getD 0) (g.lastMoveEnd.getD 0) + c.tID)) := by
  unfold lockAllowedInstant
  cases g.lastMoveEnd <;> simp

end

/-- Settles O17: the gate enters FREE, and its pending test decides between the rest and the move. -/
theorem unlockingEndsFreeOrMoving : Obligations.UnlockingEndsFreeOrMoving := by
  intro s i e p q hs ht he hr hb hp hq
  dsimp only
  refine ⟨_, exec_unlockingExpiry hs ht he hr hb, ?_⟩
  generalize hy : s.yard.setGate i { s.gate i with unlockCompletion := some s.now } = y
  have hfirst : Yard.Alone i s.yard y := by
    rw [← hy]
    exact Yard.setGate_alone _
  have hgate : y.gate i = { s.gate i with unlockCompletion := some s.now } := by rw [← hy, Yard.gate_setGate]
  have hport : y.portF = s.yard.portF := by rw [← hy]; rfl
  have hposition : (y.gate i).position = some p := by rw [hgate]; exact hp
  have htarget : (y.gate i).target = some q := by rw [hgate]; exact hq
  have halone : Yard.Alone i s.yard (Yard.enterFree s.yardEnv i y) := hfirst.trans Yard.enterFree_alone
  have hrest (hw : gap q p ≤ (s.cfg i).band) : Yard.enterFree s.yardEnv i y = Yard.rest s.yardEnv i y :=
    Yard.enterFree_within (by rw [htarget, hposition]; exact pendingTest_within hw)
  refine ⟨halone.others, rfl, halone.groups, fun hw => ?_, fun hw hempty => ?_, fun _ hbeyond hk => ?_, fun _ hbeyond hk => ?_⟩
  · obtain ⟨hstate, hpending⟩ := Yard.rest_gate s.yardEnv i y
    have hcompletion : ((Yard.rest s.yardEnv i y).gate i).unlockCompletion = some s.now := by
      obtain h | ⟨t, h⟩ := Yard.rest_record (e := s.yardEnv) (i := i) (y := y) <;> rw [h, hgate] <;> rfl
    rw [← hrest hw] at hstate hpending hcompletion
    have hquiet : (Yard.enterFree s.yardEnv i y).portF = s.yard.portF := by rw [hrest hw, Yard.rest_portF, hport]
    exact ⟨hquiet, hstate, hpending, hcompletion⟩
  · have hrested := congrArg (Yard.gate · i) ((hrest hw).trans (Yard.rest_empty (by rw [hfirst.group]; exact hempty)))
    refine hrested.trans ((Yard.gate_setGate ..).trans ?_)
    rw [hgate, Gate.rests, lockAllowedInstant_eq]
    rfl
  · have hmoves := Yard.enterFree_wicket (e := s.yardEnv) hk htarget hposition hbeyond
    have hrecord := congrArg (Yard.gate · i) hmoves
    have hframe := congrArg Yard.portF hmoves
    refine ⟨?_, hrecord.trans ((Yard.gate_setGate ..).trans ?_)⟩
    · show (Yard.enterFree s.yardEnv i y).portF.Carries _
      rw [hframe]
      exact Yard.issue_carries ..
    · rw [hgate]
      rfl
  · have hmoves := Yard.enterFree_spill (e := s.yardEnv) hk htarget hposition hbeyond
    have hrecord := congrArg (Yard.gate · i) hmoves
    have hframe := congrArg Yard.portF hmoves
    refine ⟨?_, hrecord.trans ((Yard.gate_setGate ..).trans ?_)⟩
    · show (Yard.enterFree s.yardEnv i y).portF.Carries _
      rw [hframe]
      exact Yard.issue_carries ..
    · rw [hgate]
      rfl

end Sys2Proof.Machine
end

section
/-! PROOFS. The end of a reversal dwell (O19). -/

namespace Sys2Proof.Machine

section
variable {e : YardEnv} {i : Fin 16} {y : Yard} {p m q : Nat}

/-! ## The end of a move (R17, R20, R29) -/

/-- The record of a gate whose move has ended. -/
def Gate.moveEnded (g : Gate) (now : Tick) : Gate := { g with lastMoveEnd := some now, moveSetpoint := none, moveWatch := none }

theorem Yard.endMove_rests (h : (e.mode = .frozen ∧ (e.cfg i).kind = .spill) ∨
      pendingTest (e.cfg i) (y.gate i).target (y.gate i).position = false) (hempty : (y.group (e.cfg i).group).queue = []) :
    Yard.endMove e i y = y.setGate i (((y.gate i).moveEnded e.now).rests (e.cfg i) e.now) := by
  have hrest : Yard.endMove e i y = Yard.rest e i (y.setGate i ((y.gate i).moveEnded e.now)) := by
    by_cases hf : e.mode = .frozen ∧ (e.cfg i).kind = .spill
    · exact Yard.endMove_frozen y hf.1 hf.2
    · have hwithin := h.resolve_left hf
      rw [Yard.endMove_tested y (not_and_or.1 hf)]
      exact Yard.enterFree_within (by rw [Yard.gate_setGate]; exact hwithin)
  rw [hrest, Yard.rest_empty (by rw [Yard.group_setGate]; exact hempty), Yard.setGate_setGate, Yard.gate_setGate]

theorem Yard.endMove_moves (hm : e.mode.governing = true) (hk : (e.cfg i).kind = .spill) (hq : (y.gate i).target = some q)
    (hp : (y.gate i).position = some p) (hb : (e.cfg i).band < gap q p) :
    Yard.endMove e i y = Yard.issue e i (if p < q then .runRaise else .runLower) 0
      (y.setGate i (((y.gate i).moveEnded e.now).movesSpill (e.cfg i) e.now p q)) := by
  have hmode : e.mode ≠ .frozen := fun h => by rw [h] at hm; exact nomatch hm
  rw [Yard.endMove_tested y (.inl hmode)]
  have hspill := Yard.enterFree_spill (y := y.setGate i ((y.gate i).moveEnded e.now)) hk
    (by rw [Yard.gate_setGate]; exact hq) (by rw [Yard.gate_setGate]; exact hp) hb
  rw [Yard.setGate_setGate, Yard.gate_setGate] at hspill
  exact hspill

/-! ## The cases of a dwell (R20) -/

theorem Yard.endDwell_running (h : (y.gate i).running = some true) :
    Yard.endDwell e i y = y.setGate i { y.gate i with stateTimer := some (e.now + (e.cfg i).reversalDwell) } := by
  unfold Yard.endDwell
  exact if_pos h

/-- The record of a gate whose deferred target is taken up. -/
def Gate.deferred (g : Gate) (q : Nat) : Gate := { g with pending := false, moveSetpoint := some q }

theorem Yard.endDwell_deferred_within (hr : (y.gate i).running ≠ some true) (hd : (y.gate i).pending = true) (hq : (y.gate i).target = some q)
    (hp : (y.gate i).position = some p) (hw : gap q p ≤ (e.cfg i).band) :
    Yard.endDwell e i y = Yard.endMove e i (y.setGate i ((y.gate i).deferred q)) := by
  have htarget : (y.gate i).target.getD 0 = q := by rw [hq]; rfl
  have hposition : (y.gate i).position.getD 0 = p := by rw [hp]; rfl
  unfold Yard.endDwell
  simp only [if_neg hr, hd, if_true, htarget, hposition, if_pos hw]
  rfl

theorem Yard.endDwell_deferred_beyond (hr : (y.gate i).running ≠ some true) (hd : (y.gate i).pending = true) (hq : (y.gate i).target = some q)
    (hp : (y.gate i).position = some p) (hb : (e.cfg i).band < gap q p) :
    Yard.endDwell e i y = Yard.issue e i (if p < q then .runRaise else .runLower) 0 (y.setGate i
      { ((y.gate i).deferred q).runs (e.cfg i) e.now p q with trimCount := 0, moveWatch := some (e.now + (e.cfg i).moveTimeout) }) := by
  have htarget : (y.gate i).target.getD 0 = q := by rw [hq]; rfl
  have hposition : (y.gate i).position.getD 0 = p := by rw [hp]; rfl
  unfold Yard.endDwell
  simp only [if_neg hr, hd, if_true, htarget, hposition, if_neg (Nat.not_le.2 hb), Yard.setGate_setGate, Yard.gate_setGate]
  rw [Yard.startRun_eq (p := p) (by rw [Yard.gate_setGate]; exact hp), Yard.setGate_setGate, Yard.gate_setGate]
  rfl

theorem Yard.endDwell_trims (hr : (y.gate i).running ≠ some true) (hd : (y.gate i).pending = false) (hm : (y.gate i).moveSetpoint = some m)
    (hp : (y.gate i).position = some p) (hb : (e.cfg i).band < gap m p) (ht : (y.gate i).trimCount < 2) :
    Yard.endDwell e i y = Yard.issue e i (if p < m then .runRaise else .runLower) 0 (y.setGate i
      { (y.gate i).runs (e.cfg i) e.now p m with trimCount := (y.gate i).trimCount + 1 }) := by
  have hsetpoint : (y.gate i).moveSetpoint.getD 0 = m := by rw [hm]; rfl
  have hposition : (y.gate i).position.getD 0 = p := by rw [hp]; rfl
  unfold Yard.endDwell
  dsimp only
  rw [if_neg hr, if_neg (by rw [hd]; exact Bool.false_ne_true), hsetpoint, hposition, if_neg (Nat.not_le.2 hb), if_pos ht]
  rw [Yard.startRun_eq (p := p) (by rw [Yard.gate_setGate]; exact hp), Yard.setGate_setGate, Yard.gate_setGate]
  rfl

theorem Yard.endDwell_ends (hr : (y.gate i).running ≠ some true) (hd : (y.gate i).pending = false) (hm : (y.gate i).moveSetpoint = some m)
    (hp : (y.gate i).position = some p) (h : ¬((e.cfg i).band < gap m p ∧ (y.gate i).trimCount < 2)) :
    Yard.endDwell e i y = Yard.endMove e i y := by
  have hsetpoint : (y.gate i).moveSetpoint.getD 0 = m := by rw [hm]; rfl
  have hposition : (y.gate i).position.getD 0 = p := by rw [hp]; rfl
  unfold Yard.endDwell
  simp only [if_neg hr, hd, Bool.false_eq_true, if_false, hsetpoint, hposition]
  by_cases hw : gap m p ≤ (e.cfg i).band
  · exact if_pos hw
  · exact (if_neg hw).trans (if_neg fun ht => h ⟨Nat.not_le.1 hw, ht⟩)

end

/-! ## The expiry of a dwell -/

section
variable {s : State} {i : Fin 16} {p m q : Nat}

theorem exec_reversalDwellExpiry {e : Tick} (hs : (s.gate i).state = .reversing) (ht : (s.gate i).stateTimer = some e) (he : e ≤ s.now) :
    exec (.reversalDwellExpiry i) s = .next { s with yard := Yard.endDwell s.yardEnv i s.yard } := by
  have hexec : exec (.reversalDwellExpiry i) s = execReversalDwellExpiry i s := rfl
  rw [hexec, execReversalDwellExpiry, if_pos (State.timerDueIn_of hs ht he), State.onYard_of_not_locked (by rw [hs]; decide)]

/-- A gate at rest in FREE at the end of its move, with nothing sent to its drive. -/
def State.MoveRests (s : State) (i : Fin 16) (t : State) : Prop :=
  (t.gate i).state = .free ∧ (t.gate i).lastMoveEnd = some s.now ∧ (t.gate i).moveSetpoint = none ∧
  (t.gate i).moveWatch = none ∧ (t.gate i).pending = false ∧ t.yard.portF = s.yard.portF

/-- The end of a move by the pending test or in FROZEN, of a gate whose record was `g`. -/
def State.MoveEnds (s : State) (i : Fin 16) (g : Gate) (p q : Nat) (t : State) : Prop :=
  (gap q p ≤ (s.cfg i).band → (s.group (s.cfg i).group).queue = [] → s.MoveRests i t) ∧
  (s.mdc.mode.governing = true → (s.cfg i).band < gap q p → (s.cfg i).kind = .spill →
    t.gate i = (g.moveEnded s.now).movesSpill (s.cfg i) s.now p q ∧
    t.yard.portF.Carries (s.command i (if p < q then .runRaise else .runLower) 0)) ∧
  (s.mdc.mode = .frozen → (s.cfg i).kind = .spill → (s.group (s.cfg i).group).queue = [] → s.MoveRests i t)

theorem State.moveEnds (s : State) (i : Fin 16) {g : Gate} (hq : g.target = some q) (hp : g.position = some p) :
    s.MoveEnds i g p q { s with yard := Yard.endMove s.yardEnv i (s.yard.setGate i g) } := by
  have hgate : (s.yard.setGate i g).gate i = g := Yard.gate_setGate ..
  have hrests (h : (s.mdc.mode = .frozen ∧ (s.cfg i).kind = .spill) ∨ pendingTest (s.cfg i) g.target g.position = false)
      (hempty : (s.group (s.cfg i).group).queue = []) :
      s.MoveRests i { s with yard := Yard.endMove s.yardEnv i (s.yard.setGate i g) } := by
    have hend := Yard.endMove_rests (e := s.yardEnv) (i := i) (y := s.yard.setGate i g) (by rw [hgate]; exact h) hempty
    rw [hgate, Yard.setGate_setGate] at hend
    have hrecord : ({ s with yard := Yard.endMove s.yardEnv i (s.yard.setGate i g) } : State).gate i =
        (g.moveEnded s.now).rests (s.cfg i) s.now := (congrArg (Yard.gate · i) hend).trans (Yard.gate_setGate ..)
    have hport := congrArg Yard.portF hend
    unfold State.MoveRests
    rw [hrecord]
    exact ⟨rfl, rfl, rfl, rfl, rfl, hport⟩
  refine ⟨fun hw hempty => hrests (.inr ?_) hempty, fun hm hb hk => ?_, fun hm hk hempty => hrests (.inl ⟨hm, hk⟩) hempty⟩
  · rw [hq, hp]
    exact pendingTest_within hw
  · have hend := Yard.endMove_moves (e := s.yardEnv) (i := i) (y := s.yard.setGate i g) hm hk (by rw [hgate]; exact hq)
      (by rw [hgate]; exact hp) hb
    rw [hgate, Yard.setGate_setGate] at hend
    have hport := congrArg Yard.portF hend
    refine ⟨(congrArg (Yard.gate · i) hend).trans (Yard.gate_setGate ..), ?_⟩
    show (Yard.endMove s.yardEnv i (s.yard.setGate i g)).portF.Carries _
    rw [hport]
    exact Yard.issue_carries ..

end

/-- Settles O19: the cases of the dwell in their order, and the end of a move where one ends it. -/
theorem dwellsEndByTheFirstCase : Obligations.DwellsEndByTheFirstCase := by
  intro s i e p m q hs ht he hp hm hq
  dsimp only
  have halone : Yard.Alone i s.yard (Yard.endDwell s.yardEnv i s.yard) := Yard.endDwell_alone
  refine ⟨_, exec_reversalDwellExpiry hs ht he, rfl, halone.others, halone.groups, ?_⟩
  have hself : s.yard.setGate i (s.gate i) = s.yard := congrArg State.yard (s.setGate_self i)
  have issued {y : Yard} {g : Gate} {c : DriveCommand} (hy : Yard.endDwell s.yardEnv i s.yard = Yard.issue s.yardEnv i c 0 (y.setGate i g)) :
      ({ s with yard := Yard.endDwell s.yardEnv i s.yard } : State).gate i = g ∧
      (Yard.endDwell s.yardEnv i s.yard).portF.Carries (s.command i c 0) := by
    have hgate := congrArg (Yard.gate · i) hy
    refine ⟨hgate.trans (Yard.gate_setGate ..), ?_⟩
    rw [hy]
    exact Yard.issue_carries ..
  split
  next hr =>
    have hdwell := Yard.endDwell_running (e := s.yardEnv) (i := i) (y := s.yard) hr
    have hgate := congrArg (Yard.gate · i) hdwell
    have hport := congrArg Yard.portF hdwell
    exact ⟨hgate.trans (Yard.gate_setGate ..), hport⟩
  next hr =>
    split
    next hd =>
      refine ⟨fun hb => issued (Yard.endDwell_deferred_beyond hr hd hq hp hb), fun hw => ?_⟩
      have hends := s.moveEnds i (g := (s.gate i).deferred q) (p := p) (q := q) hq hp
      rw [Yard.endDwell_deferred_within (y := s.yard) hr hd hq hp hw]
      exact hends
    next hd =>
      have hd' : (s.yard.gate i).pending = false := Bool.eq_false_iff.2 hd
      split
      next htrim => exact issued (Yard.endDwell_trims hr hd' hm hp htrim.1 htrim.2)
      next htrim =>
        have hends := s.moveEnds i (g := s.gate i) (p := p) (q := q) hq hp
        rw [hself] at hends
        rw [Yard.endDwell_ends (y := s.yard) hr hd' hm hp htrim]
        exact hends

end Sys2Proof.Machine
end

section
/-! PROOFS. The end of a cycle in LOCKED (O15), and of a tCY wait in the queue (O16). -/

namespace Sys2Proof.Machine

section
variable {e : YardEnv} {i : Fin 16} {y : Yard}

/-! ## LOCKED (R5, R7, R9, R16) -/

theorem Yard.pendingLocked_within (h : pendingTest (e.cfg i) (y.gate i).target (y.gate i).positionAtLock = false) :
    Yard.pendingLocked e i y = y.setGate i { y.gate i with pending := false, stateTimer := none } := by
  unfold Yard.pendingLocked
  exact if_neg (by rw [h]; exact Bool.false_ne_true)

theorem Yard.pendingLocked_beyond (h : pendingTest (e.cfg i) (y.gate i).target (y.gate i).positionAtLock = true) :
    Yard.pendingLocked e i y = Yard.testLocked e i (y.setGate i { y.gate i with pending := true }) := by
  unfold Yard.pendingLocked
  exact if_pos h

theorem Gate.firstLockStanding_eq (g : Gate) : g.firstLockStanding = { g with standing := g.firstLockStanding.standing } := by
  unfold Gate.firstLockStanding
  split <;> rfl

/-- The record of a gate that is first locked at a position, before its pending test. -/
def Gate.firstLocked (g : Gate) (c : GateCfg) (p : Nat) : Gate :=
  Gate.firstLockStanding { g.reseat c p with state := .locked, lockAfter := true, priority := .normal }

theorem Gate.firstLocked_eq (g : Gate) (c : GateCfg) (p : Nat) :
    g.firstLocked c p = { g.reseat c p with
      state := .locked, lockAfter := true, priority := .normal, standing := (g.firstLocked c p).standing } :=
  Gate.firstLockStanding_eq _

theorem Yard.firstLock_eq {p : Nat} (hp : (y.gate i).position = some p) :
    Yard.firstLock e i y = Yard.pendingLocked e i (y.setGate i ((y.gate i).firstLocked (e.cfg i) p)) := by
  have hposition : (y.gate i).position.getD 0 = p := by rw [hp]; rfl
  unfold Yard.firstLock
  dsimp only
  rw [hposition]
  rfl

/-- A gate first locked at a position whose clamped value lies within the band. -/
theorem Yard.firstLock_within {p : Nat} (hp : (y.gate i).position = some p) (hw : gap ((e.cfg i).clamp p) p ≤ (e.cfg i).band) :
    Yard.firstLock e i y = y.setGate i ((y.gate i).firstLocked (e.cfg i) p) := by
  have htest : pendingTest (e.cfg i) ((y.gate i).firstLocked (e.cfg i) p).target ((y.gate i).firstLocked (e.cfg i) p).positionAtLock = false := by
    rw [Gate.firstLocked_eq]
    exact pendingTest_within hw
  rw [Yard.firstLock_eq hp, Yard.pendingLocked_within (by rw [Yard.gate_setGate]; exact htest), Yard.setGate_setGate, Yard.gate_setGate,
    Gate.firstLocked_eq]
  rfl

/-- The end of a cycle with the target within the band and no gate waiting (R16, R38). -/
theorem Yard.endCycle_within {p q : Nat} (hp : (y.gate i).position = some p) (hq : (y.gate i).target = some q)
    (hw : gap q p ≤ (e.cfg i).band) (hempty : (y.group (e.cfg i).group).queue = []) :
    Yard.endCycle e i y = (y.setGroup (e.cfg i).group
        { y.group (e.cfg i).group with slots := (y.group (e.cfg i).group).slots - 1 }).setGate i
      { y.gate i with state := .locked, positionAtLock := some p, stateTimer := none, pending := false } := by
  have htest : pendingTest (e.cfg i) (y.gate i).target (y.gate i).position = false := by
    rw [hq, hp]
    exact pendingTest_within hw
  unfold Yard.endCycle
  dsimp only
  rw [Yard.releaseSlot_empty (y := y.setGate i _) hempty,
    Yard.pendingLocked_within (by rw [Yard.gate_setGroup, Yard.gate_setGate]; exact htest), Yard.gate_setGroup, Yard.gate_setGate, ← hp]
  exact Yard.setGate_setGate (y.setGroup _ _) i _ _

end

section
variable {s : State} {i : Fin 16} {e : Tick}

theorem exec_recoveringExpiry_locks (hs : (s.gate i).state = .recovering) (ht : (s.gate i).stateTimer = some e) (he : e ≤ s.now)
    (hb : (s.gate i).brake = some .engaged) :
    exec (.recoveringExpiry i) s = .next { s with yard := Yard.firstLock s.yardEnv i s.yard } := by
  have hexec : exec (.recoveringExpiry i) s = execRecoveringExpiry i s := rfl
  rw [hexec, execRecoveringExpiry, if_pos (State.timerDueIn_of hs ht he), if_pos hb, State.onYard_of_not_locked (by rw [hs]; decide)]

theorem exec_lockingExpiry_locks (hs : (s.gate i).state = .locking) (ht : (s.gate i).stateTimer = some e) (he : e ≤ s.now)
    (hb : (s.gate i).brake = some .engaged) :
    exec (.lockingExpiry i) s = .next { s with yard := Yard.endCycle s.yardEnv i s.yard } := by
  have hexec : exec (.lockingExpiry i) s = execLockingExpiry i s := rfl
  rw [hexec, execLockingExpiry, if_pos (State.timerDueIn_of hs ht he), if_pos hb, State.onYard_of_not_locked (by rw [hs]; decide)]

/-- Settles O15: a gate first locked, and the end of a cycle, both within the band. -/
theorem engagedBrakesEndLocked : Obligations.EngagedBrakesEndLocked := by
  intro s i e p ht he hb hp hempty
  have hothers (y : Yard) (g : Gate) (j : Fin 16) (hj : j ≠ i) : (y.setGate i g).gate j = y.gate j := Yard.gate_setGate_ne _ _ hj
  refine ⟨fun hs hw => ⟨_, exec_recoveringExpiry_locks hs ht he hb, ?_⟩, fun q hs hq hw => ⟨_, exec_lockingExpiry_locks hs ht he hb, ?_⟩⟩
  · rw [Yard.firstLock_within (e := s.yardEnv) hp hw]
    have hgate : ({ s with yard := s.yard.setGate i ((s.gate i).firstLocked (s.cfg i) p) } : State).gate i = (s.gate i).firstLocked (s.cfg i) p :=
      Yard.gate_setGate ..
    rw [Gate.firstLocked_eq] at hgate
    have hyard : (s.yard.setGate i ((s.gate i).firstLocked (s.cfg i) p)).groups = s.yard.groups ∧
        (s.yard.setGate i ((s.gate i).firstLocked (s.cfg i) p)).portF = s.yard.portF := ⟨rfl, rfl⟩
    have hrest := hothers s.yard ((s.gate i).firstLocked (s.cfg i) p)
    rw [Gate.firstLocked_eq] at hyard hrest
    have hrecord : (s.yard.gate i).firstLocked (s.yardEnv.cfg i) p = (s.gate i).firstLocked (s.cfg i) p := rfl
    rw [hrecord, Gate.firstLocked_eq, hgate]
    exact ⟨rfl, rfl, rfl, rfl, rfl, rfl, rfl, hrest, rfl, hyard.1, hyard.2⟩
  · rw [Yard.endCycle_within (e := s.yardEnv) hp hq hw hempty]
    exact ⟨Yard.gate_setGate .., hothers _ _, rfl, rfl, Yard.group_setGroup ..⟩

end

/-! ## A gate joins an empty queue (R10, R32, R35 to R37) -/

section
variable {e : YardEnv} {i : Fin 16} {y : Yard}

theorem enqueue_empty (x : QueueEntry) : enqueue x [] = [x] := by
  unfold enqueue
  cases x.priority <;> rfl

/-- A gate in WAIT_GRANT joins an empty queue: told of its grant where a slot may be granted, else at most the early-lock test. -/
theorem Yard.join_empty (hw : (y.gate i).state = .waitGrant) (hq : (y.group (e.cfg i).group).queue = []) :
    (grantAllowed e (e.cfg i).group (y.group (e.cfg i).group) = true → Yard.join e i y = Yard.tellGranted e i
      (y.setGroup (e.cfg i).group ((y.group (e.cfg i).group).granted e.now (e.tables.groupCfg (e.cfg i).group).spacing []))) ∧
    (grantAllowed e (e.cfg i).group (y.group (e.cfg i).group) = false → Yard.join e i y = Yard.earlyLockTest e (e.cfg i).group
      (y.setGroup (e.cfg i).group { y.group (e.cfg i).group with queue := [{ gate := i, priority := (y.gate i).priority }] })) := by
  generalize hk : (e.cfg i).group = k at hq ⊢
  generalize hx : ({ gate := i, priority := (y.gate i).priority } : QueueEntry) = x
  have hgate : x.gate = i := by rw [← hx]
  generalize hz : y.setGroup k { y.group k with queue := [x] } = z
  have hgroup : z.group k = { y.group k with queue := [x] } := by rw [← hz, Yard.group_setGroup]
  have hzgate : z.gate i = y.gate i := by rw [← hz, Yard.gate_setGroup]
  have hjoin : Yard.join e i y = Yard.grantChecks e k 1 z := by
    unfold Yard.join Yard.grantCheck
    dsimp only
    rw [hk, hq, hx, enqueue_empty, hz, hgroup]
    rfl
  have hsame : grantAllowed e k (z.group k) = grantAllowed e k (y.group k) := by rw [hgroup]; rfl
  have hset (g : Group) : z.setGroup k g = y.setGroup k g := by
    rw [← hz]
    simp only [Yard.setGroup, Vector.set_set]
  rw [hjoin, ← hsame]
  refine ⟨fun hallowed => ?_, fun hrefused => ?_⟩
  · have hgranted : Yard.grantChecks e k 1 z = Yard.earlyLockTest e k (Yard.tellGranted e i
        (y.setGroup k ((y.group k).granted e.now (e.tables.groupCfg k).spacing []))) := by
      rw [Yard.grantChecks]
      have hqueue : (z.group k).queue = [x] := by rw [hgroup]
      simp only [hqueue, hallowed, if_true, hgate, hzgate, hw, hset]
      rw [hgroup]
      rfl
    have hquiet : (Yard.tellGranted e i (y.setGroup k ((y.group k).granted e.now (e.tables.groupCfg k).spacing []))).group k =
        (y.group k).granted e.now (e.tables.groupCfg k).spacing [] := by rw [Yard.tellGranted_group, Yard.group_setGroup]
    rw [hgranted]
    exact if_neg (by unfold earlyLockCondition; rw [hquiet]; exact Bool.false_ne_true)
  · rw [Yard.grantChecks]
    have hqueue : (z.group k).queue = [x] := by rw [hgroup]
    simp only [hqueue, hrefused, Bool.false_eq_true, if_false]

/-- A gate that joins a queue has left LOCKED: it waits, or has taken its grant. -/
theorem Yard.join_gate (hw : (y.gate i).state = .waitGrant) :
    ((Yard.join e i y).gate i).state = .waitGrant ∨ ((Yard.join e i y).gate i).state = .unlocking := by
  have hdrift := (Yard.join_drifts (e := e) i y).gate i
  generalize (Yard.join e i y).gate i = g at hdrift
  cases hdrift with
  | same => exact .inl hw
  | granted => exact .inr rfl
  | early hs => exact absurd (hw.symm.trans hs) (by decide)

theorem Yard.join_group_ne {l : Fin 4} (hl : l ≠ (e.cfg i).group) : (Yard.join e i y).group l = y.group l := by
  unfold Yard.join
  exact (Yard.grantChecks_group_ne e hl _ _).trans (Yard.group_setGroup_ne _ _ hl)

theorem Yard.testLocked_joins {u : Tick} (hs : (y.gate i).state = .locked) (hp : (y.gate i).pending = true) (hm : e.mode.governing = true)
    (hu : (y.gate i).lastUnlock = some u) (he : u + (e.cfg i).tCY ≤ e.now) :
    Yard.testLocked e i y = Yard.join e i (y.setGate i { y.gate i with state := .waitGrant, stateTimer := none }) := by
  unfold Yard.testLocked
  dsimp only
  rw [if_pos ⟨hs, hp, hm⟩]
  split
  next v hv =>
    obtain rfl := Option.some.inj (hv.symm.trans hu)
    exact if_pos he
  next hn => exact absurd (hn.symm.trans hu) nofun

end

section
variable {s : State} {i : Fin 16}

theorem State.onYard_of_leaves {f : YardEnv → Yard → Yard} (hs : (s.gate i).state = .locked)
    (hl : ((f s.yardEnv s.yard).gate i).state ≠ .locked) :
    s.onYard i f = { s with yard := f s.yardEnv s.yard, desk := s.desk.clear (.gateRunaway i) } := by
  unfold State.onYard
  exact if_pos ⟨hs, hl⟩

/-- The yard of a LOCKED gate that goes to wait for its grant. -/
def State.waiting (s : State) (i : Fin 16) : Yard := s.yard.setGate i { s.gate i with state := .waitGrant, stateTimer := none }

theorem exec_tcyWaitExpiry {e u : Tick} (hs : (s.gate i).state = .locked) (ht : (s.gate i).stateTimer = some e) (he : e ≤ s.now)
    (hp : (s.gate i).pending = true) (hm : s.mdc.mode.governing = true) (hu : (s.gate i).lastUnlock = some u)
    (hc : u + (s.cfg i).tCY ≤ s.now) :
    exec (.tcyWaitExpiry i) s = .next { s with
      yard := Yard.join s.yardEnv i (s.waiting i), desk := s.desk.clear (.gateRunaway i) } := by
  have hgate : (s.stopTimer i).yard.gate i = { s.gate i with stateTimer := none } := Yard.gate_setGate ..
  have htest : Yard.testLocked s.yardEnv i (s.stopTimer i).yard = Yard.join s.yardEnv i (s.waiting i) := by
    rw [Yard.testLocked_joins (e := s.yardEnv) (u := u) (by rw [hgate]; exact hs) (by rw [hgate]; exact hp) hm (by rw [hgate]; exact hu) hc, hgate]
    exact congrArg (Yard.join s.yardEnv i) (Yard.setGate_setGate s.yard i _ _)
  have hleaves : ((Yard.join s.yardEnv i (s.waiting i)).gate i).state ≠ .locked := by
    obtain h | h := Yard.join_gate (e := s.yardEnv) (i := i) (y := s.waiting i) (by rw [State.waiting, Yard.gate_setGate]) <;>
      rw [h] <;> exact nofun
  have hexec : exec (.tcyWaitExpiry i) s = execTcyWaitExpiry i s := rfl
  rw [hexec, execTcyWaitExpiry, if_pos (State.timerDueIn_of hs ht he)]
  have hevent := State.onYard_of_leaves (s := s.stopTimer i) (i := i) (f := fun e y => Yard.testLocked e i y)
    ((congrArg Gate.state hgate).trans hs) (by show (Gate.state (Yard.gate (Yard.testLocked s.yardEnv i _) i)) ≠ _; rw [htest]; exact hleaves)
  have hyard : Yard.testLocked (s.stopTimer i).yardEnv i (s.stopTimer i).yard = Yard.join s.yardEnv i (s.waiting i) := htest
  rw [hevent, hyard]
  rfl

/-- Settles O16: the gate joins an empty queue, and is told of its grant or waits. -/
theorem cycleWaitsEndInTheQueue : Obligations.CycleWaitsEndInTheQueue := by
  intro s i e u hs ht he hp hm hu hc hq hv
  dsimp only
  have hgate : (s.waiting i).gate i = { s.gate i with state := .waitGrant, stateTimer := none } := Yard.gate_setGate ..
  have hgroup (k : Fin 4) : (s.waiting i).group k = s.group k := rfl
  obtain ⟨hgranted, hrefused⟩ := Yard.join_empty (e := s.yardEnv) (i := i) (y := s.waiting i) (by rw [hgate]) hq
  refine ⟨_, exec_tcyWaitExpiry hs ht he hp hm hu hc, fun l hl => Yard.join_group_ne hl, rfl, State.active_clear _ _,
    fun hroom hpassed => ?_, fun hfull => ?_⟩
  · have hallowed : grantAllowed s.yardEnv (s.cfg i).group (s.group (s.cfg i).group) = true := by
      unfold grantAllowed
      cases hg : (s.group (s.cfg i).group).lastGrant with
      | none => simp [State.yardEnv, hv, hroom]
      | some g =>
        obtain ⟨hspacing, htimer⟩ := hpassed g hg
        simp [State.yardEnv, hv, hroom, hspacing, htimer]
    have hjoin := hgranted hallowed
    rw [hgroup] at hjoin
    have hk := congrArg (Yard.group · (s.cfg i).group) hjoin
    refine ⟨hk.trans ((Yard.tellGranted_group ..).trans (Yard.group_setGroup ..)), ?_⟩
    obtain ⟨hcross, htell⟩ | ⟨hcross, htell⟩ := Yard.tellGranted_spec s.yardEnv i ((s.waiting i).setGroup (s.cfg i).group
      ((s.group (s.cfg i).group).granted s.now (s.tables.groupCfg (s.cfg i).group).spacing []))
    · have hcross : Config.grantCrosses s.draws s.now i.val = true := hcross
      rw [if_pos hcross]
      have hyard := hjoin.trans htell
      have hi := congrArg (Yard.gate · i) hyard
      have hflight := congrArg Yard.inFlight hyard
      exact ⟨hi.trans hgate, hflight⟩
    · have hcross : Config.grantCrosses s.draws s.now i.val = false := hcross
      rw [if_neg (by rw [hcross]; exact Bool.false_ne_true)]
      have hyard := hjoin.trans htell
      have hi := congrArg (Yard.gate · i) hyard
      refine ⟨(hi.trans (Yard.takeGrant_gate ..)).trans ?_, ?_⟩
      · rw [Yard.gate_setGroup, hgate]
        rfl
      · show (Yard.join s.yardEnv i (s.waiting i)).portF.Carries _
        rw [hyard]
        exact Yard.issue_carries ..
  · have hrefuse : grantAllowed s.yardEnv (s.cfg i).group (s.group (s.cfg i).group) = false := by
      simp [grantAllowed, State.yardEnv, hfull]
    have hjoin := hrefused hrefuse
    have hi := congrArg (Yard.gate · i) hjoin
    have hk := congrArg (Yard.group · (s.cfg i).group) hjoin
    refine ⟨hi.trans ?_, hk.trans ?_⟩
    · obtain h | ⟨hf, -⟩ := Yard.earlyLockTest_gate s.yardEnv (s.cfg i).group ((s.waiting i).setGroup (s.cfg i).group
          { (s.waiting i).group (s.cfg i).group with queue := [{ gate := i, priority := ((s.waiting i).gate i).priority }] }) i
      · exact h.trans hgate
      · rw [Yard.gate_setGroup, hgate] at hf
        exact nomatch hf
    · refine (congrArg (·[(s.cfg i).group]) (Yard.earlyLockTest_groups ..)).trans ((Yard.group_setGroup ..).trans ?_)
      rw [hgate]
      rfl

end

end Sys2Proof.Machine
end

section
/-! PROOFS. The freeze of the gates and of the station, as equations (O43). -/

namespace Sys2Proof.Machine

/-! ## Folds of operations within an event (R27) -/

/-- Operations that leave a LOCKED gate LOCKED change the yard alone. -/
theorem State.foldl_onYard_of_stays {f : Fin 16 → YardEnv → Yard → Yard}
    (h : ∀ e i y, (y.gate i).state = .locked → ((f i e y).gate i).state = .locked) (l : List (Fin 16)) (s : State) :
    l.foldl (fun s i => s.onYard i (f i)) s = { s with yard := l.foldl (fun y i => f i s.yardEnv y) s.yard } := by
  induction l generalizing s with
  | nil => rfl
  | cons i l ih =>
    have hstep : s.onYard i (f i) = { s with yard := f i s.yardEnv s.yard } := by
      by_cases hs : (s.gate i).state = .locked
      · exact State.onYard_of_stays (h _ _ _ hs)
      · exact State.onYard_of_not_locked hs
    rw [List.foldl_cons, List.foldl_cons, hstep, ih]
    rfl

/-- Operations that each touch one gate, by its record alone. -/
theorem Yard.foldl_alone {f : Fin 16 → Yard → Yard} {r : Fin 16 → Gate → Gate} (halone : ∀ i y, Yard.Alone i y (f i y))
    (hr : ∀ i y, (f i y).gate i = r i (y.gate i)) {l : List (Fin 16)} (hl : l.Nodup) (y : Yard) :
    (∀ i ∈ l, (l.foldl (fun y i => f i y) y).gate i = r i (y.gate i)) ∧ (∀ i ∉ l, (l.foldl (fun y i => f i y) y).gate i = y.gate i) ∧
    (l.foldl (fun y i => f i y) y).groups = y.groups ∧ (l.foldl (fun y i => f i y) y).inFlight = y.inFlight := by
  induction l generalizing y with
  | nil => exact ⟨nofun, fun _ _ => rfl, rfl, rfl⟩
  | cons j l ih =>
    obtain ⟨hj, hl'⟩ := List.nodup_cons.1 hl
    obtain ⟨hin, hout, hgroups, hflight⟩ := ih hl' (f j y)
    have hfirst := halone j y
    refine ⟨fun i hi => ?_, fun i hi => ?_, hgroups.trans hfirst.groups, hflight.trans hfirst.inFlight⟩
    · obtain rfl | hi := List.mem_cons.1 hi
      · exact (hout i hj).trans (hr i y)
      · exact (hin i hi).trans (congrArg (r i) (hfirst.others i fun h => hj (h ▸ hi)))
    · obtain ⟨hne, hi⟩ := not_or.1 (mt List.mem_cons.2 hi)
      exact (hout i hi).trans (hfirst.others i hne)

/-! ## One gate frozen (R29) -/

section
variable {e : YardEnv} {i : Fin 16}

/-- The record of a gate that a freeze has reached. -/
def Gate.frozen (e : YardEnv) (i : Fin 16) (g : Gate) : Gate :=
  let c := e.cfg i
  let held := g.heldStill c
  match g.state with
  | .waitGrant => { held with state := .locked, pending := false, stateTimer := none }
  | .locked => { held with pending := pendingTest c held.target held.positionAtLock, stateTimer := none }
  | .free => { held with pending := false, stateTimer := some (max e.now (lockAllowedInstant c { held with pending := false })) }
  | .moving =>
    match c.kind with
    | .wicket => { held with moveSetpoint := held.target, moveWatch := some (e.now + c.moveTimeout) }
    | .spill => { held with state := .reversing, stateTimer := some (e.now + c.reversalDwell), trimCount := 2, pending := false }
  | .reversing => { held with trimCount := 2, pending := false }
  | .unseen | .recovering | .unlocking | .locking | .faulted => held

theorem Yard.freezeGate_alone (y : Yard) : Yard.Alone i y (Yard.freezeGate e i y) := by
  cases hs : (y.gate i).state with
  | waitGrant => exact Yard.freezeGate_waiting hs ▸ Yard.setGate_alone _
  | locked => exact Yard.freezeGate_locked hs ▸ Yard.setGate_alone _
  | free => exact Yard.freezeGate_free hs ▸ (Yard.setGate_alone _).trans Yard.armLock_alone
  | moving =>
    cases hk : (e.cfg i).kind with
    | wicket => exact Yard.freezeGate_wicket hs hk ▸ (Yard.setGate_alone _).trans (Yard.issue_alone ..)
    | spill => exact Yard.freezeGate_spill hs hk ▸ (Yard.setGate_alone _).trans ((Yard.setGate_alone _).trans (Yard.issue_alone ..))
  | reversing => exact Yard.freezeGate_reversing hs ▸ Yard.setGate_alone _
  | unseen | recovering | unlocking | locking | faulted => exact Yard.freezeGate_other (by rw [hs]; rfl) ▸ Yard.setGate_alone _

theorem Yard.freezeGate_gate (y : Yard) : (Yard.freezeGate e i y).gate i = (y.gate i).frozen e i := by
  unfold Gate.frozen
  dsimp only
  cases hs : (y.gate i).state with
  | waitGrant => rw [Yard.freezeGate_waiting hs, Yard.gate_setGate]
  | locked => rw [Yard.freezeGate_locked hs, Yard.gate_setGate]
  | free =>
    rw [Yard.freezeGate_free hs, Yard.armLock]
    dsimp only
    rw [Yard.gate_setGate, Yard.gate_setGate]
  | moving =>
    cases hk : (e.cfg i).kind with
    | wicket => rw [Yard.freezeGate_wicket hs hk, Yard.issue_gate, Yard.gate_setGate]
    | spill => rw [Yard.freezeGate_spill hs hk, Yard.stopRun_eq, Yard.issue_gate, Yard.gate_setGate, Yard.gate_setGate]
  | reversing => rw [Yard.freezeGate_reversing hs, Yard.gate_setGate]
  | unseen | recovering | unlocking | locking | faulted => rw [Yard.freezeGate_other (by rw [hs]; rfl), Yard.gate_setGate]

theorem Gate.frozen_state (g : Gate) : (g.frozen e i).state =
    (match g.state, (e.cfg i).kind with
     | .waitGrant, _ => .locked
     | .moving, .spill => .reversing
     | st, _ => st) := by
  obtain ⟨-, -, hheld⟩ := g.heldStill_keeps (e.cfg i)
  unfold Gate.frozen
  dsimp only
  cases hs : g.state <;> cases hk : (e.cfg i).kind <;> simp [hheld, hs]

theorem Gate.frozen_not_waiting (g : Gate) : (g.frozen e i).state ≠ .waitGrant := by
  rw [Gate.frozen_state]
  cases g.state <;> cases (e.cfg i).kind <;> exact nofun

end

/-! ## The arbiter after the freeze (R34, R39) -/

section
variable {e : YardEnv} {k : Fin 4} {i j : Fin 16}

/-- No gate waits for a grant. -/
def Yard.NoneWaits (y : Yard) : Prop := ∀ i, (y.gate i).state ≠ .waitGrant

theorem Yard.Drifts.noneWaits {y y' : Yard} (h : Yard.Drifts e y y') (hy : y.NoneWaits) : y'.NoneWaits :=
  fun i => by rw [(h.gate i).state (hy i)]; exact hy i

/-- With no gate waiting, grant checks put no grant in flight. -/
theorem Yard.grantChecks_inFlight (n : Nat) {y : Yard} (h : y.NoneWaits) : (Yard.grantChecks e k n y).inFlight = y.inFlight := by
  induction n generalizing y with
  | zero => exact Yard.earlyLockTest_inFlight e k y
  | succ n ih =>
    unfold Yard.grantChecks
    dsimp only
    split
    · rfl
    · split
      · split
        next hw => exact absurd hw (h _)
        next => exact ih (y := y.setGroup k _) h
      · exact Yard.earlyLockTest_inFlight e k y

/-- Grant checks touch no gate of another group that does not wait. -/
theorem Yard.grantChecks_gate_other (hi : (e.cfg i).group ≠ k) (n : Nat) {y : Yard} (hs : (y.gate i).state ≠ .waitGrant) :
    (Yard.grantChecks e k n y).gate i = y.gate i := by
  have htest (y : Yard) : (Yard.earlyLockTest e k y).gate i = y.gate i := by
    unfold Yard.earlyLockTest
    split
    · refine foldl_frame (fun y : Yard => y.gate i) _ (fun y j => ?_) _ _
      split
      next hj =>
        have hne : i ≠ j := fun h => hi (h ▸ hj.1)
        exact Yard.earlyLockRequest_alone.others i hne
      next => rfl
    · rfl
  induction n generalizing y with
  | zero => exact htest y
  | succ n ih =>
    unfold Yard.grantChecks
    dsimp only
    split
    · rfl
    next h rest hq =>
      split
      · split
        next hw =>
          have hne : i ≠ h.gate := fun heq => hs (by rw [heq]; exact hw)
          have htold := Yard.tellGranted_gate_ne e (y.setGroup k
            { slots := (y.group k).slots + 1, lastGrant := some e.now
              spacingTimer := if 0 < (e.tables.groupCfg k).spacing then some (e.now + (e.tables.groupCfg k).spacing) else none
              queue := rest }) hne
          exact (ih (by rw [htold]; exact hs)).trans htold
        next => exact ih (y := y.setGroup k _) hs
      · exact htest y

/-- A gate that leaves the queue of a group puts no grant in flight, and has none after it. -/
theorem Yard.leaveQueue_inFlight {y : Yard} (h : y.NoneWaits) :
    (Yard.leaveQueue e i y).inFlight = y.inFlight.filter (fun j => decide (j ≠ i)) := by
  obtain ⟨-, hleave⟩ | ⟨hi, hleave⟩ := Yard.leaveQueue_spec e i y <;> rw [hleave]
  · exact Yard.grantChecks_inFlight _ (y := (y.landGrant i).setGroup _ _) h
  · have hkept : y.inFlight.filter (fun j => decide (j ≠ i)) = y.inFlight :=
      List.filter_eq_self.2 fun j hj => decide_eq_true fun hji => hi (hji ▸ hj)
    rw [hkept]
    unfold Yard.removeEntry
    dsimp only
    split
    · exact Yard.grantChecks_inFlight _ (y := y.setGroup _ _) h
    · rfl

/-- With no gate waiting in its group a gate does not change where another leaves its queue, and the queue stays empty. -/
theorem Yard.leaveQueue_quiet {y : Yard} (h : y.NoneWaits) (hk : (e.cfg i).group = k) (hq : (y.group k).queue = []) :
    (Yard.leaveQueue e j y).gate i = y.gate i ∧ ((Yard.leaveQueue e j y).group k).queue = [] := by
  by_cases hj : (e.cfg j).group = k
  · obtain ⟨-, hleave⟩ | ⟨-, hleave⟩ := Yard.leaveQueue_spec e j y <;> rw [hleave]
    · rw [Yard.releaseSlot_empty (y := y.landGrant j) (by rw [hj]; exact hq), hj]
      exact ⟨rfl, by rw [Yard.group_setGroup]; exact hq⟩
    · unfold Yard.removeEntry
      rw [hj]
      dsimp only
      rw [hq]
      exact ⟨rfl, by rw [if_neg (by exact nofun), Yard.group_setGroup]; rfl⟩
  · refine ⟨?_, by rw [Yard.leaveQueue_group_ne e y (Ne.symm hj)]; exact hq⟩
    have hne : (e.cfg i).group ≠ (e.cfg j).group := fun heq => hj (heq ▸ hk)
    obtain ⟨-, hleave⟩ | ⟨-, hleave⟩ := Yard.leaveQueue_spec e j y <;> rw [hleave]
    · exact Yard.grantChecks_gate_other hne _ (y := (y.landGrant j).setGroup _ _) (h i)
    · unfold Yard.removeEntry
      dsimp only
      split
      · exact Yard.grantChecks_gate_other hne _ (y := y.setGroup _ _) (h i)
      · rfl

end

/-! ## Every gate frozen -/

section
variable (e : YardEnv) (y : Yard)

/-- Every gate frozen, before the waiting ones leave their queues. -/
def Yard.held : Yard := allGates.foldl (fun y i => Yard.freezeGate e i y) y

/-- The waiting gates leave their queues. -/
def Yard.cleared (l : List (Fin 16)) : Yard := l.foldl (fun y i => Yard.leaveQueue e i y) y

theorem Yard.held_spec : (∀ i, (Yard.held e y).gate i = (y.gate i).frozen e i) ∧ (Yard.held e y).groups = y.groups ∧
    (Yard.held e y).inFlight = y.inFlight := by
  obtain ⟨hin, -, hgroups, hflight⟩ := Yard.foldl_alone (f := fun i y => Yard.freezeGate e i y) (r := fun i g => g.frozen e i)
    (fun i y => Yard.freezeGate_alone y) (fun i y => Yard.freezeGate_gate y) allGates_nodup y
  exact ⟨fun i => hin i (mem_allGates i), hgroups, hflight⟩

theorem Yard.held_noneWaits : (Yard.held e y).NoneWaits := fun i => by
  rw [(Yard.held_spec e y).1 i]
  exact Gate.frozen_not_waiting _

/-- A frame that the freeze of a gate has issued still waits or is being sent once every gate is frozen. -/
theorem Yard.held_carries {i : Fin 16} {x : DriveEntry} (hx : x.gate = i)
    (h : ∀ z : Yard, z.gate i = y.gate i → (Yard.freezeGate e i z).portF.Carries x) : (Yard.held e y).portF.Carries x := by
  obtain ⟨front, rest, hsplit⟩ := List.append_of_mem (mem_allGates i)
  have hnodup : (front ++ i :: rest).Nodup := hsplit ▸ allGates_nodup
  have hfront : i ∉ front := fun hi => (List.nodup_append.1 hnodup).2.2 i hi i List.mem_cons_self rfl
  have hrest : i ∉ rest := (List.nodup_cons.1 (List.nodup_append.1 hnodup).2.1).1
  unfold Yard.held
  rw [hsplit, List.foldl_append, List.foldl_cons]
  obtain ⟨-, hkept, -, -⟩ := Yard.foldl_alone (f := fun i y => Yard.freezeGate e i y) (r := fun i g => g.frozen e i)
    (fun i y => Yard.freezeGate_alone y) (fun i y => Yard.freezeGate_gate y) (List.nodup_append.1 hnodup).1 y
  have hgate := hkept i hfront
  generalize List.foldl (fun y i => Yard.freezeGate e i y) y front = z at hgate ⊢
  have hreached : (Yard.freezeGate e i z).portF.Carries x ∧ ((Yard.freezeGate e i z).gate i).state ≠ .waitGrant :=
    ⟨h z hgate, by rw [Yard.freezeGate_gate]; exact Gate.frozen_not_waiting _⟩
  refine (List.foldlRecOn (motive := fun w : Yard => w.portF.Carries x ∧ (w.gate i).state ≠ .waitGrant) rest _ hreached
    fun w ⟨hw, hs⟩ j hj => ?_).1
  have hij : i ≠ j := fun heq => hrest (heq ▸ hj)
  refine ⟨(Yard.freezeGate_acts w).carries x (by rw [hx]; exact hij) (by rw [hx]; exact hs) hw, ?_⟩
  rw [(Yard.freezeGate_alone w).others i hij]
  exact hs

variable {y}

theorem Yard.cleared_drifts (l : List (Fin 16)) : Yard.Drifts e y (Yard.cleared e y l) :=
  List.foldlRecOn (motive := fun w => Yard.Drifts e y w) l _ (.refl y) fun _ hw i _ => hw.trans (Yard.leaveQueue_drifts i _)

theorem Yard.cleared_inFlight (h : y.NoneWaits) {l : List (Fin 16)} {i : Fin 16} (hi : i ∈ l) : i ∉ (Yard.cleared e y l).inFlight := by
  obtain ⟨front, rest, rfl⟩ := List.append_of_mem hi
  unfold Yard.cleared
  rw [List.foldl_append, List.foldl_cons]
  have hfront : Yard.NoneWaits (front.foldl (fun y i => Yard.leaveQueue e i y) y) := (Yard.cleared_drifts e front).noneWaits h
  generalize front.foldl (fun y i => Yard.leaveQueue e i y) y = z at hfront ⊢
  have hleft : (Yard.leaveQueue e i z).NoneWaits ∧ i ∉ (Yard.leaveQueue e i z).inFlight :=
    ⟨(Yard.leaveQueue_drifts i z).noneWaits hfront, by rw [Yard.leaveQueue_inFlight hfront]; simp⟩
  refine (List.foldlRecOn (motive := fun w : Yard => w.NoneWaits ∧ i ∉ w.inFlight) rest _ hleft fun w ⟨hw, hout⟩ j _ => ?_).2
  refine ⟨(Yard.leaveQueue_drifts j w).noneWaits hw, ?_⟩
  rw [Yard.leaveQueue_inFlight hw]
  exact fun hmem => hout (List.mem_filter.1 hmem).1

theorem Yard.cleared_quiet (h : y.NoneWaits) (l : List (Fin 16)) {i : Fin 16} {k : Fin 4} (hk : (e.cfg i).group = k)
    (hq : (y.group k).queue = []) : (Yard.cleared e y l).gate i = y.gate i :=
  (List.foldlRecOn (motive := fun w : Yard => w.NoneWaits ∧ (w.group k).queue = [] ∧ w.gate i = y.gate i) l _ ⟨h, hq, rfl⟩
    fun w ⟨hw, hempty, hsame⟩ j _ => by
      obtain ⟨hgate, hqueue⟩ := Yard.leaveQueue_quiet (j := j) hw hk hempty
      exact ⟨(Yard.leaveQueue_drifts j w).noneWaits hw, hqueue, hgate.trans hsame⟩).2.2

end

/-! ## FROZEN (R132) -/

section
variable (s : State)

/-- The gates that wait for a grant. -/
def State.waitingGates : List (Fin 16) := allGates.filter (fun i => (s.gate i).state == .waitGrant)

/-- The yard that the freeze leaves, before the order slots are emptied. -/
def State.frozenYard (s : State) : Yard := Yard.cleared s.yardEnv (Yard.held s.yardEnv s.yard) s.waitingGates

/-- Gates that freeze and gates that leave their queues change the yard alone. -/
theorem State.foldl_freeze (frozen leaving : List (Fin 16)) :
    leaving.foldl (fun s i => s.onYard i (fun e y => Yard.leaveQueue e i y))
      (frozen.foldl (fun s i => s.onYard i (fun e y => Yard.freezeGate e i y)) s) =
    { s with yard := Yard.cleared s.yardEnv (frozen.foldl (fun y i => Yard.freezeGate s.yardEnv i y) s.yard) leaving } := by
  have hfreeze := State.foldl_onYard_of_stays (f := fun i e y => Yard.freezeGate e i y) (fun e i y hs => by
    rw [Yard.freezeGate_gate, Gate.frozen_state, hs]) frozen s
  have hleave (u : State) := State.foldl_onYard_of_stays (f := fun i e y => Yard.leaveQueue e i y) (fun e i y hs => by
    rw [((Yard.leaveQueue_drifts i y).gate i).state (by rw [hs]; exact nofun)]
    exact hs) leaving u
  rw [hfreeze, hleave]
  rfl

theorem State.freezeGates_eq : s.freezeGates = { s with yard := s.frozenYard } := s.foldl_freeze allGates s.waitingGates

/-- The state of the entry to FROZEN as its gates are frozen. -/
def State.freezing : State := { s with
  mdc := { s.mdc with mode := .frozen, orderTimer := none, controlPresent := false }, rgv := { s.rgv with roundTimer := none } }

/-- The state after the entry to FROZEN, but for the planned outflow. -/
def State.frozenStill : State := State.emptySlots { s.freezing with yard := s.freezing.frozenYard }

theorem State.handOverPlanned_of_not_governing {s : State} (h : s.mdc.mode.governing = false) : s.handOverPlanned = s := by
  unfold State.handOverPlanned State.noticesOn
  rw [h]
  rfl

theorem State.frozenStill_frame : s.frozenStill = { s.freezing with yard := s.frozenStill.yard } :=
  State.emptySlots_frame { s.freezing with yard := s.freezing.frozenYard }

theorem State.enterFrozen_eq : s.enterFrozen = { s.frozenStill with
    rgv := { s.frozenStill.rgv with planned := s.frozenStill.plannedSum }, csu := { s.frozenStill.csu with refreshTimer := none }
    desk := s.frozenStill.desk.clear .rampHeld } := by
  have hstill : State.emptySlots (State.freezeGates s.freezing) = s.frozenStill := by
    rw [State.freezeGates_eq]
    rfl
  have hmdc : s.frozenStill.mdc = s.freezing.mdc := (congrArg State.mdc s.frozenStill_frame :)
  unfold State.enterFrozen
  dsimp only
  generalize hz : State.emptySlots (State.freezeGates _) = z
  obtain rfl : z = s.frozenStill := hz.symm.trans hstill
  generalize s.frozenStill = u at hmdc ⊢
  rw [State.handOverPlanned_of_not_governing (s := { u with rgv := { u.rgv with planned := u.plannedSum } }) (by rw [hmdc]; rfl)]
  rfl

theorem State.emptySlots_yard (u : State) : (∀ i, u.emptySlots.gate i = { u.gate i with slot := none }) ∧
    u.emptySlots.yard.inFlight = u.yard.inFlight ∧ u.emptySlots.yard.portF = u.yard.portF := by
  have h : u.emptySlots = u.eachGate (fun _ g => { g with slot := none }) := rfl
  have hframe := u.eachGate_frame (u := fun _ g => { g with slot := none })
  rw [h]
  exact ⟨fun i => State.eachGate_gate _ u i, (congrArg (·.yard.inFlight) hframe :), (congrArg (·.yard.portF) hframe :)⟩

end

end Sys2Proof.Machine
end

section
/-! PROOFS. FREEZE (O43). -/

namespace Sys2Proof.Machine

/-! ## The record of a frozen gate -/

section
variable {e : YardEnv} {i : Fin 16} {g : Gate}

theorem Gate.heldStill_unseen {c : GateCfg} (h : g.state = .unseen) : g.heldStill c = g := by
  unfold Gate.heldStill
  rw [h]

theorem Gate.heldStill_seated {c : GateCfg} {p : Nat} (h : g.state ≠ .unseen) (hp : g.position = some p) :
    g.heldStill c = { g with commanded := some (c.clamp p), target := some (c.clamp p) } := by
  unfold Gate.heldStill
  rw [hp]
  cases hs : g.state <;> first | rfl | exact absurd hs h

theorem Gate.frozen_keeps (g : Gate) : (g.frozen e i).standing = g.standing ∧
    (g.frozen e i).commanded = (g.heldStill (e.cfg i)).commanded ∧ (g.frozen e i).target = (g.heldStill (e.cfg i)).target := by
  obtain ⟨-, hstanding, -⟩ := g.heldStill_keeps (e.cfg i)
  unfold Gate.frozen
  dsimp only
  cases g.state <;> cases (e.cfg i).kind <;> exact ⟨hstanding, rfl, rfl⟩

end

section
variable (s : State) (i : Fin 16)

/-- What the gates read of the station as they freeze. -/
abbrev State.freezeEnv : YardEnv := s.freezing.yardEnv

theorem State.frozenStill_drift : ∃ g, Gate.Drift s.freezeEnv i ((s.gate i).frozen s.freezeEnv i) g ∧
    s.frozenStill.gate i = { g with slot := none } := by
  obtain ⟨hgate, -, -⟩ := Yard.held_spec s.freezeEnv s.yard
  have hdrift := (Yard.cleared_drifts s.freezeEnv (y := Yard.held s.freezeEnv s.yard) s.freezing.waitingGates).gate i
  rw [hgate i] at hdrift
  exact ⟨_, hdrift, (State.emptySlots_yard { s.freezing with yard := s.freezing.frozenYard }).1 i⟩

theorem State.frozenStill_gate (hs : ((s.gate i).frozen s.freezeEnv i).state ≠ .free) :
    s.frozenStill.gate i = { (s.gate i).frozen s.freezeEnv i with slot := none } := by
  obtain ⟨g, hdrift, hgate⟩ := s.frozenStill_drift i
  rw [hgate, hdrift.eq (Gate.frozen_not_waiting _) hs]

theorem State.frozenStill_keeps : (s.frozenStill.gate i).slot = none ∧ (s.frozenStill.gate i).standing = (s.gate i).standing ∧
    (s.frozenStill.gate i).commanded = ((s.gate i).heldStill (s.cfg i)).commanded ∧
    (s.frozenStill.gate i).target = ((s.gate i).heldStill (s.cfg i)).target ∧ (s.frozenStill.gate i).state ≠ .waitGrant := by
  obtain ⟨g, hdrift, hgate⟩ := s.frozenStill_drift i
  obtain ⟨hstanding, hcommanded, htarget⟩ := (s.gate i).frozen_keeps (e := s.freezeEnv) (i := i)
  have hfrozen := (s.gate i).frozen_not_waiting (e := s.freezeEnv) (i := i)
  rw [hgate]
  exact ⟨rfl, hdrift.standing.trans hstanding, hdrift.commanded.trans hcommanded, hdrift.target.trans htarget,
    fun h => hfrozen ((hdrift.state hfrozen).symm.trans h)⟩

theorem State.frozenStill_inFlight (h : (s.gate i).state = .waitGrant) : i ∉ s.frozenStill.yard.inFlight := by
  have hwaits : i ∈ s.freezing.waitingGates := List.mem_filter.2 ⟨mem_allGates i, beq_iff_eq.2 h⟩
  have hcleared := Yard.cleared_inFlight s.freezeEnv (Yard.held_noneWaits s.freezeEnv s.yard) hwaits
  obtain ⟨-, hflight, -⟩ := State.emptySlots_yard { s.freezing with yard := s.freezing.frozenYard }
  unfold State.frozenStill
  rw [hflight]
  exact hcleared

theorem State.frozenStill_free (hs : (s.gate i).state = .free) :
    (s.frozenStill.gate i).state = .free ∧ (s.frozenStill.gate i).pending = false ∧
    ((s.group (s.cfg i).group).queue = [] → s.frozenStill.gate i = { (s.gate i).frozen s.freezeEnv i with slot := none }) := by
  obtain ⟨g, hdrift, hgate⟩ := s.frozenStill_drift i
  have hfrozen : ((s.gate i).frozen s.freezeEnv i).state = .free ∧ ((s.gate i).frozen s.freezeEnv i).pending = false := by
    refine ⟨by rw [Gate.frozen_state, hs], ?_⟩
    unfold Gate.frozen
    rw [hs]
  refine ⟨?_, ?_, fun hq => ?_⟩
  · rw [hgate]
    exact (hdrift.state (Gate.frozen_not_waiting _)).trans hfrozen.1
  · rw [hgate]
    exact hdrift.pending.trans hfrozen.2
  · obtain ⟨hheld, hgroups, -⟩ := Yard.held_spec s.freezeEnv s.yard
    have hempty : ((Yard.held s.freezeEnv s.yard).group (s.cfg i).group).queue = [] := by
      have hgroup : (Yard.held s.freezeEnv s.yard).group (s.cfg i).group = s.group (s.cfg i).group := congrArg (·[(s.cfg i).group]) hgroups
      rw [hgroup]
      exact hq
    have hquiet := Yard.cleared_quiet s.freezeEnv (Yard.held_noneWaits s.freezeEnv s.yard) s.freezing.waitingGates (i := i) rfl hempty
    have hslots := (State.emptySlots_yard { s.freezing with yard := s.freezing.frozenYard }).1 i
    rw [hheld i] at hquiet
    refine hslots.trans ?_
    exact congrArg (fun g : Gate => { g with slot := none }) hquiet

/-- A frame issued as a gate freezes still waits or is being sent in FROZEN. -/
theorem State.frozenStill_carries {x : DriveEntry} (hx : x.gate = i)
    (h : ∀ z : Yard, z.gate i = s.gate i → (Yard.freezeGate s.freezeEnv i z).portF.Carries x) : s.frozenStill.yard.portF.Carries x := by
  have hheld := Yard.held_carries s.freezeEnv s.yard hx h
  have hwaits := Yard.held_noneWaits s.freezeEnv s.yard x.gate
  have hcleared := ((Yard.cleared_drifts s.freezeEnv (y := Yard.held s.freezeEnv s.yard) s.freezing.waitingGates).carries x hwaits).2 hheld
  obtain ⟨-, -, hport⟩ := State.emptySlots_yard { s.freezing with yard := s.freezing.frozenYard }
  unfold State.frozenStill
  rw [hport]
  exact hcleared

end

/-! ## FREEZE -/

theorem State.plannedSum_congr {a b : State} (htables : b.tables = a.tables) (hlvu : b.lvu = a.lvu) (hgates : ∀ i, b.gate i = a.gate i) :
    b.plannedSum = a.plannedSum := by
  unfold State.plannedSum State.outflowSum
  rw [htables, hlvu]
  simp only [hgates]

section
variable {s : State}

theorem execFreeze_of_routed (h : s.Routed) : exec .freeze s = .next (
    if s.mdc.mode.governing = false then s.reply 15 .refusedMode []
    else if s.mdc.restartPending then s.reply 15 .refusedBusy []
    else s.enterFrozen.reply 15 .done []) :=
  congrArg _ (h.request_eq 15 _)

/-- The records of the gates after a freeze, by their states before it (R29). -/
theorem State.frozenStill_byState {i : Fin 16} {p : Nat} (hp : (s.gate i).position = some p) :
    let g := s.gate i
    let c := s.cfg i
    let q := c.clamp p
    let set : Gate := { g with commanded := some q, target := some q, slot := none }
    (g.state = .waitGrant → s.frozenStill.gate i = { set with state := .locked, pending := false, stateTimer := none }) ∧
    (∀ l, g.state = .locked → g.positionAtLock = some l →
      s.frozenStill.gate i = { set with pending := decide (c.band < gap q l), stateTimer := none }) ∧
    (g.state = .free → (s.frozenStill.gate i).state = .free ∧ (s.frozenStill.gate i).pending = false ∧
      ((s.group c.group).queue = [] → s.frozenStill.gate i = { set with
        pending := false, stateTimer := some (max s.now (lockAllowedInstant c g)) })) ∧
    (g.state = .moving → c.kind = .wicket →
      s.frozenStill.gate i = { set with moveSetpoint := some q, moveWatch := some (s.now + c.moveTimeout) } ∧
      s.frozenStill.yard.portF.Carries (s.command i .move q)) ∧
    (g.state = .moving → c.kind = .spill →
      s.frozenStill.gate i = { set with
        state := .reversing, stateTimer := some (s.now + c.reversalDwell), trimCount := 2, pending := false } ∧
      s.frozenStill.yard.portF.Carries (s.command i .stop 0)) ∧
    (g.state = .reversing → s.frozenStill.gate i = { set with trimCount := 2, pending := false }) ∧
    (g.state = .recovering ∨ g.state = .unlocking ∨ g.state = .locking ∨ g.state = .faulted → s.frozenStill.gate i = set) := by
  dsimp only
  have hstill (st : GateState) (hs : (s.gate i).state = st) (hne : st ≠ .free := by exact nofun) :
      s.frozenStill.gate i = { (s.gate i).frozen s.freezeEnv i with slot := none } := by
    refine s.frozenStill_gate i ?_
    rw [Gate.frozen_state, hs]
    cases st with
    | free => exact absurd rfl hne
    | _ => cases (s.freezeEnv.cfg i).kind <;> exact nofun
  have hheld (h : (s.gate i).state ≠ .unseen) : (s.gate i).heldStill (s.freezeEnv.cfg i) =
      { s.gate i with commanded := some ((s.cfg i).clamp p), target := some ((s.cfg i).clamp p) } := Gate.heldStill_seated h hp
  refine ⟨fun hs => ?_, fun l hs hl => ?_, fun hs => ?_, fun hs hk => ?_, fun hs hk => ?_, fun hs => ?_, fun hs => ?_⟩
  · rw [hstill _ hs, Gate.frozen]
    simp only [hs, hheld (by rw [hs]; exact nofun)]
  · rw [hstill _ hs, Gate.frozen]
    simp only [hs, hheld (by rw [hs]; exact nofun), hl]
    rfl
  · obtain ⟨hstate, hpending, hexact⟩ := s.frozenStill_free i hs
    refine ⟨hstate, hpending, fun hq => ?_⟩
    rw [hexact hq, Gate.frozen]
    simp only [hs, hheld (by rw [hs]; exact nofun)]
    rfl
  · refine ⟨?_, s.frozenStill_carries i rfl fun z hz => ?_⟩
    · rw [hstill _ hs, Gate.frozen]
      have hk' : (s.freezeEnv.cfg i).kind = .wicket := hk
      simp only [hs, hk', hheld (by rw [hs]; exact nofun)]
      rfl
    · rw [Yard.freezeGate_wicket (by rw [hz]; exact hs) hk, hz, hheld (by rw [hs]; exact nofun)]
      exact Yard.issue_carries ..
  · refine ⟨?_, s.frozenStill_carries i rfl fun z hz => ?_⟩
    · rw [hstill _ hs, Gate.frozen]
      have hk' : (s.freezeEnv.cfg i).kind = .spill := hk
      simp only [hs, hk', hheld (by rw [hs]; exact nofun)]
      rfl
    · rw [Yard.freezeGate_spill (by rw [hz]; exact hs) hk, Yard.stopRun_eq]
      exact Yard.issue_carries ..
  · rw [hstill _ hs, Gate.frozen]
    simp only [hs, hheld (by rw [hs]; exact nofun)]
  · obtain hs | hs | hs | hs := hs <;>
    · rw [hstill _ hs, Gate.frozen]
      simp only [hs, hheld (by rw [hs]; exact nofun)]

end

/-- Settles O43: the entry to FROZEN keeps what a freeze of every gate leaves, and the reply follows it. -/
theorem freezeStopsTheStation : Obligations.FreezeStopsTheStation := by
  intro s h
  dsimp only
  have hexec := execFreeze_of_routed h
  refine ⟨fun hm => ?_, fun hm hr => ?_, fun hm hr => ⟨s.enterFrozen.reply 15 .done [], ?_, ?_⟩⟩
  · rw [hexec, if_pos hm, State.reply_eq]
    rfl
  · rw [hexec, if_neg (by rw [hm]; exact nofun), if_pos hr, State.reply_eq]
    rfl
  · rw [hexec, if_neg (by rw [hm]; exact nofun), if_neg (by rw [hr]; exact nofun)]
  have hyard : (s.enterFrozen.reply 15 .done []).yard = s.frozenStill.yard := by
    rw [State.reply_eq, s.enterFrozen_eq]
  have hgate (i : Fin 16) : (s.enterFrozen.reply 15 .done []).gate i = s.frozenStill.gate i := congrArg (Yard.gate · i) hyard
  have hsum : (s.enterFrozen.reply 15 .done []).plannedSum = s.frozenStill.plannedSum := by
    refine State.plannedSum_congr ?_ ?_ hgate <;> rw [State.reply_eq, s.enterFrozen_eq]
  simp only [hyard, hgate, hsum]
  have hframe := s.frozenStill_frame
  have hkeeps := s.frozenStill_keeps
  have hdesk : s.frozenStill.desk = s.desk := (congrArg State.desk hframe :)
  have hmdc : s.frozenStill.mdc = { s.mdc with mode := .frozen, orderTimer := none, controlPresent := false } := (congrArg State.mdc hframe :)
  have hrgv : s.frozenStill.rgv = { s.rgv with roundTimer := none } := (congrArg State.rgv hframe :)
  have hcsu : s.frozenStill.csu = s.csu := (congrArg State.csu hframe :)
  refine ⟨?_, ?_, ?_, ?_, ?_, ?_, fun i => ?_, fun i p hs hp => ?_, fun i => ?_, fun i hs => ?_, fun i p hp => ?_⟩
  · rw [State.reply_eq, s.enterFrozen_eq]
    generalize s.frozenStill = u at hframe ⊢
    rw [hframe]
    rfl
  · rw [State.reply_eq, s.enterFrozen_eq]
    generalize s.frozenStill = u at hmdc ⊢
    exact hmdc
  · rw [State.reply_eq, s.enterFrozen_eq]
    generalize s.frozenStill = u at hrgv ⊢
    dsimp only
    rw [hrgv]
  · rw [State.reply_eq, s.enterFrozen_eq]
    generalize s.frozenStill = u at hcsu ⊢
    dsimp only
    rw [hcsu]
  · rw [State.reply_desk, s.enterFrozen_eq, ← hdesk]
    rfl
  · rw [State.reply_active, s.enterFrozen_eq]
    exact State.active_clear s.frozenStill .rampHeld
  · obtain ⟨hslot, hstanding, -⟩ := hkeeps i
    exact ⟨hslot, hstanding⟩
  · obtain ⟨-, -, hcommanded, htarget, -⟩ := hkeeps i
    rw [hcommanded, htarget, Gate.heldStill_seated hs hp]
    exact ⟨rfl, rfl⟩
  · obtain ⟨-, -, -, -, hstate⟩ := hkeeps i
    exact ⟨hstate, s.frozenStill_inFlight i⟩
  · have hnotFree : ((s.gate i).frozen s.freezeEnv i).state ≠ .free := by
      rw [Gate.frozen_state, hs]
      exact nofun
    rw [s.frozenStill_gate i hnotFree, Gate.frozen]
    simp only [hs, Gate.heldStill_unseen hs]
  · have hby := s.frozenStill_byState hp
    simp only [lockAllowedInstant_eq] at hby
    exact hby

end Sys2Proof.Machine
end

section
/-! PROOFS. What a REPORT does, by the state that it finds (O10, O11, O12). -/

namespace Sys2Proof.Machine

/-! ## The parts of a gate record that motion leaves alone -/

section
variable {α : Type} {φ : Gate → α} {e : YardEnv} {i : Fin 16} {y : Yard}

/-- A part of the gate record that no move, no grant and no lock touches. -/
def Gate.MotionFree (φ : Gate → α) : Prop :=
  ∀ (g : Gate) (state : GateState) (pending : Bool) (moveSetpoint : Option Nat) (lastUnlock lastMoveEnd : Option Tick) (trimCount : Nat)
    (earlyLock : Bool) (stateTimer moveWatch : Timer) (reportSinceGrant raising : Bool),
    φ { g with
      state := state, pending := pending, moveSetpoint := moveSetpoint, lastUnlock := lastUnlock, lastMoveEnd := lastMoveEnd
      trimCount := trimCount, earlyLock := earlyLock, stateTimer := stateTimer, moveWatch := moveWatch
      reportSinceGrant := reportSinceGrant, raising := raising } = φ g

/-- From `y` to `y'` every gate keeps this part of its record. -/
def Yard.Keeps (φ : Gate → α) (y y' : Yard) : Prop := ∀ j, φ (y'.gate j) = φ (y.gate j)

theorem Yard.Keeps.refl (y : Yard) : Yard.Keeps φ y y := fun _ => rfl

theorem Yard.Keeps.trans {a b c : Yard} (hab : Yard.Keeps φ a b) (hbc : Yard.Keeps φ b c) : Yard.Keeps φ a c :=
  fun j => (hbc j).trans (hab j)

theorem Yard.setGate_motionFree {g : Gate} (h : φ g = φ (y.gate i)) : Yard.Keeps φ y (y.setGate i g) := fun j => by
  by_cases hj : j = i
  · rw [hj, Yard.gate_setGate, h]
  · rw [Yard.gate_setGate_ne _ _ hj]

theorem Yard.Keeps.after {g : Gate} {y' : Yard} (h : Yard.Keeps φ (y.setGate i g) y') (hg : φ g = φ (y.gate i)) : Yard.Keeps φ y y' :=
  (Yard.setGate_motionFree hg).trans h

theorem Yard.issue_motionFree (c : DriveCommand) (n : Nat) : Yard.Keeps φ y (Yard.issue e i c n y) := fun _ => rfl

section
variable (hφ : Gate.MotionFree φ)
include hφ

theorem Gate.Drift.keeps {g g' : Gate} (h : Gate.Drift e i g g') : φ g' = φ g := by
  cases h with
  | same => rfl
  | granted => exact hφ ..
  | early => exact hφ ..

theorem Yard.Drifts.keeps {y' : Yard} (h : Yard.Drifts e y y') : Yard.Keeps φ y y' := fun j => (h.gate j).keeps hφ

theorem Yard.restFree_motionFree : Yard.Keeps φ y (Yard.restFree e i y) := by
  have harmed : Yard.Keeps φ y (Yard.armLock e i y) := Yard.setGate_motionFree (hφ ..)
  exact harmed.trans ((Yard.idleSignal_drifts i _).keeps hφ)

theorem Yard.startRun_motionFree (toward : Nat) : Yard.Keeps φ y (Yard.startRun e i toward y) :=
  (Yard.issue_motionFree _ _).after (hφ ..)

theorem Yard.startMove_motionFree : Yard.Keeps φ y (Yard.startMove e i y) := by
  unfold Yard.startMove
  dsimp only
  split
  · exact (Yard.issue_motionFree _ _).after (hφ ..)
  · exact (Yard.startRun_motionFree hφ _).after (hφ ..)

theorem Yard.enterFree_motionFree : Yard.Keeps φ y (Yard.enterFree e i y) := by
  unfold Yard.enterFree Yard.testFree
  dsimp only
  split
  · exact ((Yard.startMove_motionFree hφ).after (hφ ..)).after (hφ ..)
  · exact ((Yard.restFree_motionFree hφ).after (hφ ..)).after (hφ ..)

theorem Yard.endMove_motionFree : Yard.Keeps φ y (Yard.endMove e i y) := by
  unfold Yard.endMove Yard.rest
  dsimp only
  split
  · exact ((Yard.restFree_motionFree hφ).after (hφ ..)).after (hφ ..)
  · exact (Yard.enterFree_motionFree hφ).after (hφ ..)

theorem Yard.testLocked_motionFree : Yard.Keeps φ y (Yard.testLocked e i y) := by
  have hjoin : Yard.Keeps φ y (Yard.join e i (y.setGate i { y.gate i with state := .waitGrant, stateTimer := none })) :=
    ((Yard.join_drifts i _).keeps hφ).after (hφ ..)
  unfold Yard.testLocked
  dsimp only
  split
  · split
    · split
      · exact hjoin
      · exact Yard.setGate_motionFree (hφ ..)
    · exact hjoin
  · exact .refl y

theorem Yard.pendingLocked_motionFree : Yard.Keeps φ y (Yard.pendingLocked e i y) := by
  unfold Yard.pendingLocked
  dsimp only
  split
  · exact (Yard.testLocked_motionFree hφ).after (hφ ..)
  · exact Yard.setGate_motionFree (hφ ..)

end

end

/-! ## A REPORT by the state that it finds (R23) -/

section
variable (s : State) (i : Fin 16) (r : Report)

/-- The state as the fields of a REPORT are stored in a gate. -/
def State.storing : State := s.setGate i ((s.gate i).storeReport r s.now)

theorem State.storing_gate : (s.storing i r).gate i = (s.gate i).storeReport r s.now := State.gate_setGate ..

theorem State.storing_alone : Yard.Alone i s.yard (s.storing i r).yard := Yard.setGate_alone _

/-- The lag comparison in the modes that make it. -/
def State.lagCompared (s : State) (i : Fin 16) : State := if s.mdc.mode.supervised then s.lagCheck i else s

/-- The yard after a REPORT in MOVING: the move ended, where the position lies within the band of a wicket gate's move setpoint. -/
def State.movedYard : Yard :=
  if endsWicketMove (s.cfg i) ((s.gate i).storeReport r s.now) = true then Yard.endMove s.yardEnv i (s.storing i r).yard
  else (s.storing i r).yard

variable {s i r}

theorem State.takeReport_faulted (hs : (s.gate i).state = .faulted) : s.takeReport i r = s.storing i r := by
  unfold State.takeReport
  exact if_pos hs

section
variable (hr : r.fault = false)
include hr

theorem State.takeReport_unseen (hs : (s.gate i).state = .unseen) :
    s.takeReport i r = { s.storing i r with yard := Yard.firstSeen s.yardEnv i r (s.storing i r).yard } := by
  have hseen := State.onYard_of_not_locked (s := s.storing i r) (i := i) (f := fun e y => Yard.firstSeen e i r y)
    (by rw [State.storing_gate]; exact fun h => nomatch hs.symm.trans h)
  unfold State.takeReport
  dsimp only
  rw [hs, hr]
  exact hseen

theorem State.takeReport_moving (hs : (s.gate i).state = .moving) :
    s.takeReport i r = State.lagCompared { s with yard := s.movedYard i r } i := by
  have hended := State.onYard_of_not_locked (s := s.storing i r) (i := i) (f := fun e y => Yard.endMove e i y)
    (by rw [State.storing_gate]; exact fun h => nomatch hs.symm.trans h)
  have hmoved : (if endsWicketMove (s.cfg i) ((s.storing i r).gate i) = true then (s.storing i r).onYard i (fun e y => Yard.endMove e i y)
      else s.storing i r) = { s with yard := s.movedYard i r } := by
    rw [hended, State.storing_gate]
    unfold State.movedYard
    split <;> rfl
  unfold State.takeReport
  dsimp only
  rw [hs, hr]
  exact congrArg (fun u : State => if s.mdc.mode.supervised = true then u.lagCheck i else u) hmoved

theorem State.takeReport_locked (hs : (s.gate i).state = .locked) (hm : s.mdc.mode.supervised = true) :
    s.takeReport i r = State.runawayCheck ((s.storing i r).lagCheck i) i := by
  unfold State.takeReport
  dsimp only
  rw [hs, hr, hm]
  rfl

theorem State.takeReport_reseats (hs : (s.gate i).state = .locked) (hm : s.mdc.mode.supervised = false) :
    s.takeReport i r = if r.released = true then s.storing i r
      else s.setGate i (((s.gate i).storeReport r s.now).reseat (s.cfg i) (min r.position 1000)) := by
  have hreseat : (s.storing i r).setGate i (((s.storing i r).gate i).reseat (s.cfg i) (min r.position 1000)) =
      s.setGate i (((s.gate i).storeReport r s.now).reseat (s.cfg i) (min r.position 1000)) := by
    rw [State.storing_gate]
    exact congrArg (fun y => { s with yard := y }) (Yard.setGate_setGate s.yard i _ _)
  rw [← hreseat]
  unfold State.takeReport
  dsimp only
  rw [hs, hr, hm]
  rfl

/-- The states of a gate that a REPORT supervises without any further use. -/
def GateState.onlySupervised (st : GateState) : Bool :=
  match st with
  | .recovering | .waitGrant | .unlocking | .free | .reversing | .locking => true
  | .unseen | .locked | .moving | .faulted => false

theorem State.takeReport_supervised (hs : (s.gate i).state.onlySupervised = true) : s.takeReport i r = (s.storing i r).lagCompared i := by
  unfold State.takeReport
  dsimp only
  rw [hr]
  generalize (s.gate i).state = st at hs ⊢
  cases st with
  | unseen | locked | moving | faulted => exact nomatch hs
  | recovering | waitGrant | unlocking | free | reversing | locking => rfl

end

end

/-! ## The lag comparison (R26) -/

section
variable (s : State) (i : Fin 16)

/-- From `s` to `t` at most the lag fields of gate `i` and its lag record have changed. -/
structure State.LagOnly (t : State) : Prop where
  frame : ∃ start reported desk, t = { s with
    yard := s.yard.setGate i { s.gate i with lagStart := start, lagReported := reported }, desk := desk }
  record : ∀ c, c ≠ .gateLag i → t.desk.record c = s.desk.record c

theorem State.lagCompared_only : s.LagOnly i (s.lagCompared i) := by
  have hsame : s.LagOnly i s := ⟨⟨(s.gate i).lagStart, (s.gate i).lagReported, s.desk, (s.setGate_self i).symm⟩, fun _ _ => rfl⟩
  unfold State.lagCompared State.lagCheck
  dsimp only
  split
  · split
    · split
      · split
        · exact ⟨⟨_, _, s.desk, rfl⟩, fun _ _ => rfl⟩
        · exact hsame
      · exact ⟨⟨_, _, _, rfl⟩, fun c hc => Desk.clear_record_ne _ hc⟩
    · exact hsame
  · exact hsame

variable {s i} {p q : Nat}

theorem State.lagCompared_eq (hm : s.mdc.mode.supervised = true) : s.lagCompared i = s.lagCheck i := if_pos hm

theorem State.lagCheck_eq (hp : (s.gate i).position = some p) (hq : (s.gate i).commanded = some q) : s.lagCheck i =
    if (s.cfg i).lagTolerance < gap p q then
      match (s.gate i).lagStart with
      | none => s.setGate i { s.gate i with lagStart := some s.now, lagReported := false }
      | some _ => s
    else State.clear (s.setGate i { s.gate i with lagStart := none, lagReported := false }) (.gateLag i) := by
  simp only [State.lagCheck, hp, hq] <;> rfl

theorem State.lagCheck_beyond (hp : (s.gate i).position = some p) (hq : (s.gate i).commanded = some q) (hb : (s.cfg i).lagTolerance < gap p q) :
    s.lagCheck i = s.setGate i { s.gate i with
      lagStart := some ((s.gate i).lagStart.getD s.now), lagReported := (s.gate i).lagStart.isSome && (s.gate i).lagReported } := by
  rw [State.lagCheck_eq hp hq, if_pos hb]
  cases hl : (s.gate i).lagStart with
  | none => rfl
  | some l =>
    have hsame : { s.gate i with lagStart := some l, lagReported := (s.gate i).lagReported } = s.gate i := by rw [← hl]
    exact (s.setGate_self i).symm.trans (congrArg (s.setGate i) hsame.symm)

theorem State.lagCheck_within (hp : (s.gate i).position = some p) (hq : (s.gate i).commanded = some q) (hw : gap p q ≤ (s.cfg i).lagTolerance) :
    s.lagCheck i = State.clear (s.setGate i { s.gate i with lagStart := none, lagReported := false }) (.gateLag i) := by
  rw [State.lagCheck_eq hp hq, if_neg (Nat.not_lt.2 hw)]

end

end Sys2Proof.Machine
end

section
/-! PROOFS. The first REPORT of a gate, and REPORTs in STARTING and CONFIG (O11). -/

namespace Sys2Proof.Machine

/-! ## The first lock of a gate (R5, R7, R9, R10) -/

section
variable {e : YardEnv} {i : Fin 16} {y : Yard} {p : Nat}

/-- Outside GOVERN and FALLBACK no gate joins its queue. -/
theorem Yard.testLocked_idle (h : e.mode.governing = false) : Yard.testLocked e i y = y := by
  unfold Yard.testLocked
  exact if_neg fun ⟨_, _, hm⟩ => Bool.false_ne_true (h.symm.trans hm)

theorem Yard.testLocked_unlocked_never (hs : (y.gate i).state = .locked) (hp : (y.gate i).pending = true) (hm : e.mode.governing = true)
    (hu : (y.gate i).lastUnlock = none) :
    Yard.testLocked e i y = Yard.join e i (y.setGate i { y.gate i with state := .waitGrant, stateTimer := none }) := by
  unfold Yard.testLocked
  dsimp only
  rw [if_pos ⟨hs, hp, hm⟩]
  split
  next v hv => exact absurd (hv.symm.trans hu) nofun
  next => rfl

theorem Yard.testLocked_pending : ((Yard.testLocked e i y).gate i).pending = (y.gate i).pending := by
  have hjoin : ((Yard.join e i (y.setGate i { y.gate i with state := .waitGrant, stateTimer := none })).gate i).pending = (y.gate i).pending := by
    rw [((Yard.join_drifts i _).gate i).pending, Yard.gate_setGate]
  unfold Yard.testLocked
  dsimp only
  split
  · split
    · split
      · exact hjoin
      · rw [Yard.gate_setGate]
    · exact hjoin
  · rfl

theorem Yard.pendingLocked_pending : ((Yard.pendingLocked e i y).gate i).pending =
    pendingTest (e.cfg i) (y.gate i).target (y.gate i).positionAtLock := by
  cases h : pendingTest (e.cfg i) (y.gate i).target (y.gate i).positionAtLock with
  | true => rw [Yard.pendingLocked_beyond h, Yard.testLocked_pending, Yard.gate_setGate]
  | false => rw [Yard.pendingLocked_within h, Yard.gate_setGate]

theorem Yard.pendingLocked_alone (hm : e.mode.governing = false) : Yard.Alone i y (Yard.pendingLocked e i y) ∧
    ((Yard.pendingLocked e i y).gate i).state = (y.gate i).state := by
  cases h : pendingTest (e.cfg i) (y.gate i).target (y.gate i).positionAtLock with
  | true =>
    rw [Yard.pendingLocked_beyond h, Yard.testLocked_idle hm, Yard.gate_setGate]
    exact ⟨Yard.setGate_alone _, rfl⟩
  | false =>
    rw [Yard.pendingLocked_within h, Yard.gate_setGate]
    exact ⟨Yard.setGate_alone _, rfl⟩

/-- What the first lock of a gate at a position leaves, in every mode. -/
structure Gate.FirstLocked (c : GateCfg) (p : Nat) (g g' : Gate) : Prop where
  positionAtLock : g'.positionAtLock = some p
  commanded : g'.commanded = some (c.clamp p)
  target : g'.target = some (c.clamp p)
  lockAfter : g'.lockAfter = true
  priority : g'.priority = .normal
  pending : g'.pending = decide (c.band < gap (c.clamp p) p)
  standing : g'.standing = (g.firstLocked c p).standing
  lagStart : g'.lagStart = g.lagStart

/-- The fields of a gate record that its first lock sets once. -/
def Gate.seat (g : Gate) : Option Nat × Option Nat × Option Nat × Bool × Priority × Standing × Option Tick :=
  (g.positionAtLock, g.commanded, g.target, g.lockAfter, g.priority, g.standing, g.lagStart)

theorem Yard.firstLock_record (hp : (y.gate i).position = some p) :
    Gate.FirstLocked (e.cfg i) p (y.gate i) ((Yard.firstLock e i y).gate i) := by
  rw [Yard.firstLock_eq hp]
  generalize hz : y.setGate i ((y.gate i).firstLocked (e.cfg i) p) = z
  have hgate : z.gate i = (y.gate i).firstLocked (e.cfg i) p := by rw [← hz, Yard.gate_setGate]
  have hseat := Yard.pendingLocked_motionFree (φ := Gate.seat) (fun _ _ _ _ _ _ _ _ _ _ _ _ => rfl) (e := e) (i := i) (y := z) i
  have hpending := Yard.pendingLocked_pending (e := e) (i := i) (y := z)
  generalize (Yard.pendingLocked e i z).gate i = g at hseat hpending
  rw [hgate, Gate.firstLocked_eq] at hseat hpending
  simp only [Gate.seat, Prod.mk.injEq] at hseat
  obtain ⟨hposition, hcommanded, htarget, hlock, hpriority, hstanding, hlag⟩ := hseat
  exact ⟨hposition, hcommanded, htarget, hlock, hpriority, hpending, hstanding, hlag⟩

theorem Yard.firstLock_locked (hp : (y.gate i).position = some p)
    (h : gap ((e.cfg i).clamp p) p ≤ (e.cfg i).band ∨ e.mode.governing = false) : ((Yard.firstLock e i y).gate i).state = .locked := by
  have hlocked : ((y.gate i).firstLocked (e.cfg i) p).state = .locked := by rw [Gate.firstLocked_eq]
  obtain hw | hm := h
  · rw [Yard.firstLock_within hp hw, Yard.gate_setGate, hlocked]
  · obtain ⟨-, hstate⟩ := Yard.pendingLocked_alone (i := i) (y := y.setGate i ((y.gate i).firstLocked (e.cfg i) p)) hm
    rw [Yard.firstLock_eq hp, hstate, Yard.gate_setGate, hlocked]

/-- A gate first locked beyond its band that was never unlocked joins its queue at once. -/
theorem Yard.firstLock_joins (hp : (y.gate i).position = some p) (hb : (e.cfg i).band < gap ((e.cfg i).clamp p) p)
    (hm : e.mode.governing = true) (hu : (y.gate i).lastUnlock = none) :
    ((Yard.firstLock e i y).gate i).state = .waitGrant ∨ ((Yard.firstLock e i y).gate i).state = .unlocking := by
  rw [Yard.firstLock_eq hp]
  generalize hz : y.setGate i ((y.gate i).firstLocked (e.cfg i) p) = z
  have hgate : z.gate i = (y.gate i).firstLocked (e.cfg i) p := by rw [← hz, Yard.gate_setGate]
  rw [Gate.firstLocked_eq] at hgate
  have hbeyond : pendingTest (e.cfg i) (z.gate i).target (z.gate i).positionAtLock = true := by
    rw [hgate]
    exact pendingTest_beyond hb
  rw [Yard.pendingLocked_beyond hbeyond, Yard.testLocked_unlocked_never (by rw [Yard.gate_setGate, hgate]) (by rw [Yard.gate_setGate]) hm
    (by rw [Yard.gate_setGate, hgate]; exact hu)]
  exact Yard.join_gate (by rw [Yard.gate_setGate])

/-! ## The first REPORT of a gate (R7) -/

/-- The record of a gate first seen with its brake RELEASED. -/
def Gate.recovers (g : Gate) (c : GateCfg) (now : Tick) (p : Nat) : Gate :=
  { g with state := .recovering, commanded := some (c.clamp p), target := some (c.clamp p), stateTimer := some (now + c.tLK) }

variable {r : Report}

theorem Yard.firstSeen_released (hp : (y.gate i).position = some p) (hr : r.released = true) :
    Yard.firstSeen e i r y = Yard.issue e i .lock 0 (y.setGate i ((y.gate i).recovers (e.cfg i) e.now p)) := by
  have hposition : (y.gate i).position.getD 0 = p := by rw [hp]; rfl
  unfold Yard.firstSeen
  rw [if_pos hr]
  dsimp only
  rw [hposition]
  rfl

theorem Yard.firstSeen_engaged (hr : r.released = false) : Yard.firstSeen e i r y = Yard.firstLock e i y := by
  unfold Yard.firstSeen
  exact if_neg (by rw [hr]; exact Bool.false_ne_true)

theorem Yard.firstSeen_alone (hp : (y.gate i).position = some p) (hm : e.mode.governing = false) : Yard.Alone i y (Yard.firstSeen e i r y) := by
  cases hr : r.released with
  | true =>
    rw [Yard.firstSeen_released hp hr]
    exact (Yard.setGate_alone _).trans (Yard.issue_alone ..)
  | false =>
    rw [Yard.firstSeen_engaged hr, Yard.firstLock_eq hp]
    exact (Yard.setGate_alone _).trans (Yard.pendingLocked_alone hm).1

end

/-! ## STARTING and CONFIG -/

theorem Mode.not_governing_of_not_supervised {m : Mode} (h : m.supervised = false) : m.governing = false := by
  cases m <;> first | rfl | exact nomatch h

section
variable {s : State} {i : Fin 16} {r : Report} (hr : r.fault = false) (hm : s.mdc.mode.supervised = false)
include hr hm

theorem State.takeReport_alone : Yard.Alone i s.yard (s.takeReport i r).yard := by
  have hstored := s.storing_alone i r
  have hlag (u : State) (hu : u.mdc.mode.supervised = false) : u.lagCompared i = u := if_neg (by rw [hu]; exact Bool.false_ne_true)
  cases hs : (s.gate i).state with
  | faulted =>
    rw [State.takeReport_faulted hs]
    exact hstored
  | unseen =>
    rw [State.takeReport_unseen hr hs]
    have hposition : ((s.storing i r).yard.gate i).position = some (min r.position 1000) := congrArg Gate.position (s.storing_gate i r)
    exact hstored.trans (Yard.firstSeen_alone (e := s.yardEnv) hposition (Mode.not_governing_of_not_supervised hm))
  | moving =>
    rw [State.takeReport_moving hr hs, hlag { s with yard := s.movedYard i r } hm]
    show Yard.Alone i s.yard (s.movedYard i r)
    unfold State.movedYard
    split
    · exact hstored.trans Yard.endMove_alone
    · exact hstored
  | locked =>
    rw [State.takeReport_reseats hr hs hm]
    split
    · exact hstored
    · exact Yard.setGate_alone _
  | recovering | waitGrant | unlocking | free | reversing | locking =>
    rw [State.takeReport_supervised hr (by rw [hs]; rfl), hlag (s.storing i r) hm]
    exact hstored

end

/-- Settles O11: the first REPORT locks or recovers the gate, and one in LOCKED re-seats it. -/
theorem reportsSeatAGate : Obligations.ReportsSeatAGate := by
  intro s f i hv hk hi hr hm
  dsimp only
  have halone := State.takeReport_alone (i := i) hr hm
  refine ⟨_, exec_reportReceived hv hk hi, halone.others, halone.groups, fun ⟨hs, hb⟩ => ?_, fun ⟨hs, hb⟩ => ?_, fun ⟨hs, hb⟩ => ?_⟩
  all_goals have hgate := s.storing_gate i (readReport f)
  · have hposition : ((s.storing i (readReport f)).yard.gate i).position = some (min (readReport f).position 1000) := congrArg Gate.position hgate
    have hyard : (s.takeReport i (readReport f)).yard = Yard.firstLock s.yardEnv i (s.storing i (readReport f)).yard := by
      rw [State.takeReport_unseen hr hs]
      exact Yard.firstSeen_engaged hb
    have hrecord := Yard.firstLock_record (e := s.yardEnv) hposition
    have hlocked := Yard.firstLock_locked (e := s.yardEnv) hposition (.inr (Mode.not_governing_of_not_supervised hm))
    rw [← hyard] at hrecord hlocked
    exact ⟨hlocked, hrecord.positionAtLock, hrecord.commanded, hrecord.target, hrecord.lockAfter, hrecord.priority, hrecord.pending⟩
  · have hposition : ((s.storing i (readReport f)).yard.gate i).position = some (min (readReport f).position 1000) := congrArg Gate.position hgate
    have hyard : (s.takeReport i (readReport f)).yard = Yard.issue s.yardEnv i .lock 0 ((s.storing i (readReport f)).yard.setGate i
        (((s.storing i (readReport f)).yard.gate i).recovers (s.cfg i) s.now (min (readReport f).position 1000))) := by
      rw [State.takeReport_unseen hr hs]
      exact Yard.firstSeen_released (e := s.yardEnv) hposition hb
    have hrecord := congrArg (Yard.gate · i) hyard
    rw [Yard.issue_gate, Yard.gate_setGate] at hrecord
    refine ⟨(congrArg Gate.state hrecord :), (congrArg Gate.commanded hrecord :), (congrArg Gate.target hrecord :),
      (congrArg Gate.stateTimer hrecord :), ?_⟩
    have hcarries := Yard.issue_carries s.yardEnv i .lock 0 ((s.storing i (readReport f)).yard.setGate i
      (((s.storing i (readReport f)).yard.gate i).recovers (s.cfg i) s.now (min (readReport f).position 1000)))
    exact hyard ▸ hcarries
  · have htaken := State.takeReport_reseats (i := i) hr hs hm
    rw [if_neg (by rw [hb]; exact Bool.false_ne_true)] at htaken
    have hrecord : (s.takeReport i (readReport f)).gate i = _ := (congrArg (State.gate · i) htaken).trans (State.gate_setGate ..)
    exact ⟨(congrArg Gate.state hrecord).trans hs, (congrArg Gate.positionAtLock hrecord :), (congrArg Gate.commanded hrecord :),
      (congrArg Gate.target hrecord :), (congrArg Gate.pending hrecord :), (congrArg Gate.stateTimer hrecord :)⟩

end Sys2Proof.Machine
end

section
/-! PROOFS. The runaway of a LOCKED gate (O12), and what a REPORT stores (O10). -/

namespace Sys2Proof.Machine

/-! ## What the entry to FROZEN keeps (R132) -/

section
variable {s : State} {i : Fin 16}

theorem State.enterFrozen_yard : s.enterFrozen.yard = s.frozenStill.yard := by
  rw [s.enterFrozen_eq]

theorem State.enterFrozen_desk : s.enterFrozen.desk = s.desk.clear .rampHeld := by
  have hdesk : s.frozenStill.desk = s.desk := (congrArg State.desk s.frozenStill_frame :)
  rw [s.enterFrozen_eq, ← hdesk]

theorem State.enterFrozen_now : s.enterFrozen.now = s.now := by
  have hnow : s.frozenStill.now = s.now := (congrArg State.now s.frozenStill_frame :)
  rw [s.enterFrozen_eq, ← hnow]

theorem Gate.frozen_motionFree {α : Type} {φ : Gate → α} {e : YardEnv} (hφ : Gate.MotionFree φ) (hheld : ∀ c g, φ (Gate.heldStill c g) = φ g)
    (g : Gate) : φ (g.frozen e i) = φ g := by
  unfold Gate.frozen
  dsimp only
  cases g.state with
  | moving => cases (e.cfg i).kind <;> exact (hφ ..).trans (hheld _ g)
  | waitGrant | locked | free | reversing => exact (hφ ..).trans (hheld _ g)
  | unseen | recovering | unlocking | locking | faulted => exact hheld _ g

/-- A part of the gate record that neither motion nor the setpoint nor the order slot touches is kept at the entry to FROZEN. -/
theorem State.enterFrozen_motionFree {α : Type} {φ : Gate → α} (hφ : Gate.MotionFree φ) (hheld : ∀ c g, φ (Gate.heldStill c g) = φ g)
    (hslot : ∀ g : Gate, φ { g with slot := none } = φ g) : Yard.Keeps φ s.yard s.enterFrozen.yard := fun i => by
  obtain ⟨g, hdrift, hgate⟩ := s.frozenStill_drift i
  rw [State.enterFrozen_yard]
  exact ((congrArg φ hgate).trans (hslot g)).trans ((hdrift.keeps hφ).trans (Gate.frozen_motionFree hφ hheld _))

end

/-! ## The runaway comparison (R27, R132) -/

section
variable {s : State} {i : Fin 16} {p l : Nat}

theorem State.runawayCheck_eq (hp : (s.gate i).position = some p) (hl : (s.gate i).positionAtLock = some l) : s.runawayCheck i =
    if (s.cfg i).runawayTolerance < gap p l then
      if s.mdc.mode.governing then (s.raise (.gateRunaway i)).enterFrozen else s.raise (.gateRunaway i)
    else s.clear (.gateRunaway i) := by
  simp only [State.runawayCheck, hp, hl]

theorem State.storing_lagOnly (r : Report) : (s.storing i r).LagOnly i ((s.storing i r).lagCompared i) := (s.storing i r).lagCompared_only i

theorem State.LagOnly.gate {t : State} (h : s.LagOnly i t) :
    ∃ start reported, t.gate i = { s.gate i with lagStart := start, lagReported := reported } := by
  obtain ⟨start, reported, desk, rfl⟩ := h.frame
  exact ⟨start, reported, State.gate_setGate ..⟩

theorem State.LagOnly.keeps {t : State} (h : s.LagOnly i t) : t.mdc = s.mdc ∧ t.now = s.now ∧ t.cfg = s.cfg ∧ t.yard.portF = s.yard.portF := by
  obtain ⟨start, reported, desk, rfl⟩ := h.frame
  exact ⟨rfl, rfl, rfl, rfl⟩

end

theorem Mode.supervised_of_governing {m : Mode} (h : m.governing = true) : m.supervised = true := by
  cases m <;> first | rfl | exact nomatch h

/-- Settles O12: the comparison raises GATE_RUNAWAY, and the station enters FROZEN. -/
theorem runawayFreezesTheStation : Obligations.RunawayFreezesTheStation := by
  intro s f i l hv hk hi hr hm hs hl hb
  have hsupervised := Mode.supervised_of_governing hm
  have honly := State.storing_lagOnly (s := s) (i := i) (readReport f)
  rw [State.lagCompared_eq (s := s.storing i (readReport f)) hsupervised] at honly
  have htaken := State.takeReport_locked (i := i) hr hs hsupervised
  generalize (s.storing i (readReport f)).lagCheck i = u at honly htaken
  obtain ⟨start, reported, hgate⟩ := honly.gate
  rw [State.storing_gate] at hgate
  obtain ⟨hmdc, -, hcfg, -⟩ := honly.keeps
  have hbeyond : (u.cfg i).runawayTolerance < gap (min (readReport f).position 1000) l := by rw [hcfg]; exact hb
  rw [State.runawayCheck_eq (congrArg Gate.position hgate) ((congrArg Gate.positionAtLock hgate).trans hl), if_pos hbeyond,
    if_pos (by rw [hmdc]; exact hm)] at htaken
  refine ⟨_, exec_reportReceived hv hk hi, ?_⟩
  rw [htaken]
  have hraised := u.raised_raise (.gateRunaway i)
  have humdc : (u.raise (.gateRunaway i)).mdc = s.mdc := hmdc
  generalize u.raise (.gateRunaway i) = w at hraised humdc
  have hentered := w.enterFrozen_mdc
  obtain ⟨-, hround, hrefresh, hslots⟩ := w.enterFrozen_quiet_round
  have hrecord : (w.enterFrozen.forwardFrom .F f).desk.record (.gateRunaway i) = w.desk.record (.gateRunaway i) := by
    have hforward : (w.enterFrozen.forwardFrom .F f).desk = w.enterFrozen.desk.forward f := rfl
    rw [hforward, Desk.forward_record, State.enterFrozen_desk]
    exact Desk.clear_record_ne _ nofun
  rw [humdc] at hentered
  exact ⟨State.raised_of_record hrecord hraised, hentered, hround, hrefresh, fun j => Option.not_isSome_iff_eq_none.1 (hslots j)⟩

/-! ## What a REPORT stores (R23) -/

/-- The reported fields of a gate record. -/
def Gate.reported (g : Gate) : Option Nat × Option Brake × Option Bool × Option Bool × Option Tick :=
  (g.position, g.brake, g.running, g.fault, g.lastReport)

theorem Gate.reported_motionFree : Gate.MotionFree Gate.reported := fun _ _ _ _ _ _ _ _ _ _ _ _ => rfl

/-- The fields of a REPORT as they are stored. -/
def Report.stored (r : Report) (now : Tick) : Option Nat × Option Brake × Option Bool × Option Bool × Option Tick :=
  (some (min r.position 1000), some (if r.released then .released else .engaged), some r.running, some r.fault, some now)

/-- From `s` to `t` no reported field and no tick changes. -/
def State.KeepsReports (s t : State) : Prop := Yard.Keeps Gate.reported s.yard t.yard ∧ t.now = s.now

section
variable {s : State} {i : Fin 16} {r : Report}

theorem State.KeepsReports.trans {a b c : State} (hab : a.KeepsReports b) (hbc : b.KeepsReports c) : a.KeepsReports c :=
  ⟨hab.1.trans hbc.1, hbc.2.trans hab.2⟩

theorem State.lagCompared_keepsReports : s.KeepsReports (s.lagCompared i) := by
  obtain ⟨start, reported, desk, h⟩ := (s.lagCompared_only i).frame
  rw [h]
  exact ⟨Yard.setGate_motionFree rfl, rfl⟩

theorem State.runawayCheck_keepsReports : s.KeepsReports (s.runawayCheck i) := by
  have hfrozen (u : State) (hy : u.yard = s.yard) (hn : u.now = s.now) : s.KeepsReports u.enterFrozen := by
    refine ⟨?_, State.enterFrozen_now.trans hn⟩
    rw [← hy]
    refine State.enterFrozen_motionFree Gate.reported_motionFree (fun c g => ?_) (fun _ => rfl)
    unfold Gate.heldStill
    split <;> rfl
  unfold State.runawayCheck
  dsimp only
  split
  · split
    · split
      · exact hfrozen _ rfl rfl
      · exact ⟨.refl _, rfl⟩
    · exact ⟨.refl _, rfl⟩
  · exact ⟨.refl _, rfl⟩

theorem State.faultGate_keepsReports {lock : Bool} {c : Cond} : s.KeepsReports (s.faultGate i lock c) := by
  refine ⟨fun j => ?_, (congrArg State.now (s.faultGate_frame i lock c) :)⟩
  by_cases hj : j = i
  · rw [hj]
    have hfault := congrArg Gate.reported (s.faultGate_gate i lock c)
    exact hfault
  · rw [State.faultGate_yard]
    exact ((Yard.enterFaulted_acts (e := s.yardEnv) lock s.yard).others j hj).keeps Gate.reported_motionFree

theorem Yard.firstLock_reported {e : YardEnv} {y : Yard} {p : Nat} (hp : (y.gate i).position = some p) :
    Yard.Keeps Gate.reported y (Yard.firstLock e i y) := by
  rw [Yard.firstLock_eq hp]
  refine (Yard.pendingLocked_motionFree Gate.reported_motionFree).after ?_
  rw [Gate.firstLocked_eq]
  rfl

/-- After its fields are stored, no use of a REPORT changes a reported field. -/
theorem State.takeReport_keepsReports : (s.storing i r).KeepsReports (s.takeReport i r) := by
  have hsame : (s.storing i r).KeepsReports (s.storing i r) := ⟨.refl _, rfl⟩
  have hposition : ((s.storing i r).yard.gate i).position = some (min r.position 1000) := congrArg Gate.position (s.storing_gate i r)
  by_cases hf : (s.gate i).state = .faulted
  · rw [State.takeReport_faulted hf]
    exact hsame
  cases hr : r.fault with
  | true =>
    rw [State.takeReport_fault hr hf]
    exact State.faultGate_keepsReports (s := s.storing i r)
  | false =>
    cases hs : (s.gate i).state with
    | faulted => exact absurd hs hf
    | unseen =>
      rw [State.takeReport_unseen hr hs]
      refine ⟨?_, rfl⟩
      cases hb : r.released with
      | true =>
        rw [Yard.firstSeen_released (e := s.yardEnv) hposition hb]
        exact (Yard.issue_motionFree _ _).after rfl
      | false =>
        rw [Yard.firstSeen_engaged hb]
        exact Yard.firstLock_reported hposition
    | moving =>
      rw [State.takeReport_moving hr hs]
      have hmoved : (s.storing i r).KeepsReports { s with yard := s.movedYard i r } := by
        refine ⟨?_, rfl⟩
        show Yard.Keeps Gate.reported (s.storing i r).yard (s.movedYard i r)
        unfold State.movedYard
        split
        · exact Yard.endMove_motionFree Gate.reported_motionFree
        · exact .refl _
      exact hmoved.trans State.lagCompared_keepsReports
    | locked =>
      cases hm : s.mdc.mode.supervised with
      | true =>
        rw [State.takeReport_locked hr hs hm, ← State.lagCompared_eq (s := s.storing i r) hm]
        exact State.lagCompared_keepsReports.trans State.runawayCheck_keepsReports
      | false =>
        rw [State.takeReport_reseats hr hs hm]
        split
        · exact hsame
        · refine ⟨fun j => ?_, rfl⟩
          by_cases hj : j = i
          · rw [hj]
            exact (congrArg Gate.reported (State.gate_setGate ..)).trans (congrArg Gate.reported (s.storing_gate i r)).symm
          · exact (congrArg Gate.reported (Yard.gate_setGate_ne _ _ hj)).trans (congrArg Gate.reported (Yard.gate_setGate_ne _ _ hj)).symm
    | recovering | waitGrant | unlocking | free | reversing | locking =>
      rw [State.takeReport_supervised hr (by rw [hs]; rfl)]
      exact State.lagCompared_keepsReports

theorem State.takeReport_stores : (s.takeReport i r).now = s.now ∧ ((s.takeReport i r).gate i).reported = r.stored s.now ∧
    ∀ j, j ≠ i → ((s.takeReport i r).gate j).reported = (s.gate j).reported := by
  obtain ⟨hkept, hnow⟩ := State.takeReport_keepsReports (s := s) (i := i) (r := r)
  exact ⟨hnow, (hkept i).trans (congrArg Gate.reported (s.storing_gate i r)),
    fun j hj => (hkept j).trans (congrArg Gate.reported (Yard.gate_setGate_ne _ _ hj))⟩

/-- Every gate of a list that takes a REPORT holds its fields, and so does a gate that held them before. -/
theorem State.foldl_takeReport (l : List (Fin 16)) (s : State) :
    (l.foldl (fun s i => s.takeReport i r) s).now = s.now ∧
    ∀ i, i ∈ l ∨ (s.gate i).reported = r.stored s.now →
      ((l.foldl (fun s i => s.takeReport i r) s).gate i).reported = r.stored s.now := by
  induction l generalizing s with
  | nil => exact ⟨rfl, fun i h => h.resolve_left nofun⟩
  | cons j l ih =>
    obtain ⟨hnow, hj, hothers⟩ := State.takeReport_stores (s := s) (i := j) (r := r)
    obtain ⟨hlast, hstored⟩ := ih (s.takeReport j r)
    rw [hnow] at hlast hstored
    refine ⟨hlast, fun i hi => hstored i ?_⟩
    by_cases hij : i = j
    · exact .inr (hij ▸ hj)
    · exact hi.imp (fun h => (List.mem_cons.1 h).resolve_left hij) (hothers i hij).trans

end

end Sys2Proof.Machine
end

section
/-! PROOFS. How a REPORT is used by the gate's state and supervisions (O10). -/

namespace Sys2Proof.Machine

section
variable {s : State} {i : Fin 16} {r : Report} {p q m l : Nat}

/-! ## The end of a wicket gate's move (R17) -/

theorem endsWicketMove_eq {c : GateCfg} {g : Gate} (hk : c.kind = .wicket) (hp : g.position = some p) (hm : g.moveSetpoint = some m) :
    endsWicketMove c g = decide (gap p m ≤ c.band) := by
  unfold endsWicketMove
  rw [hk, hp, hm]

theorem Yard.endMove_wicket_within {e : YardEnv} {y : Yard} (hk : (e.cfg i).kind = .wicket) (hq : (y.gate i).target = some q)
    (hp : (y.gate i).position = some p) (hw : gap q p ≤ (e.cfg i).band) :
    let g := (Yard.endMove e i y).gate i
    (g.lastMoveEnd = some e.now ∧ g.pending = false ∧ g.state = .free ∧ g.moveSetpoint = none ∧ g.moveWatch = none) ∧
    (Yard.endMove e i y).portF = y.portF := by
  have hended : (y.setGate i ((y.gate i).moveEnded e.now)).gate i = (y.gate i).moveEnded e.now := Yard.gate_setGate ..
  have hrest : Yard.endMove e i y = Yard.rest e i (y.setGate i ((y.gate i).moveEnded e.now)) := by
    rw [Yard.endMove_tested y (.inr (by rw [hk]; exact nofun))]
    refine Yard.enterFree_within (y := y.setGate i ((y.gate i).moveEnded e.now)) ?_
    rw [hended]
    exact (congrArg₂ (pendingTest (e.cfg i)) hq hp).trans (pendingTest_within hw)
  have hrecord := Yard.rest_record (e := e) (i := i) (y := y.setGate i ((y.gate i).moveEnded e.now))
  rw [hended] at hrecord
  dsimp only
  rw [hrest, Yard.rest_portF]
  refine ⟨?_, rfl⟩
  obtain hrecord | ⟨t, hrecord⟩ := hrecord <;> rw [hrecord] <;> exact ⟨rfl, rfl, rfl, rfl, rfl⟩

theorem Yard.endMove_wicket_beyond {e : YardEnv} {y : Yard} (hk : (e.cfg i).kind = .wicket) (hq : (y.gate i).target = some q)
    (hp : (y.gate i).position = some p) (hb : (e.cfg i).band < gap q p) :
    Yard.endMove e i y = Yard.issue e i .move q (y.setGate i (((y.gate i).moveEnded e.now).movesWicket (e.cfg i) e.now q)) := by
  have hended : (y.setGate i ((y.gate i).moveEnded e.now)).gate i = (y.gate i).moveEnded e.now := Yard.gate_setGate ..
  have hmove := Yard.enterFree_wicket (e := e) (y := y.setGate i ((y.gate i).moveEnded e.now)) hk
    ((congrArg Gate.target hended).trans hq) ((congrArg Gate.position hended).trans hp) hb
  rw [Yard.setGate_setGate, hended] at hmove
  rw [Yard.endMove_tested y (.inr (by rw [hk]; exact nofun))]
  exact hmove

theorem State.movedYard_eq (hk : (s.cfg i).kind = .wicket) (hm : (s.gate i).moveSetpoint = some m) : s.movedYard i r =
    if gap (min r.position 1000) m ≤ (s.cfg i).band then Yard.endMove s.yardEnv i (s.storing i r).yard else (s.storing i r).yard := by
  unfold State.movedYard
  rw [endsWicketMove_eq (g := (s.gate i).storeReport r s.now) hk rfl hm]
  simp only [decide_eq_true_eq]

/-- The state of a REPORT in MOVING before the lag comparison. -/
def State.moved (s : State) (i : Fin 16) (r : Report) : State := { s with yard := s.movedYard i r }

theorem State.takeReport_moved (hr : r.fault = false) (hs : (s.gate i).state = .moving) : (s.moved i r).LagOnly i (s.takeReport i r) := by
  rw [State.takeReport_moving hr hs]
  exact State.lagCompared_only _ i

/-- Outside the band of the move setpoint the move goes on. -/
theorem State.takeReport_goesOn (hr : r.fault = false) (hs : (s.gate i).state = .moving) (hk : (s.cfg i).kind = .wicket)
    (hm : (s.gate i).moveSetpoint = some m) (hb : (s.cfg i).band < gap (min r.position 1000) m) :
    let t := s.takeReport i r
    (t.gate i).state = .moving ∧ (t.gate i).moveSetpoint = some m ∧ (t.gate i).moveWatch = (s.gate i).moveWatch ∧
    (t.gate i).lastMoveEnd = (s.gate i).lastMoveEnd ∧ t.yard.portF = s.yard.portF := by
  have honly := State.takeReport_moved hr hs
  have hyard : (s.moved i r).yard = (s.storing i r).yard := (State.movedYard_eq hk hm).trans (if_neg (Nat.not_le.2 hb))
  obtain ⟨start, reported, hgate⟩ := honly.gate
  obtain ⟨-, -, -, hport⟩ := honly.keeps
  have hmoved : (s.moved i r).gate i = (s.gate i).storeReport r s.now := (congrArg (Yard.gate · i) hyard).trans (s.storing_gate i r)
  rw [hmoved] at hgate
  rw [hyard] at hport
  dsimp only
  rw [hgate, hport]
  exact ⟨hs, hm, rfl, rfl, rfl⟩

/-- Within the band of the move setpoint the move ends, and the pending test decides what follows. -/
theorem State.takeReport_endsMove (hr : r.fault = false) (hs : (s.gate i).state = .moving) (hk : (s.cfg i).kind = .wicket)
    (hm : (s.gate i).moveSetpoint = some m) (hw : gap (min r.position 1000) m ≤ (s.cfg i).band) (hq : (s.gate i).target = some q) :
    let t := s.takeReport i r
    let p := min r.position 1000
    (t.gate i).lastMoveEnd = some s.now ∧ (t.gate i).pending = false ∧
    (gap q p ≤ (s.cfg i).band →
      (t.gate i).state = .free ∧ (t.gate i).moveSetpoint = none ∧ (t.gate i).moveWatch = none ∧ t.yard.portF = s.yard.portF) ∧
    ((s.cfg i).band < gap q p →
      (t.gate i).state = .moving ∧ (t.gate i).moveSetpoint = some q ∧
      (t.gate i).moveWatch = some (s.now + (s.cfg i).moveTimeout) ∧ t.yard.portF.Carries (s.command i .move q)) := by
  have honly := State.takeReport_moved hr hs
  have hyard : (s.moved i r).yard = Yard.endMove s.yardEnv i (s.storing i r).yard := (State.movedYard_eq hk hm).trans (if_pos hw)
  have hmoved : (s.moved i r).gate i = (Yard.endMove s.yardEnv i (s.storing i r).yard).gate i := congrArg (Yard.gate · i) hyard
  obtain ⟨start, reported, hgate⟩ := honly.gate
  obtain ⟨-, -, -, hport⟩ := honly.keeps
  rw [hmoved] at hgate
  rw [hyard] at hport
  have hstored := s.storing_gate i r
  have htarget : ((s.storing i r).yard.gate i).target = some q := (congrArg Gate.target hstored).trans hq
  have hposition : ((s.storing i r).yard.gate i).position = some (min r.position 1000) := congrArg Gate.position hstored
  dsimp only
  rw [hgate, hport]
  obtain hin | hbeyond := Nat.lt_or_ge (s.cfg i).band (gap q (min r.position 1000)) |>.symm
  · obtain ⟨⟨hend, hpending, hstate, hsetpoint, hwatch⟩, hportF⟩ := Yard.endMove_wicket_within (e := s.yardEnv) hk htarget hposition hin
    exact ⟨hend, hpending, fun _ => ⟨hstate, hsetpoint, hwatch, hportF⟩, fun h => absurd h (Nat.not_lt.2 hin)⟩
  · rw [Yard.endMove_wicket_beyond (e := s.yardEnv) hk htarget hposition hbeyond, Yard.issue_gate, Yard.gate_setGate]
    exact ⟨rfl, rfl, fun h => absurd hbeyond (Nat.not_lt.2 h), fun _ => ⟨rfl, rfl, rfl, Yard.issue_carries ..⟩⟩

/-! ## The lag comparison of a REPORT (R26) -/

/-- The lag fields of a gate record. -/
def Gate.lag (g : Gate) : Option Tick × Bool := (g.lagStart, g.lagReported)

/-- What the lag comparison reads of a gate record. -/
def Gate.lagSeat (g : Gate) : Option Nat × Option Nat × Option Tick × Bool := (g.position, g.commanded, g.lagStart, g.lagReported)

/-- The state in which a REPORT's lag comparison is made, in a state but UNSEEN and FAULTED. -/
def State.beforeLag (s : State) (i : Fin 16) (r : Report) : State := if (s.gate i).state = .moving then s.moved i r else s.storing i r

theorem State.beforeLag_spec : ((s.beforeLag i r).gate i).lagSeat = ((s.gate i).storeReport r s.now).lagSeat ∧
    (s.beforeLag i r).now = s.now ∧ (s.beforeLag i r).cfg = s.cfg ∧ (s.beforeLag i r).desk = s.desk := by
  have hstored := s.storing_gate i r
  unfold State.beforeLag
  split
  · have hkept : Yard.Keeps Gate.lagSeat (s.storing i r).yard (s.movedYard i r) := by
      unfold State.movedYard
      split
      · exact Yard.endMove_motionFree fun _ _ _ _ _ _ _ _ _ _ _ _ => rfl
      · exact .refl _
    exact ⟨(hkept i).trans (congrArg Gate.lagSeat hstored), rfl, rfl, rfl⟩
  · exact ⟨congrArg Gate.lagSeat hstored, rfl, rfl, rfl⟩

theorem State.runawayCheck_lag : ((s.runawayCheck i).gate i).lag = (s.gate i).lag ∧
    (s.runawayCheck i).desk.record (.gateLag i) = s.desk.record (.gateLag i) := by
  have hraise := s.raise_record_ne (c := .gateRunaway i) (c' := .gateLag i) nofun nofun
  have hclear := s.clear_record_ne (c := .gateRunaway i) (c' := .gateLag i) nofun
  have hfrozen : ((s.raise (.gateRunaway i)).enterFrozen.gate i).lag = (s.gate i).lag ∧
      (s.raise (.gateRunaway i)).enterFrozen.desk.record (.gateLag i) = s.desk.record (.gateLag i) := by
    refine ⟨State.enterFrozen_motionFree (φ := Gate.lag) (fun _ _ _ _ _ _ _ _ _ _ _ _ => rfl) (fun c g => ?_) (fun _ => rfl) i, ?_⟩
    · unfold Gate.heldStill
      split <;> rfl
    · rw [State.enterFrozen_desk]
      exact (Desk.clear_record_ne (c := .rampHeld) (c' := .gateLag i) _ nofun).trans hraise
  unfold State.runawayCheck
  dsimp only
  split
  · split
    · split
      · exact hfrozen
      · exact ⟨rfl, hraise⟩
    · exact ⟨rfl, hclear⟩
  · exact ⟨rfl, rfl⟩

/-- In every state that supervises, the lag fields and the lag record come from the lag comparison alone. -/
theorem State.takeReport_lag (hr : r.fault = false) (hm : s.mdc.mode.supervised = true) (hu : (s.gate i).state ≠ .unseen)
    (hf : (s.gate i).state ≠ .faulted) :
    ((s.takeReport i r).gate i).lag = (((s.beforeLag i r).lagCheck i).gate i).lag ∧
    (s.takeReport i r).desk.record (.gateLag i) = ((s.beforeLag i r).lagCheck i).desk.record (.gateLag i) := by
  unfold State.beforeLag
  cases hs : (s.gate i).state with
  | unseen => exact absurd hs hu
  | faulted => exact absurd hs hf
  | moving =>
    rw [State.takeReport_moving hr hs, if_pos rfl, State.lagCompared_eq (s := { s with yard := s.movedYard i r }) hm]
    exact ⟨rfl, rfl⟩
  | locked =>
    rw [State.takeReport_locked hr hs hm, if_neg nofun]
    exact State.runawayCheck_lag
  | recovering | waitGrant | unlocking | free | reversing | locking =>
    rw [State.takeReport_supervised hr (by rw [hs]; rfl), if_neg nofun, State.lagCompared_eq (s := s.storing i r) hm]
    exact ⟨rfl, rfl⟩

/-- The lag comparison against a commanded setpoint. -/
theorem State.takeReport_lag_of_commanded (hr : r.fault = false) (hm : s.mdc.mode.supervised = true) (hu : (s.gate i).state ≠ .unseen)
    (hf : (s.gate i).state ≠ .faulted) (hq : (s.gate i).commanded = some q) :
    let t := s.takeReport i r
    ((s.cfg i).lagTolerance < gap (min r.position 1000) q →
      (t.gate i).lagStart = some ((s.gate i).lagStart.getD s.now) ∧
      (t.gate i).lagReported = ((s.gate i).lagStart.isSome && (s.gate i).lagReported) ∧
      t.desk.record (.gateLag i) = s.desk.record (.gateLag i)) ∧
    (gap (min r.position 1000) q ≤ (s.cfg i).lagTolerance → (t.gate i).lagStart = none ∧ t.active (.gateLag i) = false) := by
  obtain ⟨hlag, hrecord⟩ := State.takeReport_lag hr hm hu hf
  obtain ⟨hseat, hnow, hcfg, hdesk⟩ := State.beforeLag_spec (s := s) (i := i) (r := r)
  generalize s.beforeLag i r = v at hlag hrecord hseat hnow hcfg hdesk
  simp only [Gate.lagSeat, Prod.mk.injEq] at hseat
  obtain ⟨hposition, hcommanded, hstart, hreported⟩ := hseat
  have hcommanded := hcommanded.trans hq
  simp only [Gate.lag, Prod.mk.injEq] at hlag
  obtain ⟨hstart', hreported'⟩ := hlag
  refine ⟨fun hb => ?_, fun hw => ?_⟩
  · rw [State.lagCheck_beyond hposition hcommanded (by rw [hcfg]; exact hb)] at hstart' hreported' hrecord
    rw [State.gate_setGate] at hstart' hreported'
    dsimp only at hstart' hreported'
    rw [hstart, hnow] at hstart'
    rw [hstart, hreported] at hreported'
    exact ⟨hstart', hreported', hrecord.trans (congrArg (Desk.record · _) hdesk)⟩
  · rw [State.lagCheck_within hposition hcommanded (by rw [hcfg]; exact hw)] at hstart' hrecord
    have hgate : ((v.setGate i { v.gate i with lagStart := none, lagReported := false }).clear (.gateLag i)).gate i =
      { v.gate i with lagStart := none, lagReported := false } := State.gate_setGate ..
    exact ⟨hstart'.trans (congrArg Gate.lagStart hgate), (State.active_of_record hrecord).trans (State.active_clear _ _)⟩

/-! ## The runaway comparison of a REPORT (R27) -/

/-- In LOCKED the comparison ends GATE_RUNAWAY within the tolerance, and raises it beyond in FROZEN. -/
theorem State.takeReport_runaway (hr : r.fault = false) (hm : s.mdc.mode.supervised = true) (hs : (s.gate i).state = .locked)
    (hl : (s.gate i).positionAtLock = some l) :
    let t := s.takeReport i r
    (gap (min r.position 1000) l ≤ (s.cfg i).runawayTolerance →
      t.active (.gateRunaway i) = false ∧ t.mdc = s.mdc ∧ (t.gate i).state = .locked ∧ (t.gate i).positionAtLock = some l) ∧
    ((s.cfg i).runawayTolerance < gap (min r.position 1000) l → s.mdc.mode = .frozen →
      t.Raised (.gateRunaway i) ∧ t.mdc = s.mdc ∧ (t.gate i).state = .locked ∧ (t.gate i).positionAtLock = some l) := by
  have honly := State.storing_lagOnly (s := s) (i := i) r
  rw [State.lagCompared_eq (s := s.storing i r) hm] at honly
  have htaken := State.takeReport_locked (i := i) hr hs hm
  generalize (s.storing i r).lagCheck i = u at honly htaken
  obtain ⟨start, reported, hgate⟩ := honly.gate
  rw [State.storing_gate] at hgate
  obtain ⟨hmdc, -, hcfg, -⟩ := honly.keeps
  have hmdc : u.mdc = s.mdc := hmdc
  have hcfg : u.cfg i = s.cfg i := congrFun hcfg i
  have hstate : (u.gate i).state = .locked := (congrArg Gate.state hgate).trans hs
  have hat : (u.gate i).positionAtLock = some l := (congrArg Gate.positionAtLock hgate).trans hl
  rw [State.runawayCheck_eq (congrArg Gate.position hgate) hat, hcfg] at htaken
  dsimp only
  rw [htaken]
  refine ⟨fun hw => ?_, fun hb hfrozen => ?_⟩
  · rw [if_neg (Nat.not_lt.2 hw)]
    exact ⟨State.active_clear .., hmdc, hstate, hat⟩
  · rw [if_pos hb, if_neg (by rw [hmdc, hfrozen]; exact nofun)]
    exact ⟨State.raised_raise .., hmdc, hstate, hat⟩

/-! ## The first REPORT of a gate (R7, R97) -/

theorem Gate.firstLocked_standing {c : GateCfg} {g : Gate} (h : g.standing.opening = none ∨ g.standing.origin = .position) :
    (g.firstLocked c p).standing = { opening := some (c.clamp p), lockAfter := true, origin := .position } := by
  unfold Gate.firstLocked Gate.firstLockStanding
  exact congrArg Gate.standing (if_pos (h.imp_left Option.isNone_iff_eq_none.2))

theorem State.takeReport_firstSeen_released (hr : r.fault = false) (hs : (s.gate i).state = .unseen) (hb : r.released = true) :
    (s.takeReport i r).gate i = ((s.gate i).storeReport r s.now).recovers (s.cfg i) s.now (min r.position 1000) ∧
    (s.takeReport i r).yard.portF.Carries (s.command i .lock 0) := by
  have hstored := s.storing_gate i r
  have hposition : ((s.storing i r).yard.gate i).position = some (min r.position 1000) := congrArg Gate.position hstored
  have hyard : (s.takeReport i r).yard = Yard.issue s.yardEnv i .lock 0 ((s.storing i r).yard.setGate i
      (((s.storing i r).yard.gate i).recovers (s.cfg i) s.now (min r.position 1000))) := by
    rw [State.takeReport_unseen hr hs]
    exact Yard.firstSeen_released (e := s.yardEnv) hposition hb
  have hrecord : (s.takeReport i r).gate i = ((s.storing i r).gate i).recovers (s.cfg i) s.now (min r.position 1000) :=
    (congrArg (Yard.gate · i) hyard).trans (Yard.gate_setGate ..)
  have hcarries := Yard.issue_carries s.yardEnv i .lock 0 ((s.storing i r).yard.setGate i
    (((s.storing i r).yard.gate i).recovers (s.cfg i) s.now (min r.position 1000)))
  rw [hstored] at hrecord
  exact ⟨hrecord, hyard ▸ hcarries⟩

theorem State.takeReport_firstSeen_engaged (hr : r.fault = false) (hs : (s.gate i).state = .unseen) (hb : r.released = false) :
    let t := s.takeReport i r
    let p := min r.position 1000
    let c := s.cfg i
    Gate.FirstLocked c p ((s.gate i).storeReport r s.now) (t.gate i) ∧
    (gap (c.clamp p) p ≤ c.band ∨ s.mdc.mode.governing = false → (t.gate i).state = .locked) ∧
    (c.band < gap (c.clamp p) p → s.mdc.mode.governing = true → (s.gate i).lastUnlock = none →
      (t.gate i).state = .waitGrant ∨ (t.gate i).state = .unlocking) := by
  have hstored := s.storing_gate i r
  have hposition : ((s.storing i r).yard.gate i).position = some (min r.position 1000) := congrArg Gate.position hstored
  have hyard : (s.takeReport i r).yard = Yard.firstLock s.yardEnv i (s.storing i r).yard := by
    rw [State.takeReport_unseen hr hs]
    exact Yard.firstSeen_engaged hb
  have hgate : (s.takeReport i r).gate i = (Yard.firstLock s.yardEnv i (s.storing i r).yard).gate i := congrArg (Yard.gate · i) hyard
  have hrecord := Yard.firstLock_record (e := s.yardEnv) hposition
  have hold : (s.storing i r).yard.gate i = (s.gate i).storeReport r s.now := hstored
  rw [hold] at hrecord
  dsimp only
  rw [hgate]
  exact ⟨hrecord, Yard.firstLock_locked (e := s.yardEnv) hposition,
    fun hbeyond hm hu => Yard.firstLock_joins (e := s.yardEnv) hposition hbeyond hm ((congrArg Gate.lastUnlock hold).trans hu)⟩

/-- The first REPORT of an UNSEEN gate in every mode. -/
theorem State.takeReport_firstSeen (hr : r.fault = false) (hs : (s.gate i).state = .unseen) :
    let g := s.gate i
    let c := s.cfg i
    let p := min r.position 1000
    let t := s.takeReport i r
    let q := c.clamp p
    (t.gate i).commanded = some q ∧ (t.gate i).target = some q ∧ (t.gate i).lagStart = g.lagStart ∧
    (r.released = true →
      (t.gate i).state = .recovering ∧ (t.gate i).stateTimer = some (s.now + c.tLK) ∧ t.yard.portF.Carries (s.command i .lock 0)) ∧
    (r.released = false →
      (t.gate i).positionAtLock = some p ∧ (t.gate i).lockAfter = true ∧ (t.gate i).priority = .normal ∧
      (t.gate i).pending = decide (c.band < gap q p) ∧
      (g.standing.opening = none ∨ g.standing.origin = .position →
        (t.gate i).standing = { opening := some q, lockAfter := true, origin := .position }) ∧
      (gap q p ≤ c.band ∨ s.mdc.mode = .frozen → (t.gate i).state = .locked) ∧
      (c.band < gap q p → s.mdc.mode.governing = true → g.lastUnlock = none →
        (t.gate i).state = .waitGrant ∨ (t.gate i).state = .unlocking)) := by
  dsimp only
  cases hb : r.released with
  | true =>
    obtain ⟨hgate, hcarries⟩ := State.takeReport_firstSeen_released hr hs hb
    rw [hgate]
    exact ⟨rfl, rfl, rfl, fun _ => ⟨rfl, rfl, hcarries⟩, nofun⟩
  | false =>
    obtain ⟨hrecord, hlocked, hjoins⟩ := State.takeReport_firstSeen_engaged hr hs hb
    refine ⟨hrecord.commanded, hrecord.target, hrecord.lagStart, nofun, fun _ => ⟨hrecord.positionAtLock, hrecord.lockAfter, hrecord.priority,
      hrecord.pending, fun h => ?_, fun h => hlocked (h.imp_right fun hm => by rw [hm]; rfl), hjoins⟩⟩
    rw [hrecord.standing]
    exact Gate.firstLocked_standing h

end

/-- Settles O10: every gate of the list holds the fields of the REPORT, and a gate alone uses them by its state. -/
theorem reportsAreStored : Obligations.ReportsAreStored := by
  refine ⟨fun s f hv hk => ?_, fun s f i hv hk hi hr => ?_⟩
  · have hexec : exec (.reportReceived f) s = .next ((s.offerReport f.source.toNat (readReport f)).forwardFrom .F f) :=
      congrArg _ (State.receiveF_report hv hk)
    refine ⟨_, hexec, fun i hi => ?_⟩
    obtain ⟨-, hstored⟩ := State.foldl_takeReport (r := readReport f) (s.tables.reportGates f.source.toNat) s
    have hreported := hstored i (.inl hi)
    simp only [Gate.reported, Report.stored, Prod.mk.injEq] at hreported
    exact hreported
  · dsimp only
    refine ⟨_, exec_reportReceived hv hk hi, fun m hs hw hm hb => State.takeReport_goesOn hr hs hw hm hb,
      fun m q hs hw hm hb hq => State.takeReport_endsMove hr hs hw hm hb hq, fun q hm hu hf hq => ?_, fun l hm hs hl => ?_,
      fun hm hs => State.takeReport_firstSeen hr hs⟩
    all_goals
      have hforward (c : Cond) : ((s.takeReport i (readReport f)).forwardFrom .F f).desk.record c =
        (s.takeReport i (readReport f)).desk.record c := Desk.forward_record ..
    · obtain ⟨hbeyond, hwithin⟩ := State.takeReport_lag_of_commanded hr hm hu hf hq
      refine ⟨fun h => ?_, fun h => ?_⟩
      · obtain ⟨hstart, hreported, hrecord⟩ := hbeyond h
        exact ⟨hstart, hreported, (hforward _).trans hrecord⟩
      · obtain ⟨hstart, hactive⟩ := hwithin h
        exact ⟨hstart, (State.active_of_record (hforward _)).trans hactive⟩
    · obtain ⟨hwithin, hbeyond⟩ := State.takeReport_runaway hr hm hs hl
      refine ⟨fun h => ?_, fun h hfrozen => ?_⟩
      · obtain ⟨hactive, hkept⟩ := hwithin h
        exact ⟨(State.active_of_record (hforward _)).trans hactive, hkept⟩
      · obtain ⟨hraised, hkept⟩ := hbeyond h hfrozen
        exact ⟨State.raised_of_record (hforward _) hraised, hkept⟩

end Sys2Proof.Machine
end

section
/-! PROOFS. The start of a round and its targets: stages 1 to 3 (O52). -/

namespace Sys2Proof.Machine

/-! ## The start of a round (R71, R73) -/

/-- Changes of the yard alone, one after another. -/
theorem State.foldl_yard {α : Type} (f : Yard → α → Yard) (l : List α) (s : State) :
    l.foldl (fun s a => { s with yard := f s.yard a }) s = { s with yard := l.foldl f s.yard } := by
  induction l generalizing s with
  | nil => rfl
  | cons a l ih => exact ih { s with yard := f s.yard a }

section
variable (s : State) (i : Fin 16)

theorem State.adoptOrders_gate : s.adoptOrders.gate i = if s.eligible i = true then (s.gate i).adopt else s.gate i := by
  have hfold : s.adoptOrders = { s with yard := s.eligibleGates.foldl (fun y i => y.setGate i (y.gate i).adopt) s.yard } :=
    State.foldl_yard (fun y i => y.setGate i (y.gate i).adopt) s.eligibleGates s
  have hnodup : s.eligibleGates.Nodup := allGates_nodup.filter _
  obtain ⟨hin, hout, -, -⟩ := Yard.foldl_alone (f := fun i y => y.setGate i (y.gate i).adopt) (r := fun _ g => g.adopt)
    (fun i y => Yard.setGate_alone _) (fun i y => Yard.gate_setGate ..) hnodup s.yard
  have hgate : s.adoptOrders.gate i = (s.eligibleGates.foldl (fun y i => y.setGate i (y.gate i).adopt) s.yard).gate i :=
    congrArg (State.gate · i) hfold
  rw [hgate]
  split
  next he => exact hin i (List.mem_filter.2 ⟨mem_allGates i, he⟩)
  next he => exact hout i fun hi => he (List.mem_filter.1 hi).2

theorem State.roundStart_tables : s.roundStart.tables = s.tables.swapped := by
  rw [s.roundStart_frame]
  exact s.restartRound.swapShadows_tables

theorem State.roundStart_cfg : s.roundStart.cfg i = s.cfg i := by
  have htables : s.roundStart.cfg i = s.tables.swapped.gateCfg i := congrArg (Tables.gateCfg · i) s.roundStart_tables
  exact htables

theorem State.roundStart_keeps : s.roundStart.now = s.now ∧ s.roundStart.mdc = s.mdc ∧ s.roundStart.lvu = s.lvu ∧
    s.roundStart.portD = s.portD ∧
    s.roundStart.rgv = { s.rgv with roundTimer := some (s.now + s.tables.stationOr.roundInterval) } := by
  have hframe := s.restartRound.swapShadows_frame
  rw [s.roundStart_frame]
  generalize s.restartRound.swapShadows = u at hframe ⊢
  rw [hframe]
  exact ⟨rfl, rfl, rfl, rfl, rfl⟩

/-- In GOVERN each eligible gate has adopted its visible order. -/
theorem State.roundStart_gate : s.roundStart.gate i =
    if s.mdc.mode = .govern ∧ s.eligible i = true then (s.gate i).adopt else s.gate i := by
  have hyard : s.restartRound.swapShadows.yard = s.yard := State.swapShadows_yard _
  have hmdc : s.restartRound.swapShadows.mdc = s.mdc := State.swapShadows_mdc _
  have hgate : s.restartRound.swapShadows.gate i = s.gate i := congrArg (Yard.gate · i) hyard
  have hswapped : s.restartRound.swapShadows.cfg i = s.tables.swapped.gateCfg i :=
    congrArg (Tables.gateCfg · i) s.restartRound.swapShadows_tables
  have hcfg : s.restartRound.swapShadows.cfg i = s.cfg i := hswapped
  have heligible : s.restartRound.swapShadows.eligible i = s.eligible i := by
    unfold State.eligible
    rw [hcfg, hgate]
  unfold State.roundStart
  dsimp only
  rw [hmdc]
  by_cases hm : s.mdc.mode = .govern
  · rw [if_pos hm, State.adoptOrders_gate, heligible, hgate]
    simp only [hm, true_and]
  · rw [if_neg hm, if_neg (fun h => hm h.1), hgate]

theorem Gate.adopt_keeps (g : Gate) : g.adopt = { g with slot := g.adopt.slot, standing := g.adopt.standing } := by
  unfold Gate.adopt
  split
  · split <;> rfl
  · rfl

theorem State.roundStart_gate_keeps : s.roundStart.gate i =
    { s.gate i with slot := (s.roundStart.gate i).slot, standing := (s.roundStart.gate i).standing } := by
  rw [State.roundStart_gate]
  split
  · exact Gate.adopt_keeps _
  · rfl

theorem State.roundStart_adopts : s.roundStart.gate i =
    (match s.mdc.mode, s.eligible i, (s.gate i).slot with
     | .govern, true, some o =>
       if o.visible then
         { s.gate i with slot := none, standing := { opening := some o.opening, lockAfter := o.lockAfter, origin := .order } }
       else s.gate i
     | _, _, _ => s.gate i) := by
  rw [State.roundStart_gate]
  unfold Gate.adopt
  cases s.mdc.mode <;> cases s.eligible i <;> cases (s.gate i).slot <;> simp

end

/-! ## Targets (R73 to R78) -/

section
variable (s : State) (fill : List (Fin 16 × Nat)) (i : Fin 16)

/-- The opening a gate is asked for before the cap and the floor. -/
def State.askedOpening : Nat :=
  if s.mdc.mode = .govern then (s.gate i).standing.opening.getD (s.setpoint i) else (openingIn fill i).getD (s.setpoint i)

/-- The opening after the low-level block. -/
def State.cappedOpening : Nat :=
  if s.active .headLow = true ∧ (s.cfg i).kind = .wicket then min (s.askedOpening fill i) (s.setpoint i) else s.askedOpening fill i

/-- The lock-after flag before the flood floor. -/
def State.askedLock : Bool :=
  if s.mdc.mode = .govern ∧ (s.gate i).standing.opening.isSome = true then (s.gate i).standing.lockAfter else true

theorem State.asked_eq : (if s.mdc.mode = .govern then s.governTarget i else { opening := (openingIn fill i).getD (s.setpoint i), lockAfter := true }) =
    { opening := s.askedOpening fill i, lockAfter := s.askedLock i } := by
  unfold State.askedOpening State.askedLock State.governTarget
  by_cases hm : s.mdc.mode = .govern
  · cases (s.gate i).standing.opening <;> simp [hm]
  · simp [hm]

theorem State.capped_eq : s.capTarget i { opening := s.askedOpening fill i, lockAfter := s.askedLock i } =
    { opening := s.cappedOpening fill i, lockAfter := s.askedLock i } := by
  unfold State.capTarget State.cappedOpening
  split <;> rfl

theorem State.roundTarget_eq : s.roundTarget fill i =
    if s.lvu.regime = .flood ∧ (s.cfg i).kind = .spill ∧ s.cappedOpening fill i < s.floor then
      { opening := (s.cfg i).clamp s.floor, lockAfter := true }
    else { opening := (s.cfg i).clamp (s.cappedOpening fill i), lockAfter := s.askedLock i } := by
  unfold State.roundTarget
  rw [State.asked_eq]
  unfold State.finishTarget
  rw [State.capped_eq]
  unfold State.raiseTarget
  dsimp only
  split <;> rfl

end

/-! ## The flood floor (R77) -/

theorem floodFloor_append_below {front rest : List FloodRow} {h : Nat} (hrest : ∀ x ∈ rest, h < x.threshold) :
    floodFloor (front ++ rest) h = floodFloor front h := by
  unfold floodFloor
  rw [List.foldl_append]
  generalize List.foldl _ 0 front = acc
  induction rest with
  | nil => rfl
  | cons r rest ih =>
    rw [List.foldl_cons, if_neg (Nat.not_le.2 (hrest r List.mem_cons_self))]
    exact ih fun x hx => hrest x (List.mem_cons_of_mem _ hx)

theorem floodFloor_last {front : List FloodRow} {row : FloodRow} {h : Nat} (hr : row.threshold ≤ h) :
    floodFloor (front ++ [row]) h = row.opening := by
  unfold floodFloor
  rw [List.foldl_append]
  exact if_pos hr

theorem State.floor_eq {s : State} {rows : List FloodRow} {h : Nat} (hrows : s.tables.flood.active = .valid rows)
    (hlevel : s.lvu.headwater = some h ∨ s.lvu.headwater = none ∧ s.lvu.lastHeadwater = some h) : s.floor = floodFloor rows h := by
  unfold State.floor
  rw [hrows]
  obtain hnow | ⟨hnone, hlast⟩ := hlevel
  · rw [hnow]
  · rw [hnone, hlast]

/-! ## Sums of flows (R63, R83) -/

theorem foldl_sum {α : Type} (f : α → Nat × Bool) (l : List α) (acc : Nat × Bool) :
    (l.foldl (fun acc x => (acc.1 + (f x).1, acc.2 && (f x).2)) acc).1 = acc.1 + (l.map (fun x => (f x).1)).sum := by
  induction l generalizing acc with
  | nil => rfl
  | cons x l ih =>
    rw [List.foldl_cons, ih, List.map_cons, List.sum_cons]
    exact Nat.add_assoc ..

theorem State.outflowSum_eq (s : State) (opening : Fin 16 → Option Nat) : (s.outflowSum opening).1 =
    (allGates.map (fun i => (contribution s.tables s.lvu.head i (s.gate i) (opening i)).1)).sum := by
  unfold State.outflowSum
  exact (foldl_sum (fun i => contribution s.tables s.lvu.head i (s.gate i) (opening i)) allGates (0, true)).trans (Nat.zero_add _)

/-! ## The fill walk (R75) -/

theorem openingIn_cons_same (i : Fin 16) (o : Nat) (l : List (Fin 16 × Nat)) : openingIn ((i, o) :: l) i = some o := by
  simp [openingIn]

theorem openingIn_cons_ne {i j : Fin 16} (h : j ≠ i) (o : Nat) (l : List (Fin 16 × Nat)) : openingIn ((i, o) :: l) j = openingIn l j := by
  simp [openingIn, Ne.symm h]

/-- The walk gives each gate the opening for what the gates before it leave of the residual. -/
theorem openingIn_fillWalk {t : Tables} {head : Nat} {before after : List (Fin 16)} {i : Fin 16} (hnodup : (before ++ i :: after).Nodup) (residual : Nat) :
    openingIn (fillWalk t head (before ++ i :: after) residual) i = some (t.openingForFlow i (residual - (before.map (fun j =>
      (t.gateFlow j ((openingIn (fillWalk t head (before ++ i :: after) residual) j).getD 0) head).getD 0)).sum) head) := by
  induction before generalizing residual with
  | nil => exact openingIn_cons_same ..
  | cons j before ih =>
    obtain ⟨hj, hrest⟩ := List.nodup_cons.1 hnodup
    have hwalk : fillWalk t head (j :: before ++ i :: after) residual = (j, t.openingForFlow j residual head) ::
      fillWalk t head (before ++ i :: after) (residual - (t.gateFlow j (t.openingForFlow j residual head) head).getD 0) := rfl
    have hne : ∀ k ∈ before ++ i :: after, k ≠ j := fun k hk heq => hj (heq ▸ hk)
    rw [hwalk, openingIn_cons_ne (hne i (by simp)), ih hrest, List.map_cons, List.sum_cons, openingIn_cons_same, Option.getD_some,
      Nat.sub_sub]
    congr 5
    refine List.map_congr_left fun k hk => ?_
    rw [openingIn_cons_ne (hne k (List.mem_append_left _ hk))]

end Sys2Proof.Machine
end

section
/-! PROOFS. The steps, the trials and the result of a round: stages 4 to 6 (O52). -/

namespace Sys2Proof.Machine

/-! ## A share of a step (R79, R83) -/

/-- A share of at most the whole of a step, cut toward zero, lies between 0 and the step. -/
theorem share_between {f : Nat} (hf : f ≤ 65536) (d : Int) :
    (0 ≤ d → 0 ≤ (d * f).tdiv 65536 ∧ (d * f).tdiv 65536 ≤ d) ∧ (d ≤ 0 → d ≤ (d * f).tdiv 65536 ∧ (d * f).tdiv 65536 ≤ 0) := by
  have hnat (n : Nat) : (((n : Int) * f).tdiv 65536 : Int) = (n * f / 65536 : Nat) := rfl
  have hle (n : Nat) : n * f / 65536 ≤ n := Nat.div_le_of_le_mul (by rw [Nat.mul_comm]; exact Nat.mul_le_mul_right n hf)
  refine ⟨fun h => ?_, fun h => ?_⟩
  · obtain ⟨n, rfl⟩ := Int.eq_ofNat_of_zero_le h
    have := hle n
    rw [hnat]
    omega
  · obtain ⟨n, hn⟩ := Int.eq_ofNat_of_zero_le (Int.neg_nonneg_of_nonpos h)
    obtain rfl : d = -(n : Int) := by omega
    have := hle n
    rw [Int.neg_mul, Int.neg_tdiv, hnat]
    omega

/-! ## The plans of a round (R72, R83) -/

section
variable (s : State) (i : Fin 16)

/-- The step of a gate toward its target, bounded by its slew. -/
def State.roundStep : Int :=
  slewed (s.cfg i).slew (((s.roundTarget s.fallbackFill i).opening : Int) - (s.setpoint i : Int))

/-- The working values of one gate. -/
def State.planOf : Plan where
  gate := i
  setpoint := s.setpoint i
  lockAfter := (s.roundTarget s.fallbackFill i).lockAfter
  step := s.roundStep i

/-- The setpoint that a trial with a fraction in 65,536ths proposes for a gate. -/
def State.proposed (f : Nat) (i : Fin 16) : Nat := ((s.setpoint i : Int) + (s.roundStep i * (f : Int)).tdiv 65536).toNat

/-- The planned sum with every eligible gate at its proposed setpoint. -/
def State.proposedSum (f : Nat) : Nat :=
  (allGates.map (fun j => (contribution s.tables s.lvu.head j (s.gate j)
    (if s.eligible j = true then some (s.proposed f j) else (s.gate j).commanded)).1)).sum

theorem State.plans_eq : s.plans = s.eligibleGates.map s.planOf := rfl

theorem State.proposals_plans (f : Nat) : proposals s.plans f = s.eligibleGates.map (fun i => (i, s.proposed f i)) := by
  rw [State.plans_eq, proposals, List.map_map]
  rfl

theorem State.mem_eligibleGates : i ∈ s.eligibleGates ↔ s.eligible i = true :=
  List.mem_filter.trans (and_iff_right (mem_allGates i))

theorem State.eligibleGates_nodup : s.eligibleGates.Nodup := allGates_nodup.filter _

theorem openingIn_map {l : List (Fin 16)} {v : Fin 16 → Nat} (i : Fin 16) :
    openingIn (l.map (fun j => (j, v j))) i = if i ∈ l then some (v i) else none := by
  induction l with
  | nil => rfl
  | cons j l ih =>
    rw [List.map_cons]
    by_cases h : i = j
    · rw [h, openingIn_cons_same, if_pos List.mem_cons_self]
    · rw [openingIn_cons_ne h, ih]
      simp [h]

theorem State.openingIn_proposals (f : Nat) :
    openingIn (proposals s.plans f) i = if s.eligible i = true then some (s.proposed f i) else none := by
  rw [State.proposals_plans, openingIn_map]
  simp only [State.mem_eligibleGates]

theorem State.trialSum_proposals (f : Nat) : s.trialSum (proposals s.plans f) = s.proposedSum f := by
  unfold State.trialSum State.proposedSum
  rw [State.outflowSum_eq]
  refine congrArg List.sum (List.map_congr_left fun j _ => ?_)
  rw [State.openingIn_proposals]
  cases s.eligible j <;> rfl

/-- A trial moves a gate by at most its slew, toward its target and never beyond it. -/
theorem State.proposed_between {f : Nat} (hf : f ≤ 65536) :
    gap (s.proposed f i) (s.setpoint i) ≤ (s.cfg i).slew ∧
    ((s.setpoint i ≤ s.proposed f i ∧ s.proposed f i ≤ (s.roundTarget s.fallbackFill i).opening) ∨
     ((s.roundTarget s.fallbackFill i).opening ≤ s.proposed f i ∧ s.proposed f i ≤ s.setpoint i)) := by
  obtain ⟨hlow, hhigh, hup, hdown⟩ := slewed_spec (s.cfg i).slew (((s.roundTarget s.fallbackFill i).opening : Int) - (s.setpoint i : Int))
  obtain ⟨hrise, hfall⟩ := share_between hf (s.roundStep i)
  unfold State.proposed
  unfold State.roundStep at hrise hfall ⊢
  unfold gap
  omega

theorem State.proposed_zero : s.proposed 0 i = s.setpoint i := by
  unfold State.proposed
  simp

end

/-! ## The trials (R83 to R85) -/

section
variable (s : State)

/-- Whether a trial's change of the planned sum lies within the limits. -/
def State.fits (q f : Nat) : Bool := withinLimits (s.limits q) ((s.proposedSum f : Int) - (q : Int))

/-- What a round accepts with a trial. -/
def State.accepted (f : Nat) (first : Bool) : Accepted where
  setpoints := proposals s.plans f
  planned := s.proposedSum f
  first := first

/-- What a round accepts where no trial fits. -/
def State.heldAt (q : Nat) : Accepted where
  setpoints := proposals s.plans 0
  planned := q
  first := false

theorem State.laterTrials_eq (q n f : Nat) : s.laterTrials s.plans q (s.limits q) (n + 1) f =
    if s.fits q f = true then s.accepted f false else s.laterTrials s.plans q (s.limits q) n (f / 2) := by
  rw [State.laterTrials]
  rw [State.trialSum_proposals]
  rfl

/-- The fraction of the second trial. -/
def State.secondTrial (q : Nat) : Nat := secondFraction (s.limits q) ((s.proposedSum 65536 : Int) - (q : Int))

theorem State.trials_eq (q : Nat) : s.trials s.plans q =
    if s.fits q 65536 = true then s.accepted 65536 true
    else if s.fits q (s.secondTrial q) = true then s.accepted (s.secondTrial q) false
    else if s.fits q (s.secondTrial q / 2) = true then s.accepted (s.secondTrial q / 2) false
    else if s.fits q (s.secondTrial q / 4) = true then s.accepted (s.secondTrial q / 4) false
    else if s.fits q (s.secondTrial q / 8) = true then s.accepted (s.secondTrial q / 8) false
    else s.heldAt q := by
  have hfourth : s.secondTrial q / 4 = s.secondTrial q / 2 / 2 := by rw [Nat.div_div_eq_div_mul]
  have heighth : s.secondTrial q / 8 = s.secondTrial q / 2 / 2 / 2 := by rw [Nat.div_div_eq_div_mul, Nat.div_div_eq_div_mul]
  have hlater := s.laterTrials_eq q
  rw [hfourth, heighth]
  unfold State.trials
  dsimp only
  rw [State.trialSum_proposals]
  refine if_congr Iff.rfl rfl ?_
  exact (hlater 3 _).trans (if_congr Iff.rfl rfl ((hlater 2 _).trans (if_congr Iff.rfl rfl ((hlater 1 _).trans
    (if_congr Iff.rfl rfl (hlater 0 _))))))

/-- Every round commits the proposals of a fraction of at most the whole, within the limits. -/
theorem State.trials_fraction (q : Nat) : ∃ f, f ≤ 65536 ∧ (s.trials s.plans q).setpoints = proposals s.plans f ∧
    ((s.trials s.plans q).planned = s.proposedSum f ∨ f = 0 ∧ (s.trials s.plans q).planned = q) ∧
    withinLimits (s.limits q) (((s.trials s.plans q).planned : Int) - (q : Int)) = true := by
  by_cases hfirst : s.fits q 65536 = true
  · rw [State.trials_eq, if_pos hfirst]
    exact ⟨65536, le_rfl, rfl, .inl rfl, hfirst⟩
  have hsecond : s.secondTrial q ≤ 65536 := secondFraction_le _ _ (Bool.eq_false_iff.2 hfirst)
  rw [State.trials_eq, if_neg hfirst]
  generalize s.secondTrial q = g at hsecond
  have haccepted (f : Nat) (hf : f ≤ g) (hfits : s.fits q f = true) : ∃ f', f' ≤ 65536 ∧
      (s.accepted f false).setpoints = proposals s.plans f' ∧
      ((s.accepted f false).planned = s.proposedSum f' ∨ f' = 0 ∧ (s.accepted f false).planned = q) ∧
      withinLimits (s.limits q) (((s.accepted f false).planned : Int) - (q : Int)) = true :=
    ⟨f, hf.trans hsecond, rfl, .inl rfl, hfits⟩
  by_cases h1 : s.fits q g = true
  · rw [if_pos h1]
    exact haccepted _ le_rfl h1
  by_cases h2 : s.fits q (g / 2) = true
  · rw [if_neg h1, if_pos h2]
    exact haccepted _ (Nat.div_le_self ..) h2
  by_cases h3 : s.fits q (g / 4) = true
  · rw [if_neg h1, if_neg h2, if_pos h3]
    exact haccepted _ (Nat.div_le_self ..) h3
  by_cases h4 : s.fits q (g / 8) = true
  · rw [if_neg h1, if_neg h2, if_neg h3, if_pos h4]
    exact haccepted _ (Nat.div_le_self ..) h4
  · rw [if_neg h1, if_neg h2, if_neg h3, if_neg h4]
    refine ⟨0, Nat.zero_le _, rfl, .inr ⟨rfl, rfl⟩, ?_⟩
    unfold withinLimits State.heldAt
    simp

/-! ## The result of a round (R88) -/

theorem State.moves_proposals (f : Nat) :
    moves s.plans (proposals s.plans f) = true ↔ ∃ i, s.eligible i = true ∧ s.proposed f i ≠ s.setpoint i := by
  unfold moves
  rw [List.any_eq_true]
  refine ⟨fun ⟨p, hp, hmoves⟩ => ?_, fun ⟨i, he, hmoves⟩ => ⟨s.planOf i, List.mem_map_of_mem ((s.mem_eligibleGates i).2 he), ?_⟩⟩
  · rw [State.plans_eq] at hp
    obtain ⟨i, hi, rfl⟩ := List.mem_map.1 hp
    have he := (s.mem_eligibleGates i).1 hi
    rw [State.openingIn_proposals, if_pos (by exact he)] at hmoves
    exact ⟨i, he, by simpa [State.planOf] using hmoves⟩
  · rw [State.openingIn_proposals, if_pos (by exact he)]
    simpa [State.planOf] using hmoves

theorem State.roundResult_accepted (f : Nat) : roundResult s.plans (s.accepted f false) =
    if ∃ i, s.eligible i = true ∧ s.proposed f i ≠ s.setpoint i then .scaled else .held := by
  unfold roundResult State.accepted
  dsimp only
  rw [if_neg Bool.false_ne_true]
  exact if_congr (s.moves_proposals f) rfl rfl

theorem State.roundResult_held (q : Nat) : roundResult s.plans (s.heldAt q) = .held := by
  unfold roundResult State.heldAt
  dsimp only
  rw [if_neg Bool.false_ne_true, if_neg]
  rw [State.moves_proposals]
  exact fun ⟨i, _, hne⟩ => hne (s.proposed_zero i)

theorem roundResult_ne_none (plans : List Plan) (a : Accepted) : roundResult plans a ≠ .none := by
  unfold roundResult
  split
  · exact nofun
  · split <;> exact nofun

end

end Sys2Proof.Machine
end

section
/-! PROOFS. A new motion target, taken by the state of its gate (O52). -/

namespace Sys2Proof.Machine

/-- The record of a gate that takes a motion target. -/
def Gate.aimed (g : Gate) (q : Nat) (lockAfter : Bool) (p : Priority) : Gate := { g with target := some q, lockAfter := lockAfter, priority := p }

/-- A state of a gate that is neither UNSEEN nor FAULTED. -/
def GateState.ordinary (st : GateState) : Bool :=
  match st with
  | .unseen | .faulted => false
  | .recovering | .locked | .waitGrant | .unlocking | .free | .moving | .reversing | .locking => true

section
variable {e : YardEnv} {i : Fin 16} {y : Yard} {q : Nat} {lockAfter : Bool} {pr : Priority}

/-! ## The hand-over by the state (R4) -/

theorem Yard.takeTarget_eq {st : GateState} (hs : (y.gate i).state = st) : Yard.takeTarget e i q lockAfter pr y =
    let aim := y.setGate i ((y.gate i).aimed q lockAfter pr)
    match (generalizing := false) st with
    | .locked => Yard.pendingLocked e i aim
    | .waitGrant => Yard.pendingWaiting e i aim
    | .free => Yard.testFree e i aim
    | .moving =>
      match (e.cfg i).kind with
      | .wicket => Yard.retargetWicket e i q aim
      | .spill => Yard.retargetSpill e i q aim
    | .reversing => aim.setGate i { (y.gate i).aimed q lockAfter pr with pending := true }
    | .unseen | .recovering | .unlocking | .locking | .faulted => aim := by
  subst hs
  rfl

section
variable {α : Type} {φ : Gate → α} (hφ : Gate.MotionFree φ)
include hφ

theorem Yard.testFree_motionFree : Yard.Keeps φ y (Yard.testFree e i y) := by
  unfold Yard.testFree
  dsimp only
  split
  · exact (Yard.startMove_motionFree hφ).after (hφ ..)
  · exact (Yard.restFree_motionFree hφ).after (hφ ..)

theorem Yard.pendingWaiting_motionFree : Yard.Keeps φ y (Yard.pendingWaiting e i y) := by
  unfold Yard.pendingWaiting
  dsimp only
  split
  · exact Yard.Keeps.after ((Yard.changePriority_drifts i _).keeps hφ) (hφ ..)
  · exact Yard.Keeps.after ((Yard.leaveQueue_drifts i _).keeps hφ) (hφ ..)

theorem Yard.retargetWicket_motionFree : Yard.Keeps φ y (Yard.retargetWicket e i q y) := by
  unfold Yard.retargetWicket
  dsimp only
  split
  · exact .refl y
  · split
    · exact (Yard.issue_motionFree _ _).after (hφ ..)
    · exact Yard.setGate_motionFree (hφ ..)

theorem Yard.retargetSpill_motionFree : Yard.Keeps φ y (Yard.retargetSpill e i q y) := by
  unfold Yard.retargetSpill
  dsimp only
  split
  · exact Yard.setGate_motionFree (hφ ..)
  · rw [Yard.stopRun_eq, Yard.gate_setGate, Yard.setGate_setGate]
    dsimp only
    exact (Yard.issue_motionFree _ _).after (hφ ..)

/-- Once stored, a motion target changes only what motion changes. -/
theorem Yard.takeTarget_motionFree :
    Yard.Keeps φ (y.setGate i ((y.gate i).aimed q lockAfter pr)) (Yard.takeTarget e i q lockAfter pr y) := by
  rw [Yard.takeTarget_eq rfl]
  dsimp only
  split
  · exact Yard.pendingLocked_motionFree hφ
  · exact Yard.pendingWaiting_motionFree hφ
  · exact Yard.testFree_motionFree hφ
  · split
    · exact Yard.retargetWicket_motionFree hφ
    · exact Yard.retargetSpill_motionFree hφ
  · refine Yard.setGate_motionFree ?_
    rw [Yard.gate_setGate]
    exact hφ ..
  all_goals exact .refl _

end

/-! ## LOCKED and WAIT_GRANT (R5, R10, R12) -/

theorem Gate.Drift.waits {g g' : Gate} (h : Gate.Drift e i g g') (hs : g.state = .waitGrant) : g'.state = .waitGrant ∨ g'.state = .unlocking := by
  cases h with
  | same => exact .inl hs
  | granted => exact .inr rfl
  | early hf => exact absurd (hs.symm.trans hf) nofun

theorem Yard.testLocked_waits {u : Tick} (hs : (y.gate i).state = .locked) (hp : (y.gate i).pending = true) (hm : e.mode.governing = true)
    (hu : (y.gate i).lastUnlock = some u) (he : e.now < u + (e.cfg i).tCY) :
    Yard.testLocked e i y = y.setGate i { y.gate i with stateTimer := some (u + (e.cfg i).tCY) } := by
  unfold Yard.testLocked
  dsimp only
  rw [if_pos ⟨hs, hp, hm⟩]
  split
  next v hv =>
    obtain rfl := Option.some.inj (hv.symm.trans hu)
    exact if_neg (Nat.not_le.2 he)
  next hn => exact absurd (hn.symm.trans hu) nofun

/-- A LOCKED gate past its minimum cycle joins its queue. -/
theorem Yard.testLocked_leaves (hs : (y.gate i).state = .locked) (hp : (y.gate i).pending = true) (hm : e.mode.governing = true)
    (hu : ∀ u, (y.gate i).lastUnlock = some u → u + (e.cfg i).tCY ≤ e.now) :
    ((Yard.testLocked e i y).gate i).state = .waitGrant ∨ ((Yard.testLocked e i y).gate i).state = .unlocking := by
  have hjoin : ((Yard.join e i (y.setGate i { y.gate i with state := .waitGrant, stateTimer := none })).gate i).state = .waitGrant ∨
      ((Yard.join e i (y.setGate i { y.gate i with state := .waitGrant, stateTimer := none })).gate i).state = .unlocking :=
    Yard.join_gate (by rw [Yard.gate_setGate])
  cases hlast : (y.gate i).lastUnlock with
  | none => rwa [Yard.testLocked_unlocked_never hs hp hm hlast]
  | some u => rwa [Yard.testLocked_joins hs hp hm hlast (hu u hlast)]

theorem Yard.testLocked_state : ((Yard.testLocked e i y).gate i).state = (y.gate i).state ∨
    ((Yard.testLocked e i y).gate i).state = .waitGrant ∨ ((Yard.testLocked e i y).gate i).state = .unlocking := by
  have hjoin : ((Yard.join e i (y.setGate i { y.gate i with state := .waitGrant, stateTimer := none })).gate i).state = .waitGrant ∨
      ((Yard.join e i (y.setGate i { y.gate i with state := .waitGrant, stateTimer := none })).gate i).state = .unlocking :=
    Yard.join_gate (by rw [Yard.gate_setGate])
  unfold Yard.testLocked
  dsimp only
  split
  · split
    · split
      · exact .inr hjoin
      · exact .inl (by rw [Yard.gate_setGate])
    · exact .inr hjoin
  · exact .inl rfl

theorem Yard.pendingLocked_state : ((Yard.pendingLocked e i y).gate i).state = (y.gate i).state ∨
    ((Yard.pendingLocked e i y).gate i).state = .waitGrant ∨ ((Yard.pendingLocked e i y).gate i).state = .unlocking := by
  unfold Yard.pendingLocked
  dsimp only
  split
  · have h := Yard.testLocked_state (e := e) (i := i) (y := y.setGate i { y.gate i with pending := true })
    rwa [Yard.gate_setGate] at h
  · exact .inl (by rw [Yard.gate_setGate])

theorem Yard.pendingWaiting_within (h : pendingTest (e.cfg i) (y.gate i).target (y.gate i).positionAtLock = false) :
    ((Yard.pendingWaiting e i y).gate i).state = .locked ∧ ((Yard.pendingWaiting e i y).gate i).pending = false := by
  have hleft := (Yard.leaveQueue_drifts (e := e) i (y.setGate i { y.gate i with state := .locked, pending := false, stateTimer := none })).gate i
  rw [Yard.gate_setGate] at hleft
  unfold Yard.pendingWaiting
  dsimp only
  rw [if_neg (by rw [h]; exact Bool.false_ne_true)]
  exact ⟨hleft.state nofun, hleft.pending⟩

theorem Yard.pendingWaiting_beyond (hs : (y.gate i).state = .waitGrant)
    (h : pendingTest (e.cfg i) (y.gate i).target (y.gate i).positionAtLock = true) :
    (((Yard.pendingWaiting e i y).gate i).state = .waitGrant ∨ ((Yard.pendingWaiting e i y).gate i).state = .unlocking) ∧
    ((Yard.pendingWaiting e i y).gate i).pending = true := by
  have hmoved := (Yard.changePriority_drifts (e := e) i (y.setGate i { y.gate i with pending := true })).gate i
  rw [Yard.gate_setGate] at hmoved
  unfold Yard.pendingWaiting
  dsimp only
  rw [if_pos h]
  exact ⟨hmoved.waits hs, hmoved.pending⟩

/-! ## FREE (R5, R17, R19) -/

theorem Yard.testFree_within (hs : (y.gate i).state = .free) (h : pendingTest (e.cfg i) (y.gate i).target (y.gate i).position = false) :
    ((Yard.testFree e i y).gate i).state = .free ∧ ((Yard.testFree e i y).gate i).pending = false := by
  have hrest : Yard.testFree e i y = Yard.restFree e i (y.setGate i { y.gate i with pending := false }) := by
    unfold Yard.testFree
    exact if_neg (by rw [h]; exact Bool.false_ne_true)
  have hidle := (Yard.idleSignal_drifts (e := e) i (Yard.armLock e i (y.setGate i { y.gate i with pending := false }))).gate i
  have harmed : ∃ t, (Yard.armLock e i (y.setGate i { y.gate i with pending := false })).gate i =
      { y.gate i with pending := false, stateTimer := t } := ⟨_, by rw [Yard.armLock]; dsimp only; rw [Yard.gate_setGate, Yard.gate_setGate]⟩
  obtain ⟨t, harmed⟩ := harmed
  rw [harmed] at hidle
  rw [hrest]
  exact ⟨(hidle.state (by dsimp only; rw [hs]; exact nofun)).trans hs, hidle.pending⟩

theorem Yard.testFree_wicket {p : Nat} (hk : (e.cfg i).kind = .wicket) (hq : (y.gate i).target = some q) (hp : (y.gate i).position = some p)
    (hb : (e.cfg i).band < gap q p) :
    Yard.testFree e i y = Yard.issue e i .move q (y.setGate i ((y.gate i).movesWicket (e.cfg i) e.now q)) := by
  have htest : pendingTest (e.cfg i) (y.gate i).target (y.gate i).position = true := by rw [hq, hp]; exact pendingTest_beyond hb
  unfold Yard.testFree
  dsimp only
  rw [if_pos htest, Yard.startMove_wicket hk (q := q) (by rw [Yard.gate_setGate]; exact hq), Yard.setGate_setGate, Yard.gate_setGate]
  rfl

theorem Yard.testFree_spill {p : Nat} (hk : (e.cfg i).kind = .spill) (hq : (y.gate i).target = some q) (hp : (y.gate i).position = some p)
    (hb : (e.cfg i).band < gap q p) :
    Yard.testFree e i y = Yard.issue e i (if p < q then .runRaise else .runLower) 0 (y.setGate i ((y.gate i).movesSpill (e.cfg i) e.now p q)) := by
  have htest : pendingTest (e.cfg i) (y.gate i).target (y.gate i).position = true := by rw [hq, hp]; exact pendingTest_beyond hb
  unfold Yard.testFree
  dsimp only
  rw [if_pos htest, Yard.startMove_spill hk (q := q) (p := p) (by rw [Yard.gate_setGate]; exact hq) (by rw [Yard.gate_setGate]; exact hp),
    Yard.setGate_setGate, Yard.gate_setGate]
  rfl

theorem Yard.startMove_state : ((Yard.startMove e i y).gate i).state = .moving := by
  unfold Yard.startMove
  dsimp only
  split
  · rw [Yard.issue_gate, Yard.gate_setGate]
  · unfold Yard.startRun
    dsimp only
    rw [Yard.issue_gate, Yard.gate_setGate]

theorem Yard.testFree_state (hs : (y.gate i).state = .free) :
    ((Yard.testFree e i y).gate i).state = .free ∨ ((Yard.testFree e i y).gate i).state = .moving := by
  cases h : pendingTest (e.cfg i) (y.gate i).target (y.gate i).position with
  | true =>
    unfold Yard.testFree
    dsimp only
    rw [if_pos h]
    exact .inr Yard.startMove_state
  | false => exact .inl (Yard.testFree_within hs h).1

/-! ## MOVING (R18, R21) -/

theorem Yard.retargetWicket_eq {p m : Nat} (hp : (y.gate i).position = some p) (hm : (y.gate i).moveSetpoint = some m) :
    Yard.retargetWicket e i q y =
      if q = m then y
      else if (p < m ∧ p + (e.cfg i).band < q) ∨ (m < p ∧ q + (e.cfg i).band < p) then
        Yard.issue e i .move q (y.setGate i { y.gate i with moveSetpoint := some q, moveWatch := some (e.now + (e.cfg i).moveTimeout) })
      else y.setGate i { y.gate i with pending := true } := by
  have hposition : (y.gate i).position.getD 0 = p := by rw [hp]; rfl
  have hsetpoint : (y.gate i).moveSetpoint.getD 0 = m := by rw [hm]; rfl
  unfold Yard.retargetWicket sameDirection
  dsimp only
  rw [hposition, hsetpoint]
  refine if_congr Iff.rfl rfl (if_congr ?_ rfl rfl)
  simp only [Bool.or_eq_true, Bool.and_eq_true, decide_eq_true_eq]

theorem Yard.retargetSpill_eq {p : Nat} (hp : (y.gate i).position = some p) :
    Yard.retargetSpill e i q y =
      if ((y.gate i).raising = true ∧ p + (e.cfg i).band < q) ∨ ((y.gate i).raising = false ∧ q + (e.cfg i).band < p) then
        y.setGate i { y.gate i with
          moveSetpoint := some q, trimCount := 0, stateTimer := some (e.now + runLength (e.cfg i) (gap q p))
          moveWatch := some (e.now + (e.cfg i).moveTimeout) }
      else Yard.issue e i .stop 0 (y.setGate i { y.gate i with
        state := .reversing, pending := true, stateTimer := some (e.now + (e.cfg i).reversalDwell) }) := by
  have hposition : (y.gate i).position.getD 0 = p := by rw [hp]; rfl
  unfold Yard.retargetSpill
  dsimp only
  rw [hposition, Yard.stopRun_eq, Yard.gate_setGate, Yard.setGate_setGate]
  refine if_congr ?_ rfl rfl
  simp only [Bool.or_eq_true, Bool.and_eq_true, decide_eq_true_eq, Bool.not_eq_true']

theorem Yard.retargetWicket_state : ((Yard.retargetWicket e i q y).gate i).state = (y.gate i).state := by
  unfold Yard.retargetWicket
  dsimp only
  split
  · rfl
  · split
    · rw [Yard.issue_gate, Yard.gate_setGate]
    · rw [Yard.gate_setGate]

theorem Yard.retargetSpill_state : ((Yard.retargetSpill e i q y).gate i).state = (y.gate i).state ∨
    ((Yard.retargetSpill e i q y).gate i).state = .reversing := by
  unfold Yard.retargetSpill
  dsimp only
  split
  · exact .inl (by rw [Yard.gate_setGate])
  · exact .inr (by rw [Yard.stopRun_eq, Yard.issue_gate, Yard.gate_setGate])

/-- A gate in an ordinary state takes its target into an ordinary state. -/
theorem Yard.takeTarget_ordinary (hs : (y.gate i).state.ordinary = true) :
    ((Yard.takeTarget e i q lockAfter pr y).gate i).state.ordinary = true := by
  have haim : (y.setGate i ((y.gate i).aimed q lockAfter pr)).gate i = (y.gate i).aimed q lockAfter pr := Yard.gate_setGate ..
  have hstate := congrArg Gate.state haim
  have hkept : ((y.setGate i ((y.gate i).aimed q lockAfter pr)).gate i).state = (y.gate i).state := hstate
  rw [Yard.takeTarget_eq rfl]
  dsimp only
  generalize y.setGate i ((y.gate i).aimed q lockAfter pr) = z at hkept
  cases hst : (y.gate i).state with
  | unseen | faulted => rw [hst] at hs; exact nomatch hs
  | recovering | unlocking | locking =>
    dsimp only
    rw [hkept, hst]
    rfl
  | locked =>
    obtain h | h | h := Yard.pendingLocked_state (e := e) (i := i) (y := z) <;> dsimp only <;> rw [h]
    · rw [hkept, hst]
      rfl
    all_goals rfl
  | waitGrant =>
    have hwait := hkept.trans hst
    cases ht : pendingTest (e.cfg i) (z.gate i).target (z.gate i).positionAtLock with
    | true =>
      obtain ⟨h | h, -⟩ := Yard.pendingWaiting_beyond hwait ht <;> dsimp only <;> rw [h] <;> rfl
    | false =>
      dsimp only
      rw [(Yard.pendingWaiting_within ht).1]
      rfl
  | free => obtain h | h := Yard.testFree_state (e := e) (hkept.trans hst) <;> dsimp only <;> rw [h] <;> rfl
  | moving =>
    cases (e.cfg i).kind with
    | wicket =>
      dsimp only
      rw [Yard.retargetWicket_state, hkept, hst]
      rfl
    | spill =>
      obtain h | h := Yard.retargetSpill_state (e := e) (i := i) (q := q) (y := z) <;> dsimp only <;> rw [h]
      · rw [hkept, hst]
        rfl
      · rfl
  | reversing =>
    dsimp only
    rw [Yard.gate_setGate]
    exact hs

end

end Sys2Proof.Machine
end

section
/-! PROOFS. The hand-over of motion targets, gate after gate (O52). -/

namespace Sys2Proof.Machine

section
variable {e : YardEnv} {i : Fin 16} {q : Nat} {lockAfter : Bool} {pr : Priority}

/-! ## What the hand-over of a round does to one gate -/

/-- In `y'` gate `i`, whose record was `g`, has taken a motion target, and besides only grants and early locks have reached it, before and
after. -/
def Yard.Hands (e : YardEnv) (i : Fin 16) (q : Nat) (lockAfter : Bool) (pr : Priority) (g : Gate) (y' : Yard) : Prop :=
  ∃ z, Gate.Drift e i g (z.gate i) ∧
    Gate.Drift e i ((Yard.takeTarget e i q lockAfter pr z).gate i) (y'.gate i) ∧
    ∀ x : DriveEntry, x.gate = i → ((Yard.takeTarget e i q lockAfter pr z).gate i).state ≠ .waitGrant →
      (Yard.takeTarget e i q lockAfter pr z).portF.Carries x → y'.portF.Carries x

theorem Gate.Drift.ordinary {g g' : Gate} (h : Gate.Drift e i g g') (hs : g.state.ordinary = true) : g'.state.ordinary = true := by
  cases h with
  | same => exact hs
  | granted => rfl
  | early => exact hs

theorem Gate.Drift.free {g g' : Gate} (h : Gate.Drift e i g g') (hs : g.state = .free) :
    ∃ early timer, g' = { g with earlyLock := early, stateTimer := timer } := by
  cases h with
  | same => exact ⟨_, _, rfl⟩
  | granted hw => exact absurd (hw.symm.trans hs) nofun
  | early _ _ t => exact ⟨true, _, rfl⟩

/-- The frame of a command to a gate's drive. -/
def YardEnv.command (e : YardEnv) (i : Fin 16) (c : DriveCommand) (n : Nat) : DriveEntry where
  gate := i
  frame := driveFrame (e.cfg i).driveAddress c n

section
variable {g : Gate} {y' : Yard} (h : Yard.Hands e i q lockAfter pr g y')
include h

/-- A record that neither a grant nor an early lock can touch is the one the gate keeps. -/
theorem Yard.Hands.gate_eq {g' : Gate} (hw : g'.state ≠ .waitGrant) (hf : g'.state ≠ .free)
    (hz : ∀ z, Gate.Drift e i g (z.gate i) → (Yard.takeTarget e i q lockAfter pr z).gate i = g') : y'.gate i = g' := by
  obtain ⟨z, hdrift, hafter, -⟩ := h
  rw [hz z hdrift] at hafter
  exact hafter.eq hw hf

theorem Yard.Hands.carries {x : DriveEntry} (hx : x.gate = i)
    (hz : ∀ z, Gate.Drift e i g (z.gate i) →
      ((Yard.takeTarget e i q lockAfter pr z).gate i).state ≠ .waitGrant ∧ (Yard.takeTarget e i q lockAfter pr z).portF.Carries x) :
    y'.portF.Carries x := by
  obtain ⟨z, hdrift, -, hcarries⟩ := h
  obtain ⟨hw, hcarried⟩ := hz z hdrift
  exact hcarries x hx hw hcarried

/-- The target with its flag and priority are set; what motion leaves alone stays. -/
theorem Yard.Hands.keeps {α : Type} {φ : Gate → α} (hφ : Gate.MotionFree φ) : φ (y'.gate i) = φ (g.aimed q lockAfter pr) := by
  obtain ⟨z, hdrift, hafter, -⟩ := h
  have haimed : Gate.MotionFree (fun g : Gate => φ (g.aimed q lockAfter pr)) := fun g _ _ _ _ _ _ _ _ _ _ _ => hφ (g.aimed q lockAfter pr) ..
  have htaken := Yard.takeTarget_motionFree hφ (e := e) (i := i) (y := z) (q := q) (lockAfter := lockAfter) (pr := pr) i
  rw [Yard.gate_setGate] at htaken
  exact (hafter.keeps hφ).trans (htaken.trans (hdrift.keeps haimed))

theorem Yard.Hands.ordinary (hs : g.state.ordinary = true) : (y'.gate i).state.ordinary = true := by
  obtain ⟨z, hdrift, hafter, -⟩ := h
  exact hafter.ordinary (Yard.takeTarget_ordinary (hdrift.ordinary hs))

/-! ## By the state of the gate (R4, R5, R10, R12, R17 to R21) -/

theorem Yard.Hands.stores (hs : g.state = .recovering ∨ g.state = .unlocking ∨ g.state = .locking) :
    y'.gate i = g.aimed q lockAfter pr := by
  have hne : g.state ≠ .waitGrant ∧ g.state ≠ .free := by
    obtain hs | hs | hs := hs <;> rw [hs] <;> exact ⟨nofun, nofun⟩
  refine h.gate_eq hne.1 hne.2 fun z hz => ?_
  have hzy := hz.eq hne.1 hne.2
  have htake : Yard.takeTarget e i q lockAfter pr z = z.setGate i ((z.gate i).aimed q lockAfter pr) := by
    rw [← hzy] at hs
    obtain hs | hs | hs := hs <;> exact Yard.takeTarget_eq hs
  rw [htake, Yard.gate_setGate, hzy]

theorem Yard.Hands.reversing (hs : g.state = .reversing) :
    y'.gate i = { g.aimed q lockAfter pr with pending := true } := by
  have hs' : ({ g.aimed q lockAfter pr with pending := true } : Gate).state = .reversing := hs
  refine h.gate_eq (by rw [hs']; exact nofun) (by rw [hs']; exact nofun) fun z hz => ?_
  have hzy := hz.eq (by rw [hs]; exact nofun) (by rw [hs]; exact nofun)
  rw [Yard.takeTarget_eq ((congrArg Gate.state hzy).trans hs)]
  dsimp only
  rw [Yard.gate_setGate, hzy]

theorem Yard.Hands.locked {l : Nat} (hs : g.state = .locked) (hl : g.positionAtLock = some l) :
    (gap q l ≤ (e.cfg i).band → y'.gate i = { g.aimed q lockAfter pr with pending := false, stateTimer := none }) ∧
    ((e.cfg i).band < gap q l → e.mode.governing = true →
      (∀ u, g.lastUnlock = some u → e.now < u + (e.cfg i).tCY →
        y'.gate i = { g.aimed q lockAfter pr with pending := true, stateTimer := some (u + (e.cfg i).tCY) }) ∧
      ((∀ u, g.lastUnlock = some u → u + (e.cfg i).tCY ≤ e.now) →
        (y'.gate i).pending = true ∧ ((y'.gate i).state = .waitGrant ∨ (y'.gate i).state = .unlocking))) := by
  have htake (z : Yard) (hz : Gate.Drift e i g (z.gate i)) :
      Yard.takeTarget e i q lockAfter pr z = Yard.pendingLocked e i (z.setGate i (g.aimed q lockAfter pr)) := by
    have hzy := hz.eq (by rw [hs]; exact nofun) (by rw [hs]; exact nofun)
    rw [← hzy]
    exact Yard.takeTarget_eq ((congrArg Gate.state hzy).trans hs)
  have hstate : (g.aimed q lockAfter pr).state = .locked := hs
  have haim (z : Yard) : (z.setGate i (g.aimed q lockAfter pr)).gate i = g.aimed q lockAfter pr := Yard.gate_setGate ..
  refine ⟨fun hw => ?_, fun hb hm => ?_⟩
  · refine h.gate_eq (by dsimp only; rw [hstate]; exact nofun) (by dsimp only; rw [hstate]; exact nofun) fun z hz => ?_
    rw [htake z hz, Yard.pendingLocked_within (by rw [haim]; exact (congrArg (pendingTest _ (some q)) hl).trans (pendingTest_within hw)),
      Yard.gate_setGate, haim]
  · have htest (z : Yard) (hz : Gate.Drift e i g (z.gate i)) : Yard.takeTarget e i q lockAfter pr z =
        Yard.testLocked e i (z.setGate i { g.aimed q lockAfter pr with pending := true }) := by
      rw [htake z hz, Yard.pendingLocked_beyond (by rw [haim]; exact (congrArg (pendingTest _ (some q)) hl).trans (pendingTest_beyond hb)),
        haim, Yard.setGate_setGate]
    have hpend (z : Yard) : (z.setGate i { g.aimed q lockAfter pr with pending := true }).gate i =
        { g.aimed q lockAfter pr with pending := true } := Yard.gate_setGate ..
    refine ⟨fun u hu hnow => ?_, fun hpast => ?_⟩
    · refine h.gate_eq (by dsimp only; rw [hstate]; exact nofun) (by dsimp only; rw [hstate]; exact nofun) fun z hz => ?_
      rw [htest z hz, Yard.testLocked_waits (u := u) (by rw [hpend]; exact hs) (by rw [hpend]) hm (by rw [hpend]; exact hu) hnow,
        Yard.gate_setGate, hpend]
    · obtain ⟨z, hz, hafter, -⟩ := h
      have hleaves := Yard.testLocked_leaves (e := e) (i := i)
        (y := z.setGate i { g.aimed q lockAfter pr with pending := true }) (by rw [hpend]; exact hs) (by rw [hpend]) hm
        (by rw [hpend]; exact hpast)
      have hpending := Yard.testLocked_pending (e := e) (i := i) (y := z.setGate i { g.aimed q lockAfter pr with pending := true })
      rw [htest z hz] at hafter
      rw [hpend] at hpending
      refine ⟨hafter.pending.trans hpending, ?_⟩
      obtain hs' | hs' := hleaves
      · exact hafter.waits hs'
      · exact .inr ((hafter.state (by rw [hs']; exact nofun)).trans hs')

theorem Yard.Hands.waiting {l : Nat} (hs : g.state = .waitGrant) (hl : g.positionAtLock = some l) :
    (gap q l ≤ (e.cfg i).band → (y'.gate i).state = .locked ∧ (y'.gate i).pending = false ∨ (y'.gate i).state = .unlocking) ∧
    ((e.cfg i).band < gap q l → (y'.gate i).state = .waitGrant ∧ (y'.gate i).pending = true ∨ (y'.gate i).state = .unlocking) := by
  obtain ⟨z, hz, hafter, -⟩ := h
  have hlock : (z.gate i).positionAtLock = some l := hz.positionAtLock.trans hl
  have hunlocks (hu : ((Yard.takeTarget e i q lockAfter pr z).gate i).state = .unlocking) : (y'.gate i).state = .unlocking :=
    (hafter.state (by rw [hu]; exact nofun)).trans hu
  obtain hw | hu := hz.waits hs
  · have haim : (z.setGate i ((z.gate i).aimed q lockAfter pr)).gate i = (z.gate i).aimed q lockAfter pr := Yard.gate_setGate ..
    have htake : Yard.takeTarget e i q lockAfter pr z = Yard.pendingWaiting e i (z.setGate i ((z.gate i).aimed q lockAfter pr)) :=
      Yard.takeTarget_eq hw
    refine ⟨fun hin => .inl ?_, fun hb => ?_⟩
    · obtain ⟨hstate, hpending⟩ := Yard.pendingWaiting_within (e := e) (i := i) (y := z.setGate i ((z.gate i).aimed q lockAfter pr))
        (by rw [haim]; exact (congrArg (pendingTest _ (some q)) hlock).trans (pendingTest_within hin))
      rw [← htake] at hstate hpending
      exact ⟨(hafter.state (by rw [hstate]; exact nofun)).trans hstate, hafter.pending.trans hpending⟩
    · obtain ⟨hstate, hpending⟩ := Yard.pendingWaiting_beyond (e := e) (i := i) (y := z.setGate i ((z.gate i).aimed q lockAfter pr))
        (by rw [haim]; exact hw) (by rw [haim]; exact (congrArg (pendingTest _ (some q)) hlock).trans (pendingTest_beyond hb))
      rw [← htake] at hstate hpending
      obtain hstate | hstate := hstate
      · exact (hafter.waits hstate).imp_left fun hw' => ⟨hw', hafter.pending.trans hpending⟩
      · exact .inr (hunlocks hstate)
  · have htake : Yard.takeTarget e i q lockAfter pr z = z.setGate i ((z.gate i).aimed q lockAfter pr) := Yard.takeTarget_eq hu
    have hstays : (y'.gate i).state = .unlocking := hunlocks (by rw [htake, Yard.gate_setGate]; exact hu)
    exact ⟨fun _ => .inr hstays, fun _ => .inr hstays⟩

theorem Yard.Hands.free {p : Nat} (hs : g.state = .free) (hp : g.position = some p) :
    (gap q p ≤ (e.cfg i).band → (y'.gate i).state = .free ∧ (y'.gate i).pending = false) ∧
    ((e.cfg i).band < gap q p → (e.cfg i).kind = .wicket →
      y'.gate i = (g.aimed q lockAfter pr).movesWicket (e.cfg i) e.now q ∧ y'.portF.Carries (e.command i .move q)) ∧
    ((e.cfg i).band < gap q p → (e.cfg i).kind = .spill →
      y'.gate i = (g.aimed q lockAfter pr).movesSpill (e.cfg i) e.now p q ∧
      y'.portF.Carries (e.command i (if p < q then .runRaise else .runLower) 0)) := by
  have htake (z : Yard) (hz : Gate.Drift e i g (z.gate i)) :
      Yard.takeTarget e i q lockAfter pr z = Yard.testFree e i (z.setGate i ((z.gate i).aimed q lockAfter pr)) :=
    Yard.takeTarget_eq ((hz.state (by rw [hs]; exact nofun)).trans hs)
  have haim (z : Yard) : (z.setGate i ((z.gate i).aimed q lockAfter pr)).gate i = (z.gate i).aimed q lockAfter pr := Yard.gate_setGate ..
  refine ⟨fun hw => ?_, fun hb hk => ?_, fun hb hk => ?_⟩
  · obtain ⟨z, hz, hafter, -⟩ := h
    have hposition : (z.gate i).position = some p := hz.position.trans hp
    obtain ⟨hstate, hpending⟩ := Yard.testFree_within (e := e) (i := i) (y := z.setGate i ((z.gate i).aimed q lockAfter pr))
      (by rw [haim]; exact (hz.state (by rw [hs]; exact nofun)).trans hs)
      (by rw [haim]; exact (congrArg (pendingTest _ (some q)) hposition).trans (pendingTest_within hw))
    rw [← htake z hz] at hstate hpending
    exact ⟨(hafter.state (by rw [hstate]; exact nofun)).trans hstate, hafter.pending.trans hpending⟩
  · have hmoves (z : Yard) (hz : Gate.Drift e i g (z.gate i)) : Yard.takeTarget e i q lockAfter pr z =
        Yard.issue e i .move q (z.setGate i ((g.aimed q lockAfter pr).movesWicket (e.cfg i) e.now q)) := by
      obtain ⟨early, timer, hzy⟩ := hz.free hs
      rw [htake z hz, Yard.testFree_wicket hk (q := q) (p := p) (by rw [haim]; rfl) (by rw [haim]; exact hz.position.trans hp) hb, haim,
        Yard.setGate_setGate, hzy]
      rfl
    refine ⟨h.gate_eq nofun nofun fun z hz => ?_, h.carries rfl fun z hz => ?_⟩ <;> rw [hmoves z hz]
    · rw [Yard.issue_gate, Yard.gate_setGate]
    · rw [Yard.issue_gate, Yard.gate_setGate]
      exact ⟨nofun, Yard.issue_carries ..⟩
  · have hmoves (z : Yard) (hz : Gate.Drift e i g (z.gate i)) : Yard.takeTarget e i q lockAfter pr z =
        Yard.issue e i (if p < q then .runRaise else .runLower) 0
          (z.setGate i ((g.aimed q lockAfter pr).movesSpill (e.cfg i) e.now p q)) := by
      obtain ⟨early, timer, hzy⟩ := hz.free hs
      rw [htake z hz, Yard.testFree_spill hk (q := q) (p := p) (by rw [haim]; rfl) (by rw [haim]; exact hz.position.trans hp) hb, haim,
        Yard.setGate_setGate, hzy]
      rfl
    refine ⟨h.gate_eq nofun nofun fun z hz => ?_, h.carries rfl fun z hz => ?_⟩ <;> rw [hmoves z hz]
    · rw [Yard.issue_gate, Yard.gate_setGate]
    · rw [Yard.issue_gate, Yard.gate_setGate]
      exact ⟨nofun, Yard.issue_carries ..⟩

theorem Yard.Hands.wicket {p m : Nat} (hs : g.state = .moving) (hk : (e.cfg i).kind = .wicket)
    (hp : g.position = some p) (hm : g.moveSetpoint = some m) :
    let taken := g.aimed q lockAfter pr
    if q = m then y'.gate i = taken
    else if (p < m ∧ p + (e.cfg i).band < q) ∨ (m < p ∧ q + (e.cfg i).band < p) then
      y'.gate i = { taken with moveSetpoint := some q, moveWatch := some (e.now + (e.cfg i).moveTimeout) } ∧
      y'.portF.Carries (e.command i .move q)
    else y'.gate i = { taken with pending := true } := by
  dsimp only
  have hstate : (g.aimed q lockAfter pr).state = .moving := hs
  have htake (z : Yard) (hz : Gate.Drift e i g (z.gate i)) :
      Yard.takeTarget e i q lockAfter pr z = Yard.retargetWicket e i q (z.setGate i (g.aimed q lockAfter pr)) := by
    have hzy := hz.eq (by rw [hs]; exact nofun) (by rw [hs]; exact nofun)
    rw [← hzy, Yard.takeTarget_eq ((congrArg Gate.state hzy).trans hs)]
    dsimp only
    rw [hk]
  have haim (z : Yard) : (z.setGate i (g.aimed q lockAfter pr)).gate i = g.aimed q lockAfter pr := Yard.gate_setGate ..
  have hretarget (z : Yard) := Yard.retargetWicket_eq (e := e) (i := i) (q := q) (y := z.setGate i (g.aimed q lockAfter pr)) (p := p)
    (m := m) (by rw [haim]; exact hp) (by rw [haim]; exact hm)
  split
  next heq =>
    refine h.gate_eq (by rw [hstate]; exact nofun) (by rw [hstate]; exact nofun) fun z hz => ?_
    rw [htake z hz, hretarget, if_pos heq, haim]
  next hne =>
    split
    next hsame =>
      have hmoves (z : Yard) (hz : Gate.Drift e i g (z.gate i)) : Yard.takeTarget e i q lockAfter pr z = Yard.issue e i .move q
          (z.setGate i { g.aimed q lockAfter pr with moveSetpoint := some q, moveWatch := some (e.now + (e.cfg i).moveTimeout) }) := by
        rw [htake z hz, hretarget, if_neg hne, if_pos hsame, haim, Yard.setGate_setGate]
      refine ⟨h.gate_eq (by dsimp only; rw [hstate]; exact nofun) (by dsimp only; rw [hstate]; exact nofun) fun z hz => ?_,
        h.carries rfl fun z hz => ?_⟩ <;> rw [hmoves z hz]
      · rw [Yard.issue_gate, Yard.gate_setGate]
      · rw [Yard.issue_gate, Yard.gate_setGate]
        exact ⟨by dsimp only; rw [hstate]; exact nofun, Yard.issue_carries ..⟩
    next hother =>
      refine h.gate_eq (by dsimp only; rw [hstate]; exact nofun) (by dsimp only; rw [hstate]; exact nofun) fun z hz => ?_
      rw [htake z hz, hretarget, if_neg hne, if_neg hother, haim, Yard.gate_setGate]

theorem Yard.Hands.spill {p : Nat} (hs : g.state = .moving) (hk : (e.cfg i).kind = .spill) (hp : g.position = some p) :
    let taken := g.aimed q lockAfter pr
    if (g.raising = true ∧ p + (e.cfg i).band < q) ∨ (g.raising = false ∧ q + (e.cfg i).band < p) then
      y'.gate i = { taken with
        moveSetpoint := some q, trimCount := 0, stateTimer := some (e.now + runLength (e.cfg i) (gap q p))
        moveWatch := some (e.now + (e.cfg i).moveTimeout) }
    else
      y'.gate i = { taken with state := .reversing, pending := true, stateTimer := some (e.now + (e.cfg i).reversalDwell) } ∧
      y'.portF.Carries (e.command i .stop 0) := by
  dsimp only
  have hstate : (g.aimed q lockAfter pr).state = .moving := hs
  have htake (z : Yard) (hz : Gate.Drift e i g (z.gate i)) :
      Yard.takeTarget e i q lockAfter pr z = Yard.retargetSpill e i q (z.setGate i (g.aimed q lockAfter pr)) := by
    have hzy := hz.eq (by rw [hs]; exact nofun) (by rw [hs]; exact nofun)
    rw [← hzy, Yard.takeTarget_eq ((congrArg Gate.state hzy).trans hs)]
    dsimp only
    rw [hk]
  have haim (z : Yard) : (z.setGate i (g.aimed q lockAfter pr)).gate i = g.aimed q lockAfter pr := Yard.gate_setGate ..
  have hretarget (z : Yard) := Yard.retargetSpill_eq (e := e) (i := i) (q := q) (y := z.setGate i (g.aimed q lockAfter pr)) (p := p)
    (by rw [haim]; exact hp)
  split
  next hon =>
    refine h.gate_eq (by dsimp only; rw [hstate]; exact nofun) (by dsimp only; rw [hstate]; exact nofun) fun z hz => ?_
    rw [htake z hz, hretarget, if_pos (by rw [haim]; exact hon), haim, Yard.gate_setGate]
  next hback =>
    refine ⟨h.gate_eq nofun nofun fun z hz => ?_, h.carries rfl fun z hz => ?_⟩ <;>
      rw [htake z hz, hretarget, if_neg (by rw [haim]; exact hback), haim, Yard.setGate_setGate]
    · rw [Yard.issue_gate, Yard.gate_setGate]
    · rw [Yard.issue_gate, Yard.gate_setGate]
      exact ⟨nofun, Yard.issue_carries ..⟩

end

end

end Sys2Proof.Machine
end

section
/-! PROOFS. The commit of a round, gate by gate: stage 7 (O52). -/

namespace Sys2Proof.Machine

/-! ## The hand-over gate after gate (R87) -/

section
variable {s t u : State} {i : Fin 16}

/-- From `s` to `t` only the yard and the Condition Unit have changed, and only grants and early locks have reached gate `i`. -/
structure State.Drifted (i : Fin 16) (s t : State) : Prop where
  frame : t = { s with yard := t.yard, desk := t.desk }
  gate : Gate.Drift s.yardEnv i (s.gate i) (t.gate i)
  carries : ∀ x : DriveEntry, x.gate = i → (s.gate i).state ≠ .waitGrant → s.yard.portF.Carries x → t.yard.portF.Carries x

theorem State.Drifted.refl (s : State) : State.Drifted i s s := ⟨rfl, .same, fun _ _ _ => id⟩

theorem State.Drifted.yardEnv (h : State.Drifted i s t) : t.yardEnv = s.yardEnv := by
  rw [h.frame]
  rfl

theorem State.Drifted.trans (hst : State.Drifted i s t) (htu : State.Drifted i t u) : State.Drifted i s u where
  frame := htu.frame.trans (congrArg (fun x : State => { x with yard := u.yard, desk := u.desk }) hst.frame)
  gate := hst.gate.trans (hst.yardEnv ▸ htu.gate)
  carries x hx hw hc := htu.carries x hx (by rw [hst.gate.state hw]; exact hw) (hst.carries x hx hw hc)

/-- The hand-over of one gate's motion target. -/
def State.handOne (s : State) (l : List (Fin 16 × Nat)) (p : Plan) : State :=
  let o := (openingIn l p.gate).getD p.setpoint
  if o = p.setpoint then s
  else
    let priority := s.motionPriority p o
    s.onYard p.gate (fun e y => Yard.takeTarget e p.gate o p.lockAfter priority y)

variable {l : List (Fin 16 × Nat)} {p : Plan}

theorem State.handTargets_cons (plans : List Plan) : s.handTargets (p :: plans) l = (s.handOne l p).handTargets plans l := rfl

theorem State.handTargets_append (front rest : List Plan) : s.handTargets (front ++ rest) l = (s.handTargets front l).handTargets rest l :=
  List.foldl_append ..

theorem State.handOne_idle (h : (openingIn l p.gate).getD p.setpoint = p.setpoint) : s.handOne l p = s := if_pos h

theorem State.handOne_yard (h : (openingIn l p.gate).getD p.setpoint ≠ p.setpoint) : (s.handOne l p).yard =
    Yard.takeTarget s.yardEnv p.gate ((openingIn l p.gate).getD p.setpoint) p.lockAfter
      (s.motionPriority p ((openingIn l p.gate).getD p.setpoint)) s.yard := by
  unfold State.handOne
  dsimp only
  rw [if_neg h, State.onYard_yard]

theorem State.handOne_frame : s.handOne l p = { s with yard := (s.handOne l p).yard, desk := (s.handOne l p).desk } := by
  unfold State.handOne
  dsimp only
  split
  · rfl
  · rw [State.onYard_yard]
    exact State.onYard_frame ..

theorem State.handOne_drifted (h : p.gate = i → (openingIn l p.gate).getD p.setpoint = p.setpoint) : State.Drifted i s (s.handOne l p) := by
  by_cases hidle : (openingIn l p.gate).getD p.setpoint = p.setpoint
  · rw [State.handOne_idle hidle]
    exact .refl s
  · have hne : i ≠ p.gate := fun heq => hidle (h heq.symm)
    have hacts := Yard.takeTarget_acts (e := s.yardEnv) (i := p.gate) ((openingIn l p.gate).getD p.setpoint) p.lockAfter
      (s.motionPriority p ((openingIn l p.gate).getD p.setpoint)) s.yard
    have hyard := State.handOne_yard (s := s) hidle
    rw [← hyard] at hacts
    exact ⟨State.handOne_frame, hacts.others i hne, fun x hx hw hc => hacts.carries x (by rw [hx]; exact hne) (by rw [hx]; exact hw) hc⟩

/-- Where the setpoint of a gate has not changed, the hand-over leaves it but for grants and early locks. -/
theorem State.handTargets_drifted {plans : List Plan} (h : ∀ p ∈ plans, p.gate = i → (openingIn l p.gate).getD p.setpoint = p.setpoint) :
    State.Drifted i s (s.handTargets plans l) := by
  induction plans generalizing s with
  | nil => exact .refl s
  | cons p plans ih =>
    rw [State.handTargets_cons]
    exact (State.handOne_drifted (h p List.mem_cons_self)).trans (ih fun p hp => h p (List.mem_cons_of_mem _ hp))

/-- Where the setpoint of a gate has changed, it takes that as its motion target, between what other gates' turns bring. -/
theorem State.handTargets_hands {front rest : List Plan} (hfront : ∀ x ∈ front, x.gate ≠ p.gate) (hrest : ∀ x ∈ rest, x.gate ≠ p.gate)
    (ho : (openingIn l p.gate).getD p.setpoint ≠ p.setpoint) :
    Yard.Hands s.yardEnv p.gate ((openingIn l p.gate).getD p.setpoint) p.lockAfter
      (s.motionPriority p ((openingIn l p.gate).getD p.setpoint)) (s.gate p.gate) (s.handTargets (front ++ p :: rest) l).yard := by
  rw [State.handTargets_append, State.handTargets_cons]
  have hbefore := State.handTargets_drifted (s := s) (l := l) (i := p.gate) fun x hx h => absurd h (hfront x hx)
  generalize s.handTargets front l = u at hbefore ⊢
  have hafter := State.handTargets_drifted (s := u.handOne l p) (l := l) (i := p.gate) fun x hx h => absurd h (hrest x hx)
  generalize State.handTargets (u.handOne l p) rest l = t at hafter ⊢
  have hpriority (o : Nat) : u.motionPriority p o = s.motionPriority p o := by
    have hlock := hbefore.gate.positionAtLock
    have hlvu : u.lvu = s.lvu := (congrArg State.lvu hbefore.frame :)
    have hcfg : u.cfg p.gate = s.cfg p.gate := congrArg (fun e : YardEnv => e.cfg p.gate) hbefore.yardEnv
    unfold State.motionPriority
    rw [hlock, hlvu, hcfg]
  have htaken := State.handOne_yard (s := u) ho
  rw [hbefore.yardEnv, hpriority] at htaken
  have henv : (u.handOne l p).yardEnv = s.yardEnv := by
    rw [State.handOne_frame]
    exact hbefore.yardEnv
  have hgate := hafter.gate
  have hcarries := hafter.carries
  rw [henv] at hgate
  unfold State.gate at hgate hcarries
  rw [htaken] at hgate hcarries
  exact ⟨u.yard, hbefore.gate, hgate, hcarries⟩

end

/-! ## The committed setpoints (R86) -/

section
variable (s : State) (i : Fin 16) (f : Nat)

/-- The record of a gate as its setpoint is committed. -/
def State.committed : Gate := if s.eligible i = true then { s.gate i with commanded := some (s.proposed f i) } else s.gate i

theorem State.commitSetpoints_gate : (s.commitSetpoints (proposals s.plans f)).gate i = s.committed i f := by
  have hfold : s.commitSetpoints (proposals s.plans f) = { s with
      yard := s.eligibleGates.foldl (fun y i => y.setGate i { y.gate i with commanded := some (s.proposed f i) }) s.yard } := by
    unfold State.commitSetpoints
    rw [State.proposals_plans, List.foldl_map]
    exact State.foldl_yard (fun y i => y.setGate i { y.gate i with commanded := some (s.proposed f i) }) s.eligibleGates s
  obtain ⟨hin, hout, -, -⟩ := Yard.foldl_alone (f := fun i y => y.setGate i { y.gate i with commanded := some (s.proposed f i) })
    (r := fun i g => { g with commanded := some (s.proposed f i) }) (fun i y => Yard.setGate_alone _) (fun i y => Yard.gate_setGate ..)
    s.eligibleGates_nodup s.yard
  have hgate := congrArg (State.gate · i) hfold
  unfold State.committed
  refine hgate.trans ?_
  split
  next he => exact hin i ((s.mem_eligibleGates i).2 he)
  next he => exact hout i fun hi => he ((s.mem_eligibleGates i).1 hi)

end

/-! ## What a round does to each gate (R86, R87) -/

section
variable {s : State} {a : Accepted} {f : Nat} (ha : a.setpoints = proposals s.plans f)
include ha

theorem State.roundHanded_unchanged {i : Fin 16} (h : s.eligible i = true → s.proposed f i = s.setpoint i) :
    Gate.Drift s.yardEnv i (s.committed i f) ((s.roundHanded s.plans a).gate i) := by
  have hgate := s.commitSetpoints_gate i f
  have hframe := s.commitSetpoints_frame (proposals s.plans f)
  unfold State.roundHanded
  rw [ha]
  generalize s.commitSetpoints (proposals s.plans f) = v at hgate hframe ⊢
  have hdrifted := State.handTargets_drifted (s := { v with rgv := { s.rgv with planned := a.planned } }) (i := i) (plans := s.plans)
    (l := proposals s.plans f) fun p hp hi => by
      rw [State.plans_eq] at hp
      obtain ⟨j, hj, rfl⟩ := List.mem_map.1 hp
      obtain rfl : j = i := hi
      have he := (s.mem_eligibleGates j).1 hj
      rw [State.openingIn_proposals]
      exact (congrArg (Option.getD · _) (if_pos he)).trans (h he)
  have henv : v.yardEnv = s.yardEnv := by
    rw [hframe]
    rfl
  have hdrift := hdrifted.gate
  have henv' : State.yardEnv { v with rgv := { s.rgv with planned := a.planned } } = s.yardEnv := henv
  have hgate' : State.gate { v with rgv := { s.rgv with planned := a.planned } } i = s.committed i f := hgate
  rw [henv', hgate'] at hdrift
  exact hdrift

theorem State.roundHanded_changed {i : Fin 16} (he : s.eligible i = true) (hne : s.proposed f i ≠ s.setpoint i) :
    Yard.Hands s.yardEnv i (s.proposed f i) (s.roundTarget s.fallbackFill i).lockAfter (s.motionPriority (s.planOf i) (s.proposed f i))
      { s.gate i with commanded := some (s.proposed f i) } (s.roundHanded s.plans a).yard := by
  have hcommitted := s.commitSetpoints_gate i f
  have hframe := s.commitSetpoints_frame (proposals s.plans f)
  unfold State.committed at hcommitted
  rw [if_pos he] at hcommitted
  unfold State.roundHanded
  rw [ha]
  generalize s.commitSetpoints (proposals s.plans f) = v at hcommitted hframe ⊢
  obtain ⟨front, rest, hsplit⟩ := List.append_of_mem ((s.mem_eligibleGates i).2 he)
  have hnodup := s.eligibleGates_nodup
  rw [hsplit] at hnodup
  have hplans : s.plans = front.map s.planOf ++ s.planOf i :: rest.map s.planOf := by
    rw [State.plans_eq, hsplit, List.map_append, List.map_cons]
  have hothers (l : List (Fin 16)) (hl : i ∉ l) : ∀ x ∈ l.map s.planOf, x.gate ≠ (s.planOf i).gate := fun x hx heq => by
    obtain ⟨j, hj, rfl⟩ := List.mem_map.1 hx
    have hji : j = i := heq
    exact hl (hji ▸ hj)
  have hfront : i ∉ front := fun hi => (List.nodup_append.1 hnodup).2.2 i hi i List.mem_cons_self rfl
  have hrest : i ∉ rest := (List.nodup_cons.1 (List.nodup_append.1 hnodup).2.1).1
  have hopening : (openingIn (proposals s.plans f) (s.planOf i).gate).getD (s.planOf i).setpoint = s.proposed f i := by
    rw [State.openingIn_proposals]
    exact congrArg (Option.getD · _) (if_pos he)
  have hhands := State.handTargets_hands (s := { v with rgv := { s.rgv with planned := a.planned } }) (l := proposals s.plans f)
    (hothers front hfront) (hothers rest hrest) (by rw [hopening]; exact hne)
  rw [hopening, ← hplans] at hhands
  have henv : State.yardEnv { v with rgv := { s.rgv with planned := a.planned } } = s.yardEnv := by
    rw [hframe]
    rfl
  have hpriority : State.motionPriority { v with rgv := { s.rgv with planned := a.planned } } (s.planOf i) (s.proposed f i) =
      s.motionPriority (s.planOf i) (s.proposed f i) := by
    have hlvu : v.lvu = s.lvu := (congrArg State.lvu hframe :)
    have hcfg : v.cfg i = s.cfg i := by rw [hframe]
    have hlock : (v.gate i).positionAtLock = (s.gate i).positionAtLock := (congrArg Gate.positionAtLock hcommitted :)
    show (if v.lvu.regime = .flood ∧ (v.cfg i).kind = .spill ∧ (v.gate i).positionAtLock.getD (s.setpoint i) < s.proposed f i then
      Priority.urgent else .normal) = _
    rw [hlvu, hcfg, hlock]
    rfl
  have hgate : State.gate { v with rgv := { s.rgv with planned := a.planned } } (s.planOf i).gate =
      { s.gate i with commanded := some (s.proposed f i) } := hcommitted
  rw [henv, hpriority, hgate] at hhands
  exact hhands

end

end Sys2Proof.Machine
end

section
/-! PROOFS. What a round leaves: its planned outflow, its result and its notice (O52). -/

namespace Sys2Proof.Machine

/-! ## The planned outflow (R63, R86) -/

section
variable {e : YardEnv} {i : Fin 16}

/-- Two records count alike in an outflow sum: both in ordinary states or both in the same one, at the same position. -/
def Gate.CountsAs (g g' : Gate) : Prop :=
  (g.state.ordinary = true ∧ g'.state.ordinary = true ∨ g'.state = g.state) ∧ g'.position = g.position

theorem contribution_congr (t : Tables) (head : Nat) {g g' : Gate} (h : g.CountsAs g') (o : Option Nat) :
    contribution t head i g' o = contribution t head i g o := by
  obtain ⟨hstate, hposition⟩ := h
  have hordinary (g : Gate) (hg : g.state.ordinary = true) : g.state ≠ .unseen ∧ g.state ≠ .faulted := by
    constructor <;> intro hs <;> rw [hs] at hg <;> exact nomatch hg
  have hunseen : g'.state = .unseen ↔ g.state = .unseen := by
    obtain ⟨hg, hg'⟩ | heq := hstate
    · exact iff_of_false (hordinary g' hg').1 (hordinary g hg).1
    · rw [heq]
  have hfaulted : g'.state = .faulted ↔ g.state = .faulted := by
    obtain ⟨hg, hg'⟩ | heq := hstate
    · exact iff_of_false (hordinary g' hg').2 (hordinary g hg).2
    · rw [heq]
  unfold contribution
  simp only [hunseen, hfaulted, hposition]

theorem Gate.Drift.countsAs {g g' : Gate} (h : Gate.Drift e i g g') : g.CountsAs g' := by
  refine ⟨?_, h.position⟩
  cases h with
  | same => exact .inr rfl
  | granted hs => exact .inl ⟨by rw [hs]; rfl, rfl⟩
  | early => exact .inr rfl

end

section
variable {s : State}

theorem State.eligible_ordinary {i : Fin 16} (h : s.eligible i = true) : (s.gate i).state.ordinary = true := by
  unfold State.eligible at h
  cases hs : (s.gate i).state <;> first | rfl | (rw [hs] at h; simp at h)

section
variable {a : Accepted} {f : Nat} (ha : a.setpoints = proposals s.plans f)
include ha

/-- A round leaves every gate its committed setpoint, and a state that counts as before. -/
theorem State.roundHanded_counts (i : Fin 16) : ((s.roundHanded s.plans a).gate i).commanded = (s.committed i f).commanded ∧
    (s.gate i).CountsAs ((s.roundHanded s.plans a).gate i) := by
  by_cases h : s.eligible i = true → s.proposed f i = s.setpoint i
  · have hdrift := State.roundHanded_unchanged ha h
    refine ⟨hdrift.commanded, ?_⟩
    have hcounts := hdrift.countsAs
    unfold State.committed at hcounts
    split at hcounts <;> exact hcounts
  · obtain ⟨he, hne⟩ := Classical.not_imp.1 h
    have hhands := State.roundHanded_changed ha he hne
    have hkeeps := hhands.keeps (φ := fun g : Gate => (g.commanded, g.position)) fun _ _ _ _ _ _ _ _ _ _ _ _ => rfl
    simp only [Prod.mk.injEq] at hkeeps
    obtain ⟨hcommanded, hposition⟩ := hkeeps
    have hordinary := State.eligible_ordinary he
    unfold State.committed
    rw [if_pos he]
    exact ⟨hcommanded, .inl ⟨hordinary, hhands.ordinary hordinary⟩, hposition⟩

theorem State.roundHanded_commanded {i : Fin 16} (he : s.eligible i = true) :
    ((s.roundHanded s.plans a).gate i).commanded = some (s.proposed f i) := by
  rw [(State.roundHanded_counts ha i).1, State.committed, if_pos he]

theorem State.roundHanded_plannedSum : (s.roundHanded s.plans a).plannedSum = s.proposedSum f := by
  have htables : (s.roundHanded s.plans a).tables = s.tables := (congrArg State.tables (s.roundHanded_frame s.plans a) :)
  have hlvu : (s.roundHanded s.plans a).lvu = s.lvu := (congrArg State.lvu (s.roundHanded_frame s.plans a) :)
  have hcounts := State.roundHanded_counts ha
  unfold State.plannedSum State.proposedSum
  rw [State.outflowSum_eq, htables, hlvu]
  refine congrArg List.sum (List.map_congr_left fun j _ => ?_)
  obtain ⟨hcommanded, hcount⟩ := hcounts j
  rw [contribution_congr _ _ hcount, hcommanded]
  unfold State.committed
  split <;> rfl

end

/-- Every gate at its setpoint gives the planned sum, where each eligible gate has one. -/
theorem State.proposedSum_zero (h : ∀ i, s.eligible i = true → (s.gate i).commanded ≠ none) : s.proposedSum 0 = s.plannedSum := by
  unfold State.plannedSum State.proposedSum
  rw [State.outflowSum_eq]
  refine congrArg List.sum (List.map_congr_left fun j _ => ?_)
  split
  next he =>
    obtain ⟨q, hq⟩ := Option.ne_none_iff_exists'.1 (h j he)
    rw [State.proposed_zero, State.setpoint, hq]
    rfl
  next => rfl

end

/-! ## The result (R88) -/

theorem State.recordResult_active {s : State} {r : RoundResult} (hr : r ≠ .none) : (s.recordResult r).active .rampHeld = decide (r = .held) := by
  cases r with
  | none => exact absurd rfl hr
  | held => exact (State.raised_raise _ _).1
  | applied | scaled => exact State.active_clear _ _

/-! ## The notice (R89, R118) -/

section
variable {s : State}

/-- Whether the hand-off of the planned outflow notifies it. -/
def State.Notifies (s : State) (planned : Nat) : Prop :=
  s.mdc.mode.governing = true ∧ s.portPresent .D = true ∧
    ∀ last, s.csu.lastNotified = some last → s.tables.stationOr.noticeThreshold ≤ gap planned last

theorem State.handOverPlanned_notifies (h : s.Notifies s.rgv.planned) : s.handOverPlanned = s.placeRelease := by
  obtain ⟨hm, hp, hlast⟩ := h
  unfold State.handOverPlanned State.noticesOn
  rw [hm, hp, Bool.and_self, if_pos rfl]
  split
  · rfl
  next last hl => exact if_pos (hlast last hl)

theorem State.handOverPlanned_keeps (h : ¬s.Notifies s.rgv.planned) : s.handOverPlanned = s := by
  unfold State.handOverPlanned State.noticesOn
  split
  next hon =>
    obtain ⟨hm, hp⟩ := (Bool.and_eq_true ..).mp hon
    split
    next hnone => exact absurd ⟨hm, hp, fun last hl => nomatch hnone.symm.trans hl⟩ h
    next last hl =>
      refine if_neg fun hle => h ⟨hm, hp, fun last' hl' => ?_⟩
      obtain rfl := Option.some.inj (hl.symm.trans hl')
      exact hle
  next => rfl

variable (s) (plans : List Plan) (a : Accepted)

theorem State.commitRound_notifies :
    (s.Notifies a.planned → s.Notified (s.commitRound plans a) a.planned s.csu.outSequence) ∧
    (¬s.Notifies a.planned → (s.commitRound plans a).csu = s.csu ∧ (s.commitRound plans a).portD = s.portD) := by
  have hhanded := s.roundHanded_frame plans a
  rw [State.commitRound_eq]
  generalize s.roundHanded plans a = u at hhanded ⊢
  have hrecord := u.recordResult_frame (roundResult plans a)
  generalize u.recordResult (roundResult plans a) = v at hrecord ⊢
  rw [hhanded] at hrecord
  have hcsu : v.csu = s.csu := (congrArg State.csu hrecord :)
  have hport : v.portD = s.portD := (congrArg State.portD hrecord :)
  have htables : v.tables = s.tables := (congrArg State.tables hrecord :)
  have hnow : v.now = s.now := (congrArg State.now hrecord :)
  have hmdc : v.mdc = s.mdc := (congrArg State.mdc hrecord :)
  have hplanned : v.rgv.planned = a.planned := (congrArg (fun x : State => x.rgv.planned) hrecord :)
  have hpresent : v.portPresent .D = s.portPresent .D := State.portPresent_of_station_eq (by rw [htables]) .D
  have hsame : v.Notifies v.rgv.planned ↔ s.Notifies a.planned := by
    unfold State.Notifies
    rw [hmdc, hpresent, hcsu, htables, hplanned]
  refine ⟨fun h => ?_, fun h => ?_⟩
  · have hplaced := v.placeRelease_notified
    rw [State.handOverPlanned_notifies (hsame.2 h)]
    generalize v.placeRelease = t at hplaced ⊢
    unfold State.Notified at hplaced ⊢
    rwa [htables, hnow, hport, hplanned, hcsu] at hplaced
  · rw [State.handOverPlanned_keeps (mt hsame.1 h)]
    exact ⟨hcsu, hport⟩

end

/-! ## The priority of a motion target (R87) -/

theorem State.motionPriority_planOf (s : State) (i : Fin 16) (q : Nat) : s.motionPriority (s.planOf i) q =
    if s.lvu.regime = .flood ∧ (s.cfg i).kind = .spill ∧ (s.gate i).positionAtLock.getD (s.setpoint i) < q then .urgent else .normal := rfl

end Sys2Proof.Machine
end

section
/-! PROOFS. The governing round (O52). -/

namespace Sys2Proof.Machine

section
variable (s : State)

theorem State.roundStart_yardEnv : s.roundStart.yardEnv = { now := s.now, tables := s.tables.swapped, mode := s.mdc.mode, draws := s.draws } := by
  obtain ⟨hnow, hmdc, -⟩ := s.roundStart_keeps
  have hdraws : s.roundStart.draws = s.draws := by
    have hframe := s.restartRound.swapShadows_frame
    rw [s.roundStart_frame]
    generalize s.restartRound.swapShadows = u at hframe ⊢
    rw [hframe]
    rfl
  unfold State.yardEnv
  rw [hnow, hmdc, hdraws, s.roundStart_tables]

/-- The target of a gate at the end of stage 3. -/
theorem State.roundTarget_spec (fill : List (Fin 16 × Nat)) (i : Fin 16) :
    let capped := s.cappedOpening fill i
    let floods : Prop := s.lvu.regime = .flood ∧ (s.cfg i).kind = .spill ∧ capped < s.floor
    (s.roundTarget fill i).opening = max (s.cfg i).minOpening
      (min (if capped < s.floor ∧ s.lvu.regime = .flood ∧ (s.cfg i).kind = .spill then s.floor else capped) (s.cfg i).maxOpening) ∧
    (floods → (s.roundTarget fill i).lockAfter = true) ∧ (¬floods → (s.roundTarget fill i).lockAfter = s.askedLock i) := by
  dsimp only
  rw [State.roundTarget_eq]
  split
  next hfloods =>
    obtain ⟨hregime, hspill, hbelow⟩ := hfloods
    rw [if_pos ⟨hbelow, hregime, hspill⟩]
    exact ⟨rfl, fun _ => rfl, fun h => absurd ⟨hregime, hspill, hbelow⟩ h⟩
  next hdry =>
    rw [if_neg fun ⟨hbelow, hregime, hspill⟩ => hdry ⟨hregime, hspill, hbelow⟩]
    exact ⟨rfl, fun h => absurd h hdry, fun _ => rfl⟩

/-- The residual of the fill walk. -/
theorem State.fillResidual_eq {walked : List (Fin 16)} (h : ∀ i ∈ walked, s.eligible i = true) : s.fillResidual walked =
    s.forecastInflow - (allGates.map (fun j =>
      if walked.contains j then 0 else (contribution s.tables s.lvu.head j (s.gate j) (s.gate j).commanded).1)).sum := by
  unfold State.fillResidual
  rw [State.outflowSum_eq]
  refine congrArg (fun l : List Nat => s.forecastInflow - l.sum) (List.map_congr_left fun j _ => ?_)
  split
  next hj =>
    have hordinary := State.eligible_ordinary (h j (List.contains_iff_mem.1 hj))
    have hfaulted : (s.gate j).state ≠ .faulted := fun hs => by rw [hs] at hordinary; exact nomatch hordinary
    unfold contribution
    rw [if_neg hfaulted]
    split <;> rfl
  next => rfl

/-! ## The commit by the first trial that fits (R83 to R88) -/

theorem State.commitRound_registers (plans : List Plan) (a : Accepted) :
    (s.commitRound plans a).rgv.planned = a.planned ∧ (s.commitRound plans a).rgv.lastResult = roundResult plans a ∧
    (s.commitRound plans a).yard = (s.roundHanded plans a).yard := by
  have hframe := s.commitRound_frame plans a
  generalize s.commitRound plans a = t at hframe ⊢
  exact ⟨(congrArg (fun x : State => x.rgv.planned) hframe :), (congrArg (fun x : State => x.rgv.lastResult) hframe :),
    (congrArg State.yard hframe :)⟩

theorem State.commitRound_keeps (plans : List Plan) (a : Accepted) : (s.commitRound plans a).mdc = s.mdc ∧ (s.commitRound plans a).lvu = s.lvu ∧
    (s.commitRound plans a).tables = s.tables ∧ (s.commitRound plans a).rgv.roundTimer = s.rgv.roundTimer := by
  have hframe := s.commitRound_frame plans a
  generalize s.commitRound plans a = t at hframe ⊢
  exact ⟨(congrArg State.mdc hframe :), (congrArg State.lvu hframe :), (congrArg State.tables hframe :),
    (congrArg (fun x : State => x.rgv.roundTimer) hframe :)⟩

theorem State.commitRound_rampHeld (plans : List Plan) (a : Accepted) :
    (s.commitRound plans a).active .rampHeld = decide (roundResult plans a = .held) := by
  have hframe := s.commitRound_frame plans a
  generalize s.commitRound plans a = t at hframe ⊢
  have hactive : t.active .rampHeld = ((s.roundHanded plans a).recordResult (roundResult plans a)).active .rampHeld :=
    State.active_of_record (congrArg (fun x : State => x.desk.record .rampHeld) hframe :)
  exact hactive.trans (State.recordResult_active (roundResult_ne_none plans a))

theorem State.commitRound_portU (plans : List Plan) (a : Accepted) : (s.commitRound plans a).portU = s.portU := by
  have hframe := s.commitRound_frame plans a
  generalize s.commitRound plans a = t at hframe ⊢
  exact (congrArg State.portU hframe :)

theorem State.roundStart_notifies (q : Nat) : s.roundStart.Notifies q ↔ s.mdc.mode.governing = true ∧ s.portPresent .D = true ∧
    ∀ last, s.roundStart.csu.lastNotified = some last → s.tables.stationOr.noticeThreshold ≤ gap q last := by
  obtain ⟨-, hmdc, -⟩ := s.roundStart_keeps
  have htables := s.roundStart_tables
  have hpresent : s.roundStart.portPresent .D = s.portPresent .D := State.portPresent_of_station_eq (by rw [htables]; rfl) .D
  have hstation : s.roundStart.tables.stationOr = s.tables.stationOr := by
    rw [htables]
    rfl
  unfold State.Notifies
  rw [hmdc, hpresent, hstation]

/-- In `t` every eligible gate has committed the proposal of a fraction. -/
def State.Commits (s : State) (f : Nat) (t : State) : Prop :=
  (∀ i, s.eligible i = true → (t.gate i).commanded = some (s.proposed f i)) ∧ t.rgv.planned = s.proposedSum f

theorem State.commitRound_commits (f : Nat) (first : Bool) : s.Commits f (s.commitRound s.plans (s.accepted f first)) ∧
    (s.commitRound s.plans (s.accepted f first)).rgv.lastResult = roundResult s.plans (s.accepted f first) := by
  obtain ⟨hplanned, hresult, hyard⟩ := s.commitRound_registers s.plans (s.accepted f first)
  refine ⟨⟨fun i he => ?_, hplanned⟩, hresult⟩
  have hcommanded := State.roundHanded_commanded (a := s.accepted f first) (f := f) rfl he
  exact (congrArg (fun y : Yard => (y.gate i).commanded) hyard).trans hcommanded

theorem State.commitRound_scaled (f : Nat) : s.Commits f (s.commitRound s.plans (s.accepted f false)) ∧
    (s.commitRound s.plans (s.accepted f false)).rgv.lastResult =
      (if ∃ i, s.eligible i = true ∧ s.proposed f i ≠ s.setpoint i then .scaled else .held) := by
  rw [← s.roundResult_accepted f]
  exact s.commitRound_commits f false

theorem State.commitRound_held (q : Nat) :
    (∀ i, s.eligible i = true → ((s.commitRound s.plans (s.heldAt q)).gate i).commanded = some (s.setpoint i)) ∧
    (s.commitRound s.plans (s.heldAt q)).rgv.planned = q ∧ (s.commitRound s.plans (s.heldAt q)).rgv.lastResult = .held := by
  obtain ⟨hplanned, hresult, hyard⟩ := s.commitRound_registers s.plans (s.heldAt q)
  refine ⟨fun i he => ?_, hplanned, hresult.trans (s.roundResult_held q)⟩
  have hcommanded := State.roundHanded_commanded (a := s.heldAt q) (f := 0) rfl he
  rw [State.proposed_zero] at hcommanded
  exact (congrArg (fun y : Yard => (y.gate i).commanded) hyard).trans hcommanded

/-- The first trial that fits is committed; where none fits every gate holds. -/
theorem State.commitRound_trials (q : Nat) :
    let t := s.commitRound s.plans (s.trials s.plans q)
    let scaled (f : Nat) : Prop := s.Commits f t ∧
      t.rgv.lastResult = (if ∃ i, s.eligible i = true ∧ s.proposed f i ≠ s.setpoint i then .scaled else .held)
    if s.fits q 65536 = true then s.Commits 65536 t ∧ t.rgv.lastResult = .applied
    else if s.fits q (s.secondTrial q) = true then scaled (s.secondTrial q)
    else if s.fits q (s.secondTrial q / 2) = true then scaled (s.secondTrial q / 2)
    else if s.fits q (s.secondTrial q / 4) = true then scaled (s.secondTrial q / 4)
    else if s.fits q (s.secondTrial q / 8) = true then scaled (s.secondTrial q / 8)
    else
      (∀ i, s.eligible i = true → (t.gate i).commanded = some (s.setpoint i)) ∧ t.rgv.planned = q ∧ t.rgv.lastResult = .held := by
  dsimp only
  rw [s.trials_eq q]
  by_cases h0 : s.fits q 65536 = true
  · rw [if_pos h0, if_pos h0]
    exact s.commitRound_commits 65536 true
  rw [if_neg h0, if_neg h0]
  by_cases h1 : s.fits q (s.secondTrial q) = true
  · rw [if_pos h1, if_pos h1]
    exact s.commitRound_scaled _
  rw [if_neg h1, if_neg h1]
  by_cases h2 : s.fits q (s.secondTrial q / 2) = true
  · rw [if_pos h2, if_pos h2]
    exact s.commitRound_scaled _
  rw [if_neg h2, if_neg h2]
  by_cases h3 : s.fits q (s.secondTrial q / 4) = true
  · rw [if_pos h3, if_pos h3]
    exact s.commitRound_scaled _
  rw [if_neg h3, if_neg h3]
  by_cases h4 : s.fits q (s.secondTrial q / 8) = true
  · rw [if_pos h4, if_pos h4]
    exact s.commitRound_scaled _
  rw [if_neg h4, if_neg h4]
  exact s.commitRound_held q

end

/-- Settles O52: a round commits what its trials accept, and hands each changed setpoint to its gate. -/
theorem roundsStayWithinTheLimits : Obligations.RoundsStayWithinTheLimits := by
  refine ⟨fun s e h he => ?_, ?_, fun s i => s.roundStart_adopts i, fun s fill i => s.roundTarget_spec fill i,
    fun s front rest l hrows hlevel hrest => ?_, fun s list before after i hlist hnodup hwalked => ?_⟩
  · intro s1 limits
    have htake : s.takeRound = s1.commitRound s1.plans (s1.trials s1.plans s1.plannedSum) := rfl
    have henv : s1.yardEnv = { now := s.now, tables := s.tables.swapped, mode := s.mdc.mode, draws := s.draws } := s.roundStart_yardEnv
    have hcfg (i : Fin 16) : s1.cfg i = s.cfg i := s.roundStart_cfg i
    have hold (i : Fin 16) : (s1.gate i).commanded = (s.gate i).commanded ∧ (s1.gate i).target = (s.gate i).target := by
      have hgate : s1.gate i = { s.gate i with slot := (s1.gate i).slot, standing := (s1.gate i).standing } := s.roundStart_gate_keeps i
      rw [hgate]
      exact ⟨rfl, rfl⟩
    have hswapped : s1.tables = s.tables.swapped := s.roundStart_tables
    have hstart : s1.mdc = s.mdc ∧ s1.lvu = s.lvu ∧ s1.rgv.roundTimer = some (s.now + s.tables.stationOr.roundInterval) := by
      obtain ⟨-, hmdc, hlvu, -, hrgv⟩ := s.roundStart_keeps
      exact ⟨hmdc, hlvu, congrArg Rgv.roundTimer hrgv⟩
    obtain ⟨hmdc, hlvu, htimer⟩ := hstart
    have hlimits : limits = s1.limits s1.plannedSum := rfl
    clear_value limits s1
    subst hlimits
    obtain ⟨f, hf, ha, hsum, hwithin⟩ := s1.trials_fraction s1.plannedSum
    refine ⟨_, (exec_governingRound h he).trans (congrArg _ htake), ?_⟩
    generalize s1.trials s1.plans s1.plannedSum = a at ha hsum hwithin ⊢
    obtain ⟨hplanned, hresult, hyard⟩ := s1.commitRound_registers s1.plans a
    obtain ⟨htmdc, htlvu, httables, httimer⟩ := s1.commitRound_keeps s1.plans a
    have hramp := s1.commitRound_rampHeld s1.plans a
    generalize s1.commitRound s1.plans a = t at *
    have hhanded := State.roundHanded_plannedSum ha
    have hunchanged := fun i => State.roundHanded_unchanged ha (i := i)
    have hchanged := fun i => State.roundHanded_changed ha (i := i)
    have hcommits := fun i => State.roundHanded_commanded ha (i := i)
    have hframe := s1.roundHanded_frame s1.plans a
    generalize s1.roundHanded s1.plans a = v at *
    have hgate (i : Fin 16) : t.gate i = v.gate i := congrArg (Yard.gate · i) hyard
    have htsum : t.plannedSum = s1.proposedSum f :=
      (State.plannedSum_congr (httables.trans (congrArg State.tables hframe :).symm) (htlvu.trans (congrArg State.lvu hframe :).symm) hgate).trans hhanded
    have hbounds := of_decide_eq_true hwithin
    refine ⟨httimer.trans htimer, htmdc.trans hmdc, htlvu.trans hlvu, httables, httables.trans hswapped, by omega, by omega, fun hall => ?_,
      fun i hi => ?_, fun i hi => ?_, by rw [hramp, hresult]⟩
    · obtain hsum | ⟨rfl, hsum⟩ := hsum
      · rw [hplanned, hsum, htsum]
      · rw [hplanned, hsum, htsum, State.proposedSum_zero hall]
    · have hdrift := hunchanged i fun he => absurd (hi.symm.trans he) Bool.false_ne_true
      have hcommitted : s1.committed i f = s1.gate i := if_neg (by rw [hi]; exact Bool.false_ne_true)
      rw [hcommitted] at hdrift
      obtain ⟨hcommanded, htarget⟩ := hold i
      rw [hgate]
      exact ⟨hdrift.commanded.trans hcommanded, hdrift.target.trans htarget⟩
    · obtain ⟨hslew, hbetween⟩ := s1.proposed_between i hf
      rw [hcfg] at hslew
      refine ⟨s1.proposed f i, (congrArg Gate.commanded (hgate i)).trans (hcommits i hi), hslew, hbetween, fun heq => ?_, fun hne => ?_⟩
      · have hdrift := hunchanged i fun _ => heq
        have hcommitted : s1.committed i f = { s1.gate i with commanded := some (s1.proposed f i) } := if_pos hi
        rw [hcommitted] at hdrift
        rw [hgate]
        exact ⟨hdrift.target, hdrift.lockAfter, hdrift.priority⟩
      · have hhands := hchanged i hi hne
        rw [State.motionPriority_planOf, hcfg, henv, ← hyard] at hhands
        have haim := hhands.keeps (φ := fun g : Gate => (g.target, g.lockAfter, g.priority)) fun _ _ _ _ _ _ _ _ _ _ _ _ => rfl
        simp only [Prod.mk.injEq] at haim
        obtain ⟨htarget, hlock, hpriority⟩ := haim
        refine ⟨htarget, hlock, hpriority, ?_, fun hs => hhands.stores hs, fun hs => hhands.reversing hs, fun l hs hl => hhands.locked hs hl,
          fun l hs hl => hhands.waiting hs hl, fun p hs hp => hhands.free hs hp, fun p m hs hk hp hm => hhands.wicket hs hk hp hm,
          fun p hs hk hp => hhands.spill hs hk hp⟩
        have hurgent := iff_of_eq (congrArg (· = Priority.urgent) hpriority)
        exact hurgent.trans ⟨fun h => by_contra fun hn => (nomatch (if_neg hn).symm.trans h), fun h => if_pos h⟩
  · intro s e h he s1 limits sp step proposed sum change fits second
    have hproposed : proposed = s1.proposed := by
      funext f i
      show ((s1.setpoint i : Int) + (slewed (s.cfg i).slew _ * (f : Int)).tdiv 65536).toNat = _
      rw [← s.roundStart_cfg i]
      rfl
    have hsum : sum = s1.proposedSum := by
      funext f
      show (allGates.map _).sum = _
      rw [hproposed]
      rfl
    have hfits : fits = s1.fits s1.plannedSum := by
      funext f
      show withinLimits limits ((sum f : Int) - (s1.plannedSum : Int)) = _
      rw [hsum]
      rfl
    have hsecond : second = s1.secondTrial s1.plannedSum := by
      show secondFraction limits ((sum 65536 : Int) - (s1.plannedSum : Int)) = _
      rw [hsum]
      rfl
    have htake : s.takeRound = s1.commitRound s1.plans (s1.trials s1.plans s1.plannedSum) := rfl
    have hportD : s1.portD = s.portD := by
      obtain ⟨-, -, -, hportD, -⟩ := s.roundStart_keeps
      exact hportD
    have hnotifies := s.roundStart_notifies
    have hsp : sp = s1.setpoint := rfl
    change ∀ q, s1.Notifies q ↔ s.mdc.mode.governing = true ∧ s.portPresent .D = true ∧
      ∀ last, s1.csu.lastNotified = some last → s.tables.stationOr.noticeThreshold ≤ gap q last at hnotifies
    clear_value second fits change sum proposed step sp limits s1
    subst hproposed hsum hfits hsecond hsp
    have htrials := s1.commitRound_trials s1.plannedSum
    obtain ⟨hnotified, hkept⟩ := s1.commitRound_notifies s1.plans (s1.trials s1.plans s1.plannedSum)
    obtain ⟨hplanned, -, -⟩ := s1.commitRound_registers s1.plans (s1.trials s1.plans s1.plannedSum)
    have hcsu := s1.commitRound_csu s1.plans (s1.trials s1.plans s1.plannedSum)
    have hportU := s1.commitRound_portU s1.plans (s1.trials s1.plans s1.plannedSum)
    refine ⟨_, (exec_governingRound h he).trans (congrArg _ htake), ?_⟩
    rw [← hplanned] at hnotified hkept
    generalize s1.commitRound s1.plans (s1.trials s1.plans s1.plannedSum) = t at *
    exact ⟨htrials, hportU, fun hn => ⟨hnotified ((hnotifies _).2 hn), hcsu⟩,
      fun hn => ⟨(hkept (mt (hnotifies _).1 hn)).1, (hkept (mt (hnotifies _).1 hn)).2.trans hportD⟩⟩
  · have hfloor := (State.floor_eq hrows hlevel).trans (floodFloor_append_below hrest)
    refine ⟨fun hf => ?_, fun f row hf hr => ?_⟩
    · rw [hfloor, hf]
      rfl
    · rw [hfloor, hf, floodFloor_last hr]
  · dsimp only
    split
    next htracking =>
      have hfill : s.fallbackFill = fillWalk s.tables s.lvu.head (before ++ i :: after) (s.fillResidual (before ++ i :: after)) := by
        unfold State.fallbackFill State.fillTargets State.walked
        rw [htracking, hlist, ← hwalked]
      have hresidual := s.fillResidual_eq (walked := before ++ i :: after) fun j hj => by
        rw [← hwalked] at hj
        exact (List.mem_filter.1 hj).2
      have hopening := openingIn_fillWalk (t := s.tables) (head := s.lvu.head) (hwalked ▸ hnodup.filter s.eligible)
        (s.fillResidual (before ++ i :: after))
      rw [← hfill, hresidual, ← hwalked] at hopening
      exact hopening
    next hother =>
      unfold State.fallbackFill
      split
      next htracking _ => exact absurd htracking hother
      next => rfl

end Sys2Proof.Machine
end
